-- ==== Sys2Proof/Word.lean ====
section
/-! DEFINITION. The words of the model: bytes, register dwords, 64-bit values, and the small numeric types that the
commands' operands carry. Field extraction, byte order and arithmetic stand in Machine/Ops.lean. -/
namespace Sys2Proof

/-- One byte of memory or of a frame. -/
abbrev Byte := BitVec 8
/-- One register of the window (R41). -/
abbrev Word := BitVec 32
/-- A 64-bit register pair, general register or coprocessor value (R50, R186). -/
abbrev W64 := BitVec 64
/-- A 128-bit flow-context granule or cipher block. -/
abbrev W128 := BitVec 128
/-- Bytes in ascending address order; a frame from its destination address through its FCS. -/
abbrev Bytes := List (BitVec 8)
/-- A page number of the register window (R40). -/
abbrev Page := BitVec 10
/-- A byte offset within a page (R40). -/
abbrev Off := BitVec 16
/-- A general register number (R186). -/
abbrev Reg := BitVec 5
/-- A hardware thread: bit 11 clear, the thread address of R9 in [10:0]; bit 11 set, a Telemark thread, its number
(pair in [2], thread in [1:0]) in [2:0]. -/
abbrev Tid := BitVec 12
/-- A logical port number (R10). -/
abbrev Port := BitVec 11
/-- A lane: 0-127 field lanes FL, 128-159 trunk lanes TL, 160-161 management lanes (R11). -/
abbrev Lane := BitVec 8
/-- A cell number of the packet buffer (R330). -/
abbrev CellId := BitVec 19
/-- A packet's serial number: the model's name for one arrived frame and its descriptor. -/
abbrev PktId := Nat

/-- The requester identities of the register fabric (R42), and the configuration loader of R75. -/
inductive Requester where
  /-- the PCIe physical function -/
  | pf
  /-- a host instance, 0-255 -/
  | inst (i : BitVec 8)
  /-- a Telemark hardware thread, 0-7 -/
  | tel (n : BitVec 3)
  /-- a packet-core thread by its thread address (R9) -/
  | core (t : BitVec 11)
  /-- the debugger, through the TAP -/
  | dbg
  /-- the configuration loader of BOOT, with Telemark rights (R75); no command of the queue names it (WellFormed) -/
  | loader
deriving DecidableEq, Repr

/-- The tamper events of R493. -/
inductive TamperCause where
  | pin | voltage | clock | wipeFail
deriving DecidableEq, Repr

/-- The four parts of R1. -/
inductive Part where
  | cf1024S | cf1024E | cf0512S | cf1024F
deriving DecidableEq, Repr

end Sys2Proof
end

