-- ==== Sys2Proof/Syntax.lean ====
section
/-! DEFINITION. The commands of the block: one constructor per row of spec/opcode_table.json, in the table's order,
each with the operands its rule gives it. A command of a thread names the thread first (R9); a register command names its
requester (R42). A command of the Sugor instruction set carries the fields of its encoding (R202). -/
namespace Sys2Proof

/-- The commands. -/
inductive Instr where
  /-- POWER_APPLIED (R64): Power is applied to an unpowered device, which moves from OFF to RESET while PORST_N is low. -/
  | powerApplied
  /-- POWER_REMOVED (R64): Power is removed and the device goes to OFF from any mode. -/
  | powerRemoved
  /-- PORST_N_ASSERT (R519): A filtered low level on PORST_N takes the device into RESET within 1 µs as a cold reset. -/
  | porstNAssert
  /-- PORST_N_RELEASE (R519): Release of PORST_N, with SYSRST_N also high, lets the device leave RESET for BOOT. -/
  | porstNRelease
  /-- SYSRST_N_ASSERT (R519): A filtered low level on SYSRST_N takes the device into RESET as a warm reset, unless PORST_N is low. -/
  | sysrstNAssert
  /-- SYSRST_N_RELEASE (R519): Release of SYSRST_N, with PORST_N high, lets the device leave RESET for BOOT. -/
  | sysrstNRelease
  /-- POWER_ON_DETECTOR_TRIP (R520): A power-on detector on VDD_IO, VDD_CORE or VDD_SRAM trips, which holds the device in RESET as if PORST_N were asserted. -/
  | powerOnDetectorTrip (det : BitVec 2)
  /-- PLL_LOCK_LOSS (R31): The root PLL loses lock: every divided clock stops, PENNANT stops and the safety controller drives FAULT_N low within 100 µs. -/
  | pllLockLoss
  /-- REF_CLOCK_LOSS (R518): A lane, management or PCIe reference input is absent or off frequency, so its status bit clears, CLK_REF_LOSS counts and its lanes or link go DOWN. -/
  | refClockLoss (input : BitVec 5)
  /-- REF_CLOCK_RETURN (R518): A lost reference input returns: its status bit is set again and its lanes come up under R111. -/
  | refClockReturn (input : BitVec 5)
  /-- TAMPER_EVENT (R494): A TAMPER_N, voltage-glitch, clock-glitch or WIPE_FAIL event triggers the secure wipe, latches its cause, logs it and takes the mode to ZEROIZE. -/
  | tamperEvent (cause : TamperCause)
  /-- WIPE_DONE (R351): The secure wipe completes its zeroing and verify pass, sets WIPE_STATUS.DONE, logs a record and lets accesses resume, or sets FAIL. -/
  | wipeDone (unit : BitVec 6) (ok : Bool)
  /-- ZEROIZE_DONE (R496): The ZEROIZE erasure of memories, registers and HBM completes and LIFE_ZERO_STATUS.DONE is set, or FAIL for a failing range. -/
  | zeroizeDone (ok : Bool)
  /-- BOOT_ENTRY (R76): After reset release the device enters BOOT with the root PLL locked, sets MODE_STATUS start fields and completes any interrupted fuse group. -/
  | bootEntry
  /-- HBM_TRAINING_DONE (R372): Training of an HBM stack completes; a failure marks the stack in MODE_BOOT and leads the boot to FALLBACK. -/
  | hbmTrainingDone (stack : BitVec 1) (ok : Bool) (repairs : BitVec 8) (failCode : BitVec 4)
  /-- BOOT_SELFTEST_DONE (R79): Boot memory and logic self-test completes; a piste failure marks the piste lost, a shared-unit or Telemark failure leads to SAFE-STATE. -/
  | bootSelftestDone (fail : BitVec 6)
  /-- STAGING_RECHECK (R89): At a warm restart the staging copy's check word and signature are re-checked, and on failure flash is read in the ordinary order. -/
  | stagingRecheck
  /-- SLOT_HEADER_READ (R77): The valid record and header of a candidate slot are read and checks 1 to 3 are applied before its stream begins. -/
  | slotHeaderRead
  /-- IMAGE_STREAM_END (R77): The stream of a candidate image ends; the check word, IMAGE_CRC and signature are checked, and a failing slot passes to the next candidate. -/
  | imageStreamEnd (flashError : Bool)
  /-- RECORD_WRITE (R83): The loader applies a WRITE record as a masked register write, failing the slot with RECORD if refused. -/
  | recordWrite
  /-- RECORD_PAYLOAD (R83): The loader copies payload bytes into successive dwords of a page. -/
  | recordPayload
  /-- RECORD_GOLDEN (R83): The loader writes VALUE to a page's CFG_GOLDEN. -/
  | recordGolden
  /-- RECORD_POLL (R83): The loader waits until a masked register value equals VALUE. -/
  | recordPoll
  /-- POLL_TIMEOUT (R83): A POLL record's limit expires and the slot fails with TIMEOUT. -/
  | pollTimeout
  /-- RECORD_END (R83): The END record closes the record list and the loader completes the LIFE and DBG references. -/
  | recordEnd
  /-- BOOT_READY (R76): After a configuration-check pass and GOLDEN comparisons the loader clears the flow and spill areas, enters the target mode and sets READY. -/
  | bootReady
  /-- REQ_CONFIGURE (R64): A MODE_REQ write requests CONFIGURE, judged by key, code and the transition table. -/
  | reqConfigure (req : Requester) (key : BitVec 16)
  /-- REQ_COMMISSION (R64): A MODE_REQ write requests COMMISSION. -/
  | reqCommission (req : Requester) (key : BitVec 16)
  /-- REQ_OPERATE (R64): A MODE_REQ write requests OPERATE. -/
  | reqOperate (req : Requester) (key : BitVec 16)
  /-- REQ_SAFE_OPERATE (R68): A MODE_REQ write requests SAFE-OPERATE, accepted only when every condition of R68 holds, else MODE_ENTRY_FAIL records the failures. -/
  | reqSafeOperate (req : Requester) (key : BitVec 16)
  /-- REQ_DEGRADED (R64): A MODE_REQ write requests DEGRADED and always completes with STATE_REFUSED. -/
  | reqDegraded (req : Requester) (key : BitVec 16)
  /-- REQ_SAFE_STATE (R64): A MODE_REQ write requests SAFE-STATE. -/
  | reqSafeState (req : Requester) (key : BitVec 16)
  /-- REQ_MAINTENANCE (R64): A MODE_REQ write requests MAINTENANCE. -/
  | reqMaintenance (req : Requester) (key : BitVec 16)
  /-- REQ_ZEROIZE (R64): A MODE_REQ write requests ZEROIZE. -/
  | reqZeroize (req : Requester) (key : BitVec 16)
  /-- WARM_RESTART (R71): A MODE_REQ WARM_RESTART acts as an assertion and release of SYSRST_N, optionally as a trial of a named slot. -/
  | warmRestart (req : Requester) (key : BitVec 16)
  /-- COLD_RESTART (R71): A MODE_REQ COLD_RESTART acts as an assertion and release of PORST_N, optionally as a trial of a named slot. -/
  | coldRestart (req : Requester) (key : BitVec 16)
  /-- MODE_TRANSITION (R64): At the transition instant, after admitted packets drain, the mode changes and MODE_STATUS, graph states, watchdogs and debug state follow. -/
  | modeTransition
  /-- REGISTER_WRITE (R41): A register write to a register without behaviour of its own is judged for rights, mode and lock and applied or refused. -/
  | registerWrite (req : Requester) (page : Page) (off : Off) (value : Word)
  /-- REG64_LOW_READ (R50): A read of a 64-bit register's low half returns it and latches the high half of the same instant for the requester. -/
  | reg64LowRead (req : Requester) (page : Page) (off : Off)
  /-- REG64_LOW_WRITE (R50): A write of a 64-bit register's low half is held in the requester's write stage and changes nothing. -/
  | reg64LowWrite (req : Requester) (page : Page) (off : Off) (value : Word)
  /-- REG64_HIGH_WRITE (R50): A write of a 64-bit register's high half commits both halves in one step after rights, mode and lock are judged. -/
  | reg64HighWrite (req : Requester) (page : Page) (off : Off) (value : Word)
  /-- READ_CLEAR (R8): A read of an RC field returns its value and clears it. -/
  | readClear (req : Requester) (page : Page) (off : Off)
  /-- TIME_NS_READ (R424): A read of TIME_NS or TIME_PPS_NS latches the seconds and fraction of the same instant for the requester. -/
  | timeNsRead (req : Requester) (pps : Bool)
  /-- SOFT_RESET (R49): Writing PAGE_CTRL.SOFT_RESET returns the page's configuration set and block to reset, unless the lock is in force. -/
  | softReset (req : Requester) (page : Page)
  /-- SOFT_RESET_DONE (R49): A soft reset completes, clearing RESETTING and setting SOFT_RESET_DONE and GOLDEN_WAIT. -/
  | softResetDone (page : Page)
  /-- ERR_CLR (R57): Writing PAGE_CTRL.ERR_CLR clears the page's error counters and capture. -/
  | errClr (req : Requester) (page : Page)
  /-- INT_STATUS_CLEAR (R58): A W1C write to INT_STATUS clears causes and renotifies targets if pending causes remain. -/
  | intStatusClear (req : Requester) (page : Page) (mask : Word)
  /-- INT_FORCE (R60): Writing INT_FORCE sets and delivers interrupt causes, sending a FORCED record to the safety controller. -/
  | intForce (req : Requester) (page : Page) (mask : Word)
  /-- MEMORY_ERROR (R57): An error detected in a page's memory counts in ERR_COUNT_CE or ERR_COUNT_UE and is captured in ERR_FIRST. -/
  | memoryError (page : Page) (source : BitVec 8) (addr : Word) (syndrome : BitVec 16) (ue : Bool)
  /-- CFG_GOLDEN_WRITE (R54): A write to CFG_GOLDEN sets the reference and clears GOLDEN_WAIT. -/
  | cfgGoldenWrite (req : Requester) (page : Page) (value : Word)
  /-- CFG_CHECK_PASS (R53): A checker pass over the configuration set completes and updates CFG_CHECK. -/
  | cfgCheckPass (page : Page)
  /-- CFG_COMPARE (R54): Every 10 ms the safety controller compares CFG_CHECK with CFG_GOLDEN and the table checks with their references. -/
  | cfgCompare
  /-- GOLDEN_GRACE_EXPIRY (R54): A page whose GOLDEN_WAIT stays 1 for 100 ms in OPERATE, SAFE-OPERATE or DEGRADED is treated as a difference. -/
  | goldenGraceExpiry (page : Page)
  /-- FLASH_READ (R84): FLASH_CMD READ copies flash bytes into FLASH_BUF. -/
  | flashRead (req : Requester)
  /-- FLASH_PROGRAM (R84): FLASH_CMD PROGRAM writes FLASH_BUF to one flash page outside the active slot and sector 0. -/
  | flashProgram (req : Requester)
  /-- FLASH_ERASE (R84): FLASH_CMD ERASE erases the 4 KiB sector containing FLASH_ADDR. -/
  | flashErase (req : Requester)
  /-- VALIDATE (R84): FLASH_CMD VALIDATE checks an image with checks 1 to 5 and programs its valid record. -/
  | validate (req : Requester) (slot : BitVec 2)
  /-- INVALIDATE (R84): FLASH_CMD INVALIDATE programs a slot's VALID word to zero. -/
  | invalidate (req : Requester) (slot : BitVec 2)
  /-- FLASH_COMPLETE (R86): A flash command in progress finishes in the flash and completes with its status. -/
  | flashComplete (ok : Bool)
  /-- LINK_UP (R111): A port or lane completes negotiation, training or lock and enters UP. -/
  | linkUp (port : Port)
  /-- LINK_DOWN (R110): A port leaves UP, counting LINK_DOWN_EVENTS and draining its queues to drop. -/
  | linkDown (port : Port) (state : BitVec 3)
  /-- AN_FAIL (R93): A negotiation fails to agree, AN_FAIL counts and the lane stays NEGOTIATING. -/
  | anFail (lane : Lane)
  /-- FL_LANE_CFG_WRITE (R113): A write changing a field lane's mode, FEC, AN or LT takes the lane down, aborts frames, drains queues and restarts it. -/
  | flLaneCfgWrite (req : Requester) (lane : BitVec 7) (value : Word)
  /-- FL_FMX_CFG_WRITE (R104): A write changing SUB_EN or SUB_RATE takes the affected sub-ports DOWN for at least one round. -/
  | flFmxCfgWrite (req : Requester) (lane : BitVec 7) (value : Word)
  /-- TR_LANE_CFG_WRITE (R114): A write to a trunk lane configuration is copied to every lane of its port and restarts the port. -/
  | trLaneCfgWrite (req : Requester) (lane : BitVec 5) (value : Word)
  /-- TR_GROUP_CFG_WRITE (R95): A write to TR_GROUP_CFG forms trunk ports anew and restarts the lanes. -/
  | trGroupCfgWrite (req : Requester) (group : BitVec 3) (value : Word)
  /-- MGP_CFG_WRITE (R113): A write to MGP_CFG changes management port enables, negotiation or ingress piste. -/
  | mgpCfgWrite (req : Requester) (value : Word)
  /-- FMX_ROUND_TX (R98): At each FMX round the device sends a marker block and fills the 80 slots with sub-port blocks or IDLE. -/
  | fmxRoundTx (lane : BitVec 7)
  /-- FMX_MARKER_RX (R103): A received FMX marker block is checked, updates HOLD, LINK and RATE, and drives marker lock. -/
  | fmxMarkerRx (lane : BitVec 7) (block : W64)
  /-- FMX_SLOT_BLOCK_RX (R102): A block received in a sub-port's slot builds, ends or aborts that sub-port's frame. -/
  | fmxSlotBlockRx (lane : BitVec 7) (sub : BitVec 3) (sync : BitVec 2) (block : W64)
  /-- FRAME_ARRIVAL (R14): A frame arrives on a port and the ingress writer cuts it into cells from the port's pool, making the head cell visible. -/
  | frameArrival (port : Port) (data : Bytes)
  /-- FCS_CHECK (R552): The ingress writer writes the frame's last cell and checks its FCS and length, releasing waiting transmissions or failing the frame. -/
  | fcsCheck (pkt : PktId) (aborted : Bool)
  /-- PARSE (R120): A parser parses a frame once its head half-cell is written, producing the parse result. -/
  | parse (pkt : PktId)
  /-- CLASSIFY (R127): The classifier builds the key, matches rules and exact-match entries, hashes and reads the indirection entry for one packet. -/
  | classify (pkt : PktId)
  /-- LIFT_ADMIT (R18): A parser admits a waiting Lift packet within its budget or in a cycle free of line traffic. -/
  | liftAdmit (piste : BitVec 2)
  /-- RULE_WRITE (R132): RULE_CMD WRITE commits the staged entry into the rule table atomically for lookups. -/
  | ruleWrite (req : Requester)
  /-- RULE_READ (R133): RULE_CMD READ copies an entry and its hit count into the staging registers. -/
  | ruleRead (req : Requester)
  /-- RULE_INVALIDATE (R133): RULE_CMD INVALIDATE clears an entry's VALID through the commit. -/
  | ruleInvalidate (req : Requester)
  /-- FLIP (R136): RULE_CMD FLIP makes the inactive bank ACTIVE and the former active bank DRAINING at the next classifier cycle. -/
  | flip (req : Requester)
  /-- CLEAR_HITS (R133): RULE_CMD CLEAR_HITS clears an entry's hit count. -/
  | clearHits (req : Requester)
  /-- CLASS_CFG_WRITE (R136): A write of CLASS_CFG changes GEN_MODE, resetting both banks, and clears RULE_LOST. -/
  | classCfgWrite (req : Requester) (value : Word)
  /-- RULE_SCRUB (R135): The background scrub reads the rule table, correcting errors or invalidating entries with uncorrectable ones. -/
  | ruleScrub (index : BitVec 16) (ue : Bool)
  /-- GEN_DRAIN_TIMEOUT (R139): A DRAINING bank whose in-flight count is not zero at GEN_DRAIN_TIMEOUT becomes EXPIRED. -/
  | genDrainTimeout (bank : BitVec 1)
  /-- EM_INSERT (R142): EM INSERT places an exact-match entry, displacing entries along a path if needed. -/
  | emInsert (req : Requester)
  /-- EM_DELETE (R142): EM DELETE removes an exact-match entry. -/
  | emDelete (req : Requester)
  /-- EM_FIND (R150): EM FIND looks up a key and writes EM_FLOW. -/
  | emFind (req : Requester)
  /-- EM_QUARANTINE (R142): EM QUARANTINE sets the QUARANTINE bit of an entry. -/
  | emQuarantine (req : Requester)
  /-- EM_RELEASE (R143): EM RELEASE clears the QUARANTINE bit of an entry. -/
  | emRelease (req : Requester)
  /-- IND_ENTRY_WRITE (R146): A write of an indirection entry takes effect for packets whose indirection read falls in later cycles. -/
  | indEntryWrite (req : Requester) (index : BitVec 15) (value : Word)
  /-- IND_CHECK_PASS (R151): A pass computing IND_CHECK over all indirection tables completes. -/
  | indCheckPass
  /-- ADMIT (R252): The dispatcher accepts a work item into the on-die store, taking a Gate number, or into its spill ring, or drops it. -/
  | admitPkt (pkt : PktId)
  /-- SPILL_RETURN (R255): An item read back from a spill ring enters the on-die store and takes a Gate number, or is discarded on an ECC error. -/
  | spillReturn (piste : BitVec 2) (list : BitVec 6) (ecc : Bool)
  /-- BIND (R257): The dispatcher binds an eligible item to an idle thread or engine, checking DCRC and taking a Gate entry and snapshot. -/
  | bind (piste : BitVec 2) (dcrcBad : Bool)
  /-- PACKET_FIRM (R271): A firming instruction's packet is compared with current versions once predecessors are released, becoming firm or being recalled. -/
  | packetFirm (t : Tid)
  /-- GATE_RELEASE (R262): The Gate releases a committed packet once its order and flow predecessors are released, or squashes it on a conflict. -/
  | gateRelease (piste : BitVec 2)
  /-- GATE_TIMEOUT (R265): A bound packet's Gate timer reaches GATE_TIMEOUT, forcing DROP and releasing its successors. -/
  | gateTimeout (pkt : PktId)
  /-- SNOWPLOUGH_EXIT (R274): SNOWPLOUGH_HOLD passes since a flow's last squash and its Snowplough entry is freed. -/
  | snowploughExit (piste : BitVec 2) (flow : BitVec 20)
  /-- DEADLOCK_DECLARATION (R276): The deadlock condition holds for DEADLOCK_WINDOW and the dispatcher declares a deadlock. -/
  | deadlockDeclaration (piste : BitVec 2)
  /-- HANG_DECLARATION (R277): After a deadlock declaration the hang condition holds for 1 ms and the piste is declared hung and lost. -/
  | hangDeclaration (piste : BitVec 2)
  /-- MIGRATION_REWRITE (R325): The device rewrites indirection entries naming the lost pair to the surviving even piste. -/
  | migrationRewrite (pair : BitVec 1)
  /-- MIGRATION_ACTIVATE (R325): Ownership moves to the STANDBY placements, which become ACTIVE and start their first cycle. -/
  | migrationActivate (pair : BitVec 1)
  /-- THREAD_TIMER_EXPIRY (R192): A thread's TIMER steps to zero and sets the TIMER event. -/
  | threadTimerExpiry (t : Tid)
  /-- PARK_COMPLETION (R161): The completion of a parking operation writes its result and returns the thread to RUNNING, or faults it. -/
  | parkCompletion (t : Tid) (err : Bool)
  /-- ASYNC_COMPLETION (R229): An asynchronous coprocessor command finishes and sets the issuing thread's COMPL event. -/
  | asyncCompletion (t : Tid) (err : Bool)
  /-- MAILBOX_DELIVERY (R180): A sent message arrives in a thread's mailbox and sets MAIL. -/
  | mailboxDelivery (t : Tid)
  /-- MAILBOX_POP (R180): A store to the message view's pop address removes the oldest mailbox message. -/
  | mailboxPop (t : Tid)
  /-- ICS_WINDOW_WRITE (R182): A write to the instruction window writes the store and invalidates matching cache lines and the cluster's BTBs. -/
  | icsWindowWrite (req : Requester) (page : Page) (off : Off) (value : Word)
  /-- ICS_CHECK_PASS (R182): A pass computing CLU_ICS_CHECK over the instruction store completes. -/
  | icsCheckPass (page : Page)
  /-- CONTEXT_WINDOW_WRITE (R184): A write through the thread-context window changes a STOPPED or FAULTED thread's context. -/
  | contextWindowWrite (req : Requester) (page : Page) (off : Off) (value : Word)
  /-- THREAD_RESUME (R175): PST_TCMD RESUME returns a FAULTED thread to RUNNING at its context PC. -/
  | threadResume (req : Requester) (piste : BitVec 2)
  /-- THREAD_RESTART (R175): PST_TCMD RESTART abandons the work item, orphans semaphores and restarts the thread at START_PC. -/
  | threadRestart (req : Requester) (piste : BitVec 2)
  /-- THREAD_RESET (R175): PST_TCMD RESET squashes, abandons, empties and resets a thread to STOPPED. -/
  | threadReset (req : Requester) (piste : BitVec 2)
  /-- PST_FAULT_POP (R174): A write to PST_FAULT_POP removes the head fault record. -/
  | pstFaultPop (req : Requester) (piste : BitVec 2)
  /-- TEL_FAULT_POP (R176): A write to TEL_FAULT_POP removes the head record of the Telemark fault queue. -/
  | telFaultPop (req : Requester)
  /-- GATE_REC_POP (R267): A write to GATE_REC_POP removes the head Gate record. -/
  | gateRecPop (req : Requester) (piste : BitVec 2)
  /-- ADD (R206): ADD writes rs + rt to rd. -/
  | add (t : Tid) (rd : Reg) (rs : Reg) (rt : Reg)
  /-- SUB (R206): SUB writes rs - rt to rd. -/
  | sub (t : Tid) (rd : Reg) (rs : Reg) (rt : Reg)
  /-- AND (R206): AND writes the bitwise AND to rd. -/
  | and (t : Tid) (rd : Reg) (rs : Reg) (rt : Reg)
  /-- OR (R206): OR writes the bitwise OR to rd. -/
  | or (t : Tid) (rd : Reg) (rs : Reg) (rt : Reg)
  /-- XOR (R206): XOR writes the bitwise XOR to rd. -/
  | xor (t : Tid) (rd : Reg) (rs : Reg) (rt : Reg)
  /-- ANDN (R206): ANDN writes rs AND NOT rt to rd. -/
  | andn (t : Tid) (rd : Reg) (rs : Reg) (rt : Reg)
  /-- SLL (R206): SLL shifts rs left by rt[5:0]. -/
  | sll (t : Tid) (rd : Reg) (rs : Reg) (rt : Reg)
  /-- SRL (R206): SRL shifts rs right with zero fill. -/
  | srl (t : Tid) (rd : Reg) (rs : Reg) (rt : Reg)
  /-- SRA (R206): SRA shifts rs right with sign fill. -/
  | sra (t : Tid) (rd : Reg) (rs : Reg) (rt : Reg)
  /-- ROTR (R206): ROTR rotates rs right. -/
  | rotr (t : Tid) (rd : Reg) (rs : Reg) (rt : Reg)
  /-- SLT (R206): SLT sets rd to 1 if rs < rt signed. -/
  | slt (t : Tid) (rd : Reg) (rs : Reg) (rt : Reg)
  /-- SLTU (R206): SLTU sets rd to 1 if rs < rt unsigned. -/
  | sltu (t : Tid) (rd : Reg) (rs : Reg) (rt : Reg)
  /-- MIN (R206): MIN writes the signed minimum. -/
  | min (t : Tid) (rd : Reg) (rs : Reg) (rt : Reg)
  /-- MAX (R206): MAX writes the signed maximum. -/
  | max (t : Tid) (rd : Reg) (rs : Reg) (rt : Reg)
  /-- MINU (R206): MINU writes the unsigned minimum. -/
  | minu (t : Tid) (rd : Reg) (rs : Reg) (rt : Reg)
  /-- MAXU (R206): MAXU writes the unsigned maximum. -/
  | maxu (t : Tid) (rd : Reg) (rs : Reg) (rt : Reg)
  /-- MUL (R206): MUL writes the low 64 bits of the product. -/
  | mul (t : Tid) (rd : Reg) (rs : Reg) (rt : Reg)
  /-- MULH (R206): MULH writes the high 64 bits of the signed product. -/
  | mulh (t : Tid) (rd : Reg) (rs : Reg) (rt : Reg)
  /-- MULHU (R206): MULHU writes the high 64 bits of the unsigned product. -/
  | mulhu (t : Tid) (rd : Reg) (rs : Reg) (rt : Reg)
  /-- CLZ (R206): CLZ counts leading zeros of rs. -/
  | clz (t : Tid) (rd : Reg) (rs : Reg) (rt : Reg)
  /-- CTZ (R206): CTZ counts trailing zeros of rs. -/
  | ctz (t : Tid) (rd : Reg) (rs : Reg) (rt : Reg)
  /-- POPC (R206): POPC counts set bits of rs. -/
  | popc (t : Tid) (rd : Reg) (rs : Reg) (rt : Reg)
  /-- BSWAP2 (R206): BSWAP2 reverses the low 2 bytes of rs, zero-extended. -/
  | bswap2 (t : Tid) (rd : Reg) (rs : Reg) (rt : Reg)
  /-- BSWAP4 (R206): BSWAP4 reverses the low 4 bytes of rs, zero-extended. -/
  | bswap4 (t : Tid) (rd : Reg) (rs : Reg) (rt : Reg)
  /-- BSWAP8 (R206): BSWAP8 reverses the 8 bytes of rs. -/
  | bswap8 (t : Tid) (rd : Reg) (rs : Reg) (rt : Reg)
  /-- ADDW (R206): ADDW writes the sign-extended 32-bit sum. -/
  | addw (t : Tid) (rd : Reg) (rs : Reg) (rt : Reg)
  /-- SUBW (R206): SUBW writes the sign-extended 32-bit difference. -/
  | subw (t : Tid) (rd : Reg) (rs : Reg) (rt : Reg)
  /-- ADDI (R207): ADDI adds a sign-extended immediate. -/
  | addi (t : Tid) (rd : Reg) (rs : Reg) (imm : BitVec 16)
  /-- ANDI (R207): ANDI ANDs a zero-extended immediate. -/
  | andi (t : Tid) (rd : Reg) (rs : Reg) (imm : BitVec 16)
  /-- ORI (R207): ORI ORs a zero-extended immediate. -/
  | ori (t : Tid) (rd : Reg) (rs : Reg) (imm : BitVec 16)
  /-- XORI (R207): XORI XORs a zero-extended immediate. -/
  | xori (t : Tid) (rd : Reg) (rs : Reg) (imm : BitVec 16)
  /-- SLTI (R207): SLTI compares signed with a sign-extended immediate. -/
  | slti (t : Tid) (rd : Reg) (rs : Reg) (imm : BitVec 16)
  /-- SLTIU (R207): SLTIU compares unsigned with a sign-extended immediate. -/
  | sltiu (t : Tid) (rd : Reg) (rs : Reg) (imm : BitVec 16)
  /-- LUI (R207): LUI writes the immediate shifted left by 16. -/
  | lui (t : Tid) (rd : Reg) (rs : Reg) (imm : BitVec 16)
  /-- SLLI (R207): SLLI shifts left by an immediate. -/
  | slli (t : Tid) (rd : Reg) (rs : Reg) (imm : BitVec 16)
  /-- SRLI (R207): SRLI shifts right with zero fill by an immediate. -/
  | srli (t : Tid) (rd : Reg) (rs : Reg) (imm : BitVec 16)
  /-- SRAI (R207): SRAI shifts right with sign fill by an immediate. -/
  | srai (t : Tid) (rd : Reg) (rs : Reg) (imm : BitVec 16)
  /-- ORIH (R207): ORIH ORs the immediate shifted left by 32. -/
  | orih (t : Tid) (rd : Reg) (rs : Reg) (imm : BitVec 16)
  /-- LB (R208): LB loads a sign-extended byte. -/
  | lb (t : Tid) (rd : Reg) (rs : Reg) (imm : BitVec 16)
  /-- LBU (R208): LBU loads a zero-extended byte. -/
  | lbu (t : Tid) (rd : Reg) (rs : Reg) (imm : BitVec 16)
  /-- LH (R208): LH loads a sign-extended little-endian half. -/
  | lh (t : Tid) (rd : Reg) (rs : Reg) (imm : BitVec 16)
  /-- LHU (R208): LHU loads a zero-extended little-endian half. -/
  | lhu (t : Tid) (rd : Reg) (rs : Reg) (imm : BitVec 16)
  /-- LW (R208): LW loads a sign-extended little-endian word. -/
  | lw (t : Tid) (rd : Reg) (rs : Reg) (imm : BitVec 16)
  /-- LWU (R208): LWU loads a zero-extended little-endian word. -/
  | lwu (t : Tid) (rd : Reg) (rs : Reg) (imm : BitVec 16)
  /-- LD (R208): LD loads a little-endian doubleword. -/
  | ld (t : Tid) (rd : Reg) (rs : Reg) (imm : BitVec 16)
  /-- LHS (R208): LHS loads a byte-swapped half. -/
  | lhs (t : Tid) (rd : Reg) (rs : Reg) (imm : BitVec 16)
  /-- LWS (R208): LWS loads a byte-swapped word. -/
  | lws (t : Tid) (rd : Reg) (rs : Reg) (imm : BitVec 16)
  /-- LDS (R208): LDS loads a byte-swapped doubleword. -/
  | lds (t : Tid) (rd : Reg) (rs : Reg) (imm : BitVec 16)
  /-- SB (R208): SB stores a byte, released at RT. -/
  | sb (t : Tid) (rt : Reg) (rs : Reg) (imm : BitVec 16)
  /-- SH (R208): SH stores a little-endian half. -/
  | sh (t : Tid) (rt : Reg) (rs : Reg) (imm : BitVec 16)
  /-- SW (R208): SW stores a little-endian word. -/
  | sw (t : Tid) (rt : Reg) (rs : Reg) (imm : BitVec 16)
  /-- SD (R208): SD stores a little-endian doubleword. -/
  | sd (t : Tid) (rt : Reg) (rs : Reg) (imm : BitVec 16)
  /-- SHS (R208): SHS stores a byte-swapped half. -/
  | shs (t : Tid) (rt : Reg) (rs : Reg) (imm : BitVec 16)
  /-- SWS (R208): SWS stores a byte-swapped word. -/
  | sws (t : Tid) (rt : Reg) (rs : Reg) (imm : BitVec 16)
  /-- SDS (R208): SDS stores a byte-swapped doubleword. -/
  | sds (t : Tid) (rt : Reg) (rs : Reg) (imm : BitVec 16)
  /-- AADD_W (R209): AADD.W atomically adds to a cluster scratchpad word. -/
  | aaddW (t : Tid) (rd : Reg) (rs : Reg) (rt : Reg)
  /-- AADD_D (R209): AADD.D atomically adds to a cluster scratchpad doubleword. -/
  | aaddD (t : Tid) (rd : Reg) (rs : Reg) (rt : Reg)
  /-- ASWP_W (R209): ASWP.W atomically swaps a word. -/
  | aswpW (t : Tid) (rd : Reg) (rs : Reg) (rt : Reg)
  /-- ASWP_D (R209): ASWP.D atomically swaps a doubleword. -/
  | aswpD (t : Tid) (rd : Reg) (rs : Reg) (rt : Reg)
  /-- ACAS_W (R209): ACAS.W atomically compares and swaps a word. -/
  | acasW (t : Tid) (rd : Reg) (rs : Reg) (rt : Reg)
  /-- ACAS_D (R209): ACAS.D atomically compares and swaps a doubleword. -/
  | acasD (t : Tid) (rd : Reg) (rs : Reg) (rt : Reg)
  /-- BFXU (R211): BFXU extracts a zero-extended bit field. -/
  | bfxu (t : Tid) (rd : Reg) (rs : Reg) (pos : BitVec 6) (len : BitVec 6)
  /-- BFXS (R211): BFXS extracts a sign-extended bit field. -/
  | bfxs (t : Tid) (rd : Reg) (rs : Reg) (pos : BitVec 6) (len : BitVec 6)
  /-- BFI (R211): BFI inserts a bit field into rd. -/
  | bfi (t : Tid) (rd : Reg) (rs : Reg) (pos : BitVec 6) (len : BitVec 6)
  /-- BFC (R211): BFC clears a bit field. -/
  | bfc (t : Tid) (rd : Reg) (rs : Reg) (pos : BitVec 6) (len : BitVec 6)
  /-- BFD (R211): BFD deposits low bits of rs at pos. -/
  | bfd (t : Tid) (rd : Reg) (rs : Reg) (pos : BitVec 6) (len : BitVec 6)
  /-- BEQ (R212): BEQ branches when rs equals rt. -/
  | beq (t : Tid) (rs : Reg) (rt : Reg) (off16 : BitVec 16)
  /-- BNE (R212): BNE branches when rs differs from rt. -/
  | bne (t : Tid) (rs : Reg) (rt : Reg) (off16 : BitVec 16)
  /-- BLT (R212): BLT branches when rs < rt signed. -/
  | blt (t : Tid) (rs : Reg) (rt : Reg) (off16 : BitVec 16)
  /-- BGE (R212): BGE branches when rs ≥ rt signed. -/
  | bge (t : Tid) (rs : Reg) (rt : Reg) (off16 : BitVec 16)
  /-- BLTU (R212): BLTU branches when rs < rt unsigned. -/
  | bltu (t : Tid) (rs : Reg) (rt : Reg) (off16 : BitVec 16)
  /-- BGEU (R212): BGEU branches when rs ≥ rt unsigned. -/
  | bgeu (t : Tid) (rs : Reg) (rt : Reg) (off16 : BitVec 16)
  /-- J (R212): J jumps PC-relative. -/
  | j (t : Tid) (off26 : BitVec 26)
  /-- JAL (R212): JAL jumps PC-relative and writes the link to g31. -/
  | jal (t : Tid) (off26 : BitVec 26)
  /-- JALR (R212): JALR jumps to rs plus offset and writes the link to rd. -/
  | jalr (t : Tid) (rd : Reg) (rs : Reg) (imm : BitVec 16)
  /-- CSRRD (R213): CSRRD reads a control register into rd. -/
  | csrrd (t : Tid) (rd : Reg) (rs : Reg) (imm : BitVec 16)
  /-- CSRWR (R213): CSRWR reads a control register into rd and writes rs to it in one step. -/
  | csrwr (t : Tid) (rd : Reg) (rs : Reg) (imm : BitVec 16)
  /-- WAIT (R214): WAIT completes when an enabled event is pending, else puts the thread in WAITING. -/
  | wait (t : Tid) (rd : Reg) (rs : Reg) (rt : Reg)
  /-- YIELD (R215): YIELD makes the thread not ready for 8 core cycles. -/
  | yield (t : Tid) (rd : Reg) (rs : Reg) (rt : Reg)
  /-- FENCE (R220): FENCE holds the thread until its earlier accesses are complete and visible. -/
  | fence (t : Tid) (rd : Reg) (rs : Reg) (rt : Reg)
  /-- TSTART (R216): TSTART starts a STOPPED target thread at a given address and returns a status. -/
  | tstart (t : Tid) (rd : Reg) (rs : Reg) (rt : Reg)
  /-- TSTOP (R216): TSTOP stops a target thread and returns a status. -/
  | tstop (t : Tid) (rd : Reg) (rs : Reg) (rt : Reg)
  /-- COMMIT (R219): COMMIT hands the held packet to its Gate with a disposition. -/
  | commit (t : Tid) (rd : Reg) (rs : Reg) (rt : Reg)
  /-- SEND (R218): SEND delivers the staged message to a mailbox, Gate, egress channel or host ring, or holds it under Schuss. -/
  | send (t : Tid) (rd : Reg) (rs : Reg) (rt : Reg)
  /-- CPSAVE (R222): CPSAVE writes a coprocessor's per-thread state to memory. -/
  | cpsave (t : Tid) (rd : Reg) (rs : Reg) (rt : Reg)
  /-- CPRESTORE (R222): CPRESTORE reads a coprocessor's per-thread state from memory. -/
  | cprestore (t : Tid) (rd : Reg) (rs : Reg) (rt : Reg)
  /-- STAGE (R217): STAGE writes a staging word and extends the staging length. -/
  | stage (t : Tid) (rd : Reg) (rs : Reg) (imm : BitVec 16)
  /-- TRAP (R221): TRAP faults with cause TRAP at CP. -/
  | trap (t : Tid) (rd : Reg) (rs : Reg) (imm : BitVec 16)
  /-- COPROC_GET (R228): GET reads one of the thread's result registers in a coprocessor. -/
  | coprocGet (t : Tid) (unit : BitVec 3) (rd : Reg) (rs : Reg) (rt : Reg) (opt : BitVec 5)
  /-- PKT_BUFW (R236): PKT.BUFW writes a word of the build buffer. -/
  | pktBufw (t : Tid) (rd : Reg) (rs : Reg) (rt : Reg) (opt : BitVec 5)
  /-- PKT_OVR (R236): PKT.OVR overwrites bytes of the current packet. -/
  | pktOvr (t : Tid) (rd : Reg) (rs : Reg) (rt : Reg) (opt : BitVec 5)
  /-- PKT_INS (R236): PKT.INS inserts build-buffer bytes into the packet. -/
  | pktIns (t : Tid) (rd : Reg) (rs : Reg) (rt : Reg) (opt : BitVec 5)
  /-- PKT_DEL (R236): PKT.DEL deletes bytes from the packet. -/
  | pktDel (t : Tid) (rd : Reg) (rs : Reg) (rt : Reg) (opt : BitVec 5)
  /-- PKT_PUSH (R236): PKT.PUSH inserts build-buffer bytes before a recorded header. -/
  | pktPush (t : Tid) (rd : Reg) (rs : Reg) (rt : Reg) (opt : BitVec 5)
  /-- PKT_POP (R236): PKT.POP deletes a recorded header. -/
  | pktPop (t : Tid) (rd : Reg) (rs : Reg) (rt : Reg) (opt : BitVec 5)
  /-- PKT_RD (R236): PKT.RD reads 8 bytes of the current packet. -/
  | pktRd (t : Tid) (rd : Reg) (rs : Reg) (rt : Reg) (opt : BitVec 5)
  /-- PKT_LEN (R236): PKT.LEN returns the current packet length. -/
  | pktLen (t : Tid) (rd : Reg) (rs : Reg) (rt : Reg) (opt : BitVec 5)
  /-- PKT_UNDO (R236): PKT.UNDO empties the edit list and restores the arrived packet. -/
  | pktUndo (t : Tid) (rd : Reg) (rs : Reg) (rt : Reg) (opt : BitVec 5)
  /-- CRC_INIT (R238): CRC.INIT initialises an accumulator with an algorithm. -/
  | crcInit (t : Tid) (rd : Reg) (rs : Reg) (rt : Reg) (opt : BitVec 5)
  /-- CRC_UPD (R238): CRC.UPD feeds register bytes into an accumulator. -/
  | crcUpd (t : Tid) (rd : Reg) (rs : Reg) (rt : Reg) (opt : BitVec 5)
  /-- CRC_PRANGE (R238): CRC.PRANGE feeds a range of packet bytes into an accumulator. -/
  | crcPrange (t : Tid) (rd : Reg) (rs : Reg) (rt : Reg) (opt : BitVec 5)
  /-- CRC_FIN (R238): CRC.FIN returns an accumulator's final value. -/
  | crcFin (t : Tid) (rd : Reg) (rs : Reg) (rt : Reg) (opt : BitVec 5)
  /-- CRC_CSET (R238): CRC.CSET sets the checksum accumulator. -/
  | crcCset (t : Tid) (rd : Reg) (rs : Reg) (rt : Reg) (opt : BitVec 5)
  /-- CRC_CADD (R238): CRC.CADD adds four 16-bit words to the checksum. -/
  | crcCadd (t : Tid) (rd : Reg) (rs : Reg) (rt : Reg) (opt : BitVec 5)
  /-- CRC_CRANGE (R238): CRC.CRANGE adds a range of packet bytes to the checksum. -/
  | crcCrange (t : Tid) (rd : Reg) (rs : Reg) (rt : Reg) (opt : BitVec 5)
  /-- CRC_CFIN (R238): CRC.CFIN returns the folded complemented checksum. -/
  | crcCfin (t : Tid) (rd : Reg) (rs : Reg) (rt : Reg) (opt : BitVec 5)
  /-- CRC_CINC (R238): CRC.CINC computes an incremental checksum update. -/
  | crcCinc (t : Tid) (rd : Reg) (rs : Reg) (rt : Reg) (opt : BitVec 5)
  /-- LKP_KEYW (R239): LKP.KEYW sets a key word or the profile. -/
  | lkpKeyw (t : Tid) (rd : Reg) (rs : Reg) (rt : Reg) (opt : BitVec 5)
  /-- LKP_FFIND (R239): LKP.FFIND looks up the flow table. -/
  | lkpFfind (t : Tid) (rd : Reg) (rs : Reg) (rt : Reg) (opt : BitVec 5)
  /-- LKP_FINS (R239): LKP.FINS inserts a flow entry through the insert engine. -/
  | lkpFins (t : Tid) (rd : Reg) (rs : Reg) (rt : Reg) (opt : BitVec 5)
  /-- LKP_FDEL (R239): LKP.FDEL deletes a flow entry through the insert engine. -/
  | lkpFdel (t : Tid) (rd : Reg) (rs : Reg) (rt : Reg) (opt : BitVec 5)
  /-- LKP_HFIND (R239): LKP.HFIND looks up a HASH table. -/
  | lkpHfind (t : Tid) (rd : Reg) (rs : Reg) (rt : Reg) (opt : BitVec 5)
  /-- LKP_HINS (R240): LKP.HINS replaces or fills a HASH table entry. -/
  | lkpHins (t : Tid) (rd : Reg) (rs : Reg) (rt : Reg) (opt : BitVec 5)
  /-- LKP_HDEL (R240): LKP.HDEL clears a HASH table entry. -/
  | lkpHdel (t : Tid) (rd : Reg) (rs : Reg) (rt : Reg) (opt : BitVec 5)
  /-- LKP_RFIND (R239): LKP.RFIND looks up a RANGE table. -/
  | lkpRfind (t : Tid) (rd : Reg) (rs : Reg) (rt : Reg) (opt : BitVec 5)
  /-- CRY_SETP (R242): CRY.SETP sets a crypto parameter register. -/
  | crySetp (t : Tid) (rd : Reg) (rs : Reg) (rt : Reg) (opt : BitVec 5)
  /-- CRY_GCM (R243): CRY.GCM runs AES-GCM over the packet asynchronously. -/
  | cryGcm (t : Tid) (rd : Reg) (rs : Reg) (rt : Reg) (opt : BitVec 5)
  /-- CRY_CMAC (R243): CRY.CMAC generates or verifies an AES-CMAC tag asynchronously. -/
  | cryCmac (t : Tid) (rd : Reg) (rs : Reg) (rt : Reg) (opt : BitVec 5)
  /-- CRY_SHA (R242): CRY.SHA computes SHA-256 asynchronously. -/
  | crySha (t : Tid) (rd : Reg) (rs : Reg) (rt : Reg) (opt : BitVec 5)
  /-- CRY_POLL (R242): CRY.POLL returns the state of the thread's last CP3 command. -/
  | cryPoll (t : Tid) (rd : Reg) (rs : Reg) (rt : Reg) (opt : BitVec 5)
  /-- CRY_KLOAD (R243): CRY.KLOAD loads a key slot from the secure scratchpad. -/
  | cryKload (t : Tid) (rd : Reg) (rs : Reg) (rt : Reg) (opt : BitVec 5)
  /-- CRY_KZERO (R243): CRY.KZERO zeroes a key slot. -/
  | cryKzero (t : Tid) (rd : Reg) (rs : Reg) (rt : Reg) (opt : BitVec 5)
  /-- SIG_RDIN (R245): SIG.RDIN reads a code node's input signal. -/
  | sigRdin (t : Tid) (rd : Reg) (rs : Reg) (rt : Reg) (opt : BitVec 5)
  /-- SIG_SETQ (R245): SIG.SETQ stages the output word OQ. -/
  | sigSetq (t : Tid) (rd : Reg) (rs : Reg) (rt : Reg) (opt : BitVec 5)
  /-- SIG_WROUT (R245): SIG.WROUT posts an output token of a code node. -/
  | sigWrout (t : Tid) (rd : Reg) (rs : Reg) (rt : Reg) (opt : BitVec 5)
  /-- SIG_DONE (R311): SIG.DONE ends the firing, posts unwritten outputs as STALE and releases the item. -/
  | sigDone (t : Tid) (rd : Reg) (rs : Reg) (rt : Reg) (opt : BitVec 5)
  /-- SIG_INFO (R245): SIG.INFO returns the cycle count and time to the deadline. -/
  | sigInfo (t : Tid) (rd : Reg) (rs : Reg) (rt : Reg) (opt : BitVec 5)
  /-- TIM_NOW (R246): TIM.NOW samples the time base. -/
  | timNow (t : Tid) (rd : Reg) (rs : Reg) (rt : Reg) (opt : BitVec 5)
  /-- TIM_ARR (R246): TIM.ARR rebuilds the packet's arrival time. -/
  | timArr (t : Tid) (rd : Reg) (rs : Reg) (rt : Reg) (opt : BitVec 5)
  /-- TIM_SCHED (R246): TIM.SCHED sets the held packet's scheduled-send time. -/
  | timSched (t : Tid) (rd : Reg) (rs : Reg) (rt : Reg) (opt : BitVec 5)
  /-- TIM_TXTS (R246): TIM.TXTS requests egress timestamps of the held packet. -/
  | timTxts (t : Tid) (rd : Reg) (rs : Reg) (rt : Reg) (opt : BitVec 5)
  /-- TIM_CORR (R246): TIM.CORR asks the egress MAC to add residence time to a correction field. -/
  | timCorr (t : Tid) (rd : Reg) (rs : Reg) (rt : Reg) (opt : BitVec 5)
  /-- CYCLE_START (R293): A cycle timer starts a cycle, advancing TIMER_COUNT, firing source nodes and taking SWAP and UNLOAD boundaries. -/
  | cycleStart (piste : BitVec 2) (timer : BitVec 3)
  /-- DEADLINE (R298): At a graph's deadline every unfired node fires with STALE inputs and overruns are marked. -/
  | deadline (piste : BitVec 2) (graph : BitVec 8)
  /-- DEADLINE_MARKER (R317): The odd piste receives the even piste's deadline marker and carries out the deadline for the graph. -/
  | deadlineMarker (piste : BitVec 2) (graph : BitVec 8)
  /-- NODE_FIRE (R299): A native node whose inputs are present is granted a lane, computes and posts its output tokens. -/
  | nodeFire (piste : BitVec 2) (node : BitVec 16)
  /-- UNPACK (R304): UNPACK reads a frame into signals after its seal check and commits the frame. -/
  | unpack (piste : BitVec 2)
  /-- PACK (R308): PACK builds a frame from its map signals and passes it to SEAL or the traffic manager. -/
  | pack (piste : BitVec 2) (node : BitVec 16)
  /-- SEAL (R309): SEAL adds a sequence and CRC to a frame and hands it on through the cross-check. -/
  | seal (piste : BitVec 2) (node : BitVec 16)
  /-- XCHK_COMPARE (R318): XCHK compares the compare tokens of both pistes for an OUT port write. -/
  | xchkCompare (pair : BitVec 1) (graph : BitVec 8) (port : BitVec 4)
  /-- XCHK_MISSING (R318): A compare token's partner has not arrived 50 µs after the deadline: a MISSING pair fault. -/
  | xchkMissing (pair : BitVec 1) (graph : BitVec 8) (port : BitVec 4)
  /-- XCHK_SEAL_COMPARE (R319): XCHK compares both pistes' seals and releases the frame or discards it as a SEAL fault. -/
  | xchkSealCompare (pair : BitVec 1) (graph : BitVec 8)
  /-- HOLD_TIMEOUT (R323): A graph in HOLD reaches HOLD_TIME and enters SUBST. -/
  | holdTimeout (piste : BitVec 2) (graph : BitVec 8)
  /-- LOAD (R313): Graph LOAD checks a slot and takes it to PENDING, SUBST or STANDBY, setting owners. -/
  | load (req : Requester) (piste : BitVec 2)
  /-- UNLOAD (R313): Graph UNLOAD retires a slot, freeing it at the end of its cycle. -/
  | unload (req : Requester) (piste : BitVec 2)
  /-- SWAP (R313): Graph SWAP replaces an old slot by a new one at the old timer's next start. -/
  | swap (req : Requester) (piste : BitVec 2)
  /-- FORCE (R286): FORCE sets a signal's value with quality FORCED. -/
  | force (req : Requester) (piste : BitVec 2)
  /-- UNFORCE (R286): UNFORCE ends a signal's force. -/
  | unforce (req : Requester) (piste : BitVec 2)
  /-- SIGE_TBL_PASS (R315): A pass computing SIGE_TBL_CHECK completes. -/
  | sigeTblPass (piste : BitVec 2)
  /-- XCHK_CLEAR (R320): A write to XCHK_CLEAR clears the pending pair fault in permitted modes. -/
  | xchkClear (req : Requester) (pair : BitVec 1)
  /-- CELL_REQUEST (R336): A BPM lane requests one cell for a requester, granted from reserve or shared part or refused. -/
  | cellRequest (requester : BitVec 12) (key : BitVec 5)
  /-- CHAIN_FREE (R340): A free lane walks a chain, checking owner and references, then decrements REFS and frees cells. -/
  | chainFree (cell : CellId) (tag : BitVec 17)
  /-- BPM_ALLOC (R344): BPM_CMD ALLOC takes one cell for a requester. -/
  | bpmAlloc (req : Requester)
  /-- BPM_FREE (R344): BPM_CMD FREE frees a chain under the owner check. -/
  | bpmFree (req : Requester)
  /-- BPM_RECLAIM (R343): BPM_CMD RECLAIM frees a chain without the owner check. -/
  | bpmReclaim (req : Requester)
  /-- DYN_ALLOC (R348): CLU_DYN ALLOC takes the lowest free dynamic block for a thread. -/
  | dynAlloc (req : Requester) (page : Page)
  /-- DYN_FREE (R348): CLU_DYN FREE returns a thread's dynamic block. -/
  | dynFree (req : Requester) (page : Page)
  /-- SCRATCHPAD_SCRUB (R347): The background scrub reads every scratchpad word, correcting correctable errors. -/
  | scratchpadScrub (page : Page) (source : BitVec 8) (addr : Word) (ue : Bool)
  /-- ACQUIRE (R359): A load of ACQUIRE takes one semaphore unit and returns a status word. -/
  | acquire (t : Tid) (rd : Reg) (sem : BitVec 12)
  /-- ACQUIRE_ARM (R362): A load of ACQUIRE_ARM acquires, arming the release event on EMPTY. -/
  | acquireArm (t : Tid) (rd : Reg) (sem : BitVec 12)
  /-- SEMA_RELEASE (R360): A store to RELEASE returns units and wakes armed waiters, or is refused. -/
  | semaRelease (t : Tid) (rt : Reg) (sem : BitVec 12)
  /-- SEMA_STATE (R358): A load of STATE returns AVAIL and live capacity. -/
  | semaState (t : Tid) (rd : Reg) (sem : BitVec 12)
  /-- SEMA_CMD_ACQUIRE (R367): SEMA_CMD ACQUIRE acquires on behalf of the issuing identity. -/
  | semaCmdAcquire (req : Requester)
  /-- SEMA_CMD_RELEASE (R367): SEMA_CMD RELEASE releases units held by the issuing identity. -/
  | semaCmdRelease (req : Requester)
  /-- SEMA_RECLAIM (R365): SEMA_CMD RECLAIM returns an orphaned entry's units to AVAIL and wakes waiters. -/
  | semaReclaim (req : Requester)
  /-- RETIRE (R365): SEMA_CMD RETIRE adds an orphaned entry's units to RETIRED. -/
  | retire (req : Requester)
  /-- SEMA_CMD_STATE (R367): SEMA_CMD STATE returns a semaphore's state. -/
  | semaCmdState (req : Requester)
  /-- SEMA_CAP_WRITE (R356): A write to SEMA_CAP sets CAP and AVAIL and clears RETIRED. -/
  | semaCapWrite (req : Requester) (sem : BitVec 12) (value : Word)
  /-- SEMA_ORPH_POP (R366): A write to SEMA_ORPH_POP removes the head orphan record. -/
  | semaOrphPop (req : Requester)
  /-- HBM_REQUEST (R374): A client request is accepted at an HBM port. -/
  | hbmRequest (port : BitVec 4) (addr : BitVec 40) (write : Bool) (data : Bytes)
  /-- HBM_REQUEST_COMPLETE (R386): A request's data or acknowledgement returns to its client, with correction or an error mark. -/
  | hbmRequestComplete (port : BitVec 4) (err : BitVec 2)
  /-- REQUEST_LATE (R375): A request's age reaches its port's TARGET, urgency 3, and PORT_LATE counts. -/
  | requestLate (port : BitVec 4)
  /-- REFRESH_DUE (R380): tREFI elapses and a pseudo-channel owes one more refresh, becoming urgent at the allowance. -/
  | refreshDue (pc : BitVec 6)
  /-- REFRESH_VIOLATION (R381): A refresh owed beyond its limit is counted and recorded to the safety controller. -/
  | refreshViolation (pc : BitVec 6)
  /-- HBM_TEMP_READ (R382): A stack temperature reading may change the refresh regime or set TEMP_HOT. -/
  | hbmTempRead (stack : BitVec 1) (temp : BitVec 8)
  /-- HBM_TEMP_FAULT (R528): A stack reading of 105 °C or more persisting for 1 ms is a DEVICE TEMP fault. -/
  | hbmTempFault (stack : BitVec 1)
  /-- HBM_SCRUB_PASS (R387): The HBM scrub reads bursts through port 14, correcting and logging errors. -/
  | hbmScrubPass (addr : BitVec 40) (err : BitVec 2)
  /-- FLOW_FILL_COMPLETE (R379): A flow cache fill arrives and parked threads proceed, or the flow is quarantined. -/
  | flowFillComplete (flow : BitVec 20) (ok : Bool)
  /-- QUARANTINE_SCAN (R388): The insert engine sets QUARANTINE on every exact-match entry of the quarantined flow. -/
  | quarantineScan (flow : BitVec 20)
  /-- HBM_FENCE (R378): HBM_FENCE completes once every earlier write of the named ports reached its stack. -/
  | hbmFence (req : Requester)
  /-- WRITE_CONTEXT (R389): FLOW_CMD WRITE_CONTEXT writes a flow context and clears its quarantine mark. -/
  | writeContext (req : Requester)
  /-- READ_CONTEXT (R391): FLOW_CMD READ_CONTEXT reads a flow context into FLOW_BUF. -/
  | readContext (req : Requester)
  /-- HBM_QUAR_POP (R388): A write to HBM_QUAR_POP removes the head quarantine record. -/
  | hbmQuarPop (req : Requester)
  /-- HBM_FLOW_BASE_WRITE (R373): A write of HBM_FLOW_BASE in CONFIGURE invalidates the flow cache without write-back. -/
  | hbmFlowBaseWrite (req : Requester) (value : W64)
  /-- TM_ADMIT (R396): The traffic manager applies stream functions and queues a frame or drops it. -/
  | tmAdmit
  /-- TX_START (R403): A port's MAC starts the head frame of the highest qualifying queue. -/
  | txStart (port : Port)
  /-- TX_COMPLETE (R420): A frame copy finishes transmission, timestamp records are queued and its cells freed. -/
  | txComplete (port : Port)
  /-- TEL_DELIVERY (R413): A frame for port 1344 is delivered as a descriptor message to a Telemark mailbox when room exists. -/
  | telDelivery (queue : BitVec 3)
  /-- GCL_ENTRY_END (R405): A gate control entry's interval ends and the next entry's gate states take effect. -/
  | gclEntryEnd (port : Port)
  /-- CONFIG_CHANGE (R405): GCL_CMD CONFIG_CHANGE computes the change time for the administrative list. -/
  | configChange (req : Requester)
  /-- GCL_CHANGE_TIME (R405): At the change time the administrative list becomes operational. -/
  | gclChangeTime (port : Port)
  /-- VERIFY_RESULT (R410): Preemption verification succeeds or fails. -/
  | verifyResult (port : Port) (ok : Bool)
  /-- RECOVERY_RESET (R399): A recovery passing no frame for RESET_MS resets its history. -/
  | recoveryReset (index : BitVec 16)
  /-- STREAM_ENTRY_WRITE (R426): A write of a stream, meter or recovery entry resets its state. -/
  | streamEntryWrite (req : Requester) (page : Page) (off : Off) (value : Word)
  /-- TM_TBL_PASS (R425): A pass computing TM_TBL_CHECK completes. -/
  | tmTblPass
  /-- TS_POP (R426): A write to TS_POP removes a piste's head TX timestamp record. -/
  | tsPop (req : Requester) (piste : BitVec 2)
  /-- SET (R415): TIME_CMD SET loads the time base at the next tick. -/
  | set (req : Requester)
  /-- TIME_STEP (R415): TIME_CMD STEP adds a signed offset to the time base. -/
  | timeStep (req : Requester)
  /-- SET_AT_PPS (R415): TIME_CMD SET_AT_PPS loads the time base at the next accepted PPS_IN edge. -/
  | setAtPps (req : Requester)
  /-- TIME_ADJ_WRITE (R414): A write of TIME_ADJ changes the per-tick increment from the next tick. -/
  | timeAdjWrite (req : Requester) (value : Word)
  /-- PPS_IN_EDGE (R417): A PPS_IN rising edge captures the time base or is ignored as a glitch. -/
  | ppsInEdge
  /-- PPS_OUT_RISE (R416): PPS_OUT rises when the nanoseconds field passes 0. -/
  | ppsOutRise
  /-- PPS_OUT_FALL (R416): PPS_OUT falls PPS_WIDTH after its rise. -/
  | ppsOutFall
  /-- TX_DB (R438): A TX doorbell write sets a transmit ring's TAIL. -/
  | txDb (inst : BitVec 8) (ring : BitVec 4) (tail : BitVec 16)
  /-- RX_DB (R438): An RX doorbell write sets a receive ring's TAIL. -/
  | rxDb (inst : BitVec 8) (ring : BitVec 4) (tail : BitVec 16)
  /-- EVT_DB (R438): An EVT_DB write sets the DOORBELL event of the subscribed thread. -/
  | evtDb (inst : BitVec 8)
  /-- DESCRIPTOR_FETCH (R434): A DMA engine reads transmit descriptors from HEAD and starts the frame's data read. -/
  | descriptorFetch (inst : BitVec 8) (ring : BitVec 4) (descs : Bytes)
  /-- TX_RETRY (R435): A ring refused cells is tried again no sooner than 1 µs later. -/
  | txRetry (inst : BitVec 8) (ring : BitVec 4)
  /-- HOST_READ_COMPLETION (R440): A PCIe read completion arrives for a transfer, or signals a DMA error. -/
  | hostReadCompletion (inst : BitVec 8) (ring : BitVec 4) (data : Bytes) (err : Bool)
  /-- RX_DELIVERY (R437): A frame for an instance is written into posted receive entries with completions. -/
  | rxDelivery (inst : BitVec 8) (queue : BitVec 3) (entries : Bytes)
  /-- MSIX_MESSAGE (R439): A ring's interrupt is sent as an MSI-X message after the moderation interval. -/
  | msixMessage (inst : BitVec 8) (ring : BitVec 5)
  /-- INST_ENABLE (R432): A write of an INST page's PAGE_CTRL.EN enables an instance or starts its reset. -/
  | instEnable (req : Requester) (inst : BitVec 8) (en : Bool)
  /-- INST_SHARE_WRITE (R441): A write to INST_SHARE sets weight and ceiling, possibly setting OVER_SHARE. -/
  | instShareWrite (req : Requester) (inst : BitVec 8) (value : Word)
  /-- INST_RESET (R442): INST_CMD RESET starts an instance reset. -/
  | instReset (req : Requester) (inst : BitVec 8)
  /-- INST_DRAIN_TIMEOUT (R442): The drain timeout squashes the instance's remaining transfers. -/
  | instDrainTimeout (inst : BitVec 8)
  /-- INST_RESET_COMPLETE (R442): An instance reset completes, resets its ring table and writes INST_RESET_RESULT. -/
  | instResetComplete (inst : BitVec 8)
  /-- APPLY (R444): MED_CMD APPLY writes MED_VALUE to the head record's offset. -/
  | apply (req : Requester)
  /-- REJECT (R444): MED_CMD REJECT drops the head mediation record. -/
  | reject (req : Requester)
  /-- SYNC (R447): DIRTY_CMD SYNC clears the filter and captures DIRTY_MARK. -/
  | sync (req : Requester)
  /-- DIRTY_RESTART (R447): DIRTY_CMD RESTART clears the filter and OVERFLOW and sets DIRTY_WR to DIRTY_RD. -/
  | dirtyRestart (req : Requester)
  /-- TO_HBM (R454): XFER_CMD TO_HBM moves bytes from host memory to HBM. -/
  | toHbm (req : Requester) (data : Bytes)
  /-- FROM_HBM (R454): XFER_CMD FROM_HBM moves bytes from HBM to host memory. -/
  | fromHbm (req : Requester)
  /-- PCIE_LINK_DOWN (R450): The PCIe link goes down and every instance freezes. -/
  | pcieLinkDown
  /-- PCIE_LINK_UP (R450): The PCIe link returns and the host interface is reset. -/
  | pcieLinkUp
  /-- FUNCTION_LEVEL_RESET (R450): A function level reset resets the host interface and every instance. -/
  | functionLevelReset
  /-- SAFETY_RECORD (R470): A diagnostic record reaches both safety controller channels, is queued, classed and reacted to. -/
  | safetyRecord
  /-- SC_COMPARE (R459): Every 10 µs each channel compares its class state with the other's. -/
  | scCompare (differ : Bool)
  /-- CLOCK_WINDOW (R463): A 10 µs clock monitor window ends and counts outside ±2% are CLOCK faults. -/
  | clockWindow (clk : BitVec 4) (count : BitVec 20)
  /-- VOLTAGE_DEPARTURE (R464): A rail leaves its window for more than 2 µs: a VOLTAGE fault. -/
  | voltageDeparture (rail : BitVec 4) (high : Bool)
  /-- DIE_TEMP_READ (R527): Die sensors are read, raising TEMP_WARN or a TEMP fault. -/
  | dieTempRead (sensor : BitVec 4) (temp : BitVec 8)
  /-- XCHK_SELFCHECK (R465): Every 10 ms each XCHK compares a matching and a differing test pair. -/
  | xchkSelfcheck (pair : BitVec 1) (outcome : BitVec 2)
  /-- PST_WD_KICK (R467): A supervisor write to PST_WD_KICK kicks its piste watchdog. -/
  | pstWdKick (req : Requester) (piste : BitVec 2) (value : Word)
  /-- SAFE_WD_KICK_TEL (R467): A Telemark write to SAFE_WD_KICK_TEL kicks its pair's watchdog. -/
  | safeWdKickTel (req : Requester) (n : BitVec 1) (value : Word)
  /-- WATCHDOG_EXPIRY (R466): A watchdog kick is late, early or wrong, giving WD_PISTE or WD_TEL. -/
  | watchdogExpiry (wd : BitVec 3)
  /-- SAFE_IN_SAMPLE (R476): A filtered SAFE_IN level change gives a SAFE_IN request when both inputs are low. -/
  | safeInSample (a : Bool) (b : Bool)
  /-- SAFE_IN_DISC (R476): SAFE_IN inputs disagree for more than 10 ms. -/
  | safeInDisc
  /-- THERMTRIP (R477): THERMTRIP_N asserts at 125 °C, raising a DEVICE TEMP record. -/
  | thermtrip
  /-- PENNANT_EDGE (R474): PENNANT_P and PENNANT_N toggle every 50 µs while permitted. -/
  | pennantEdge
  /-- ST_SLOT_START (R468): A self-test slot begins and the dispatcher stops handing work to the core. -/
  | stSlotStart (piste : BitVec 2)
  /-- ST_CORE_OFFLINE (R183): A core that has become idle goes OFFLINE for its logic test. -/
  | stCoreOffline (piste : BitVec 2)
  /-- ST_TEST_DONE (R468): A core's logic test ends and its signature is compared, retried or failed. -/
  | stTestDone (piste : BitVec 2) (ok : Bool) (signature : Word)
  /-- ST_IDLE_TIMEOUT (R469): A core not idle within 1 ms is skipped and SELFTEST_SKIP recorded. -/
  | stIdleTimeout (piste : BitVec 2)
  /-- INJ_TOKEN_FLIP (R479): SAFE_INJ code 1 inverts a compare token bit of the odd piste. -/
  | injTokenFlip (req : Requester)
  /-- INJ_TOKEN_WITHHOLD (R479): SAFE_INJ code 2 withholds the odd piste's compare tokens for one cycle. -/
  | injTokenWithhold (req : Requester)
  /-- INJ_LOCKSTEP (R479): SAFE_INJ code 3 makes a Telemark lockstep comparison differ. -/
  | injLockstep (req : Requester)
  /-- INJ_CLOCK (R479): SAFE_INJ code 4 makes SCA's core clock count read high once. -/
  | injClock (req : Requester)
  /-- INJ_RAIL (R479): SAFE_INJ code 5 makes a rail monitor report out of window once. -/
  | injRail (req : Requester)
  /-- INJ_WATCHDOG (R479): SAFE_INJ code 6 expires a watchdog. -/
  | injWatchdog (req : Requester)
  /-- INJ_SC_STATE (R479): SAFE_INJ code 7 makes SCB's class state differ once. -/
  | injScState (req : Requester)
  /-- INJ_XCHK_SELF (R479): SAFE_INJ code 8 gives a false match in the next XCHK self-check. -/
  | injXchkSelf (req : Requester)
  /-- SAFE_REC_POP (R460): A write to SAFE_REC_POP removes the head safety record. -/
  | safeRecPop (req : Requester)
  /-- KEY_PROG (R490): LIFE KEY_PROG fuses a public key into a slot. -/
  | keyProg (req : Requester)
  /-- KEY_REVOKE (R490): LIFE KEY_REVOKE blows a slot's REVOKED fuse. -/
  | keyRevoke (req : Requester)
  /-- PROVISION (R490): LIFE PROVISION moves BLANK to PROVISIONED. -/
  | provision (req : Requester)
  /-- TO_FIELD (R490): LIFE TO_FIELD moves PROVISIONED to FIELD. -/
  | toField (req : Requester)
  /-- NONCE (R490): LIFE NONCE loads a random nonce. -/
  | nonce (req : Requester)
  /-- TO_RETURN (R491): LIFE TO_RETURN moves FIELD to RETURN on a verified authorisation. -/
  | toReturn (req : Requester)
  /-- SCRAP (R490): LIFE SCRAP moves the part to SCRAPPED. -/
  | scrap (req : Requester)
  /-- DEBUG_UNLOCK (R491): LIFE DEBUG_UNLOCK opens the debugger until the next restart on a verified authorisation. -/
  | debugUnlock (req : Requester)
  /-- LOG_RD_WRITE (R501): A write of LOG_RD advances the event log reader. -/
  | logRdWrite (req : Requester) (value : Word)
  /-- APPEND (R503): LOG_CMD APPEND posts a firmware record to the event log. -/
  | append (req : Requester)
  /-- BUNTING_SAMPLE (R504): At a Bunting instant the selected counters are read and sent as frames. -/
  | buntingSample
  /-- HIST_READ (R507): HIST_CMD HIST_READ copies a snapshot into HIST_BUF. -/
  | histRead (req : Requester)
  /-- SMBUS_BLOCK_WRITE (R532): An SMBus Block Write of 3 bytes sets the read address. -/
  | smbusBlockWrite (b0 : Byte) (b1 : Byte) (b2 : Byte)
  /-- SMBUS_BLOCK_READ (R532): An SMBus Block Read returns a dword and advances the offset. -/
  | smbusBlockRead
  /-- HALT (R539): DBG HALT halts threads of a scope. -/
  | halt (req : Requester)
  /-- DBG_RESUME (R540): DBG RESUME returns halted threads to their previous state. -/
  | dbgResume (req : Requester)
  /-- STEP (R542): DBG STEP lets a halted thread issue its next instruction and halts it again. -/
  | step (req : Requester)
  /-- STEP_TIMEOUT (R542): A step whose instruction has not retired within 1 ms completes with TIMEOUT. -/
  | stepTimeout (t : Tid)
  /-- ABANDON (R545): DBG ABANDON drops the halted thread's packet. -/
  | abandon (req : Requester)
  /-- TRACE_START (R547): DBG TRACE_START starts a piste's trace unit. -/
  | traceStart (req : Requester)
  /-- TRACE_STOP (R547): DBG TRACE_STOP stops a piste's trace unit. -/
  | traceStop (req : Requester)
  /-- TAP_RESET (R549): TRST_N low or PORST_N release returns the TAP to Test-Logic-Reset. -/
  | tapReset
  /-- IDCODE (R548): The IDCODE TAP instruction returns the identification code. -/
  | idcode
  /-- BYPASS (R548): The BYPASS TAP instruction selects the bypass register. -/
  | bypass
  /-- SAMPLE_PRELOAD (R548): The SAMPLE/PRELOAD TAP instruction samples and preloads the boundary cells. -/
  | samplePreload (cells : Bytes)
  /-- EXTEST (R549): EXTEST drives pins from the boundary cells in RESET only. -/
  | extest
  /-- CLAMP (R549): CLAMP holds pins from the boundary cells in RESET only. -/
  | clamp
  /-- HIGHZ (R549): HIGHZ places pins in high impedance in RESET only. -/
  | highz
  /-- POWER_ON_DETECTOR_RELEASE (R520): The last tripped power-on detector clears, ending the hold in RESET so the device can leave RESET for BOOT if PORST_N and SYSRST_N are high. -/
  | powerOnDetectorRelease (det : BitVec 2)
  /-- COMPLETION_TIMEOUT (R449): A PCIe read of an instance receives no completion within the completion timeout, ending the transfer and putting the instance in ERROR. -/
  | completionTimeout (inst : BitVec 8)
  /-- FUSE_PROGRAMMING_DONE (R490): A life-cycle command's fuse programming finishes, up to 20 ms (40 ms for KEY_PROG) after it began; the new state shows in LIFE_STATE, the secure wipe is triggered and the command completes. -/
  | fuseProgrammingDone
  /-- BITMAP_REBUILD (R339): The BPM finishes rebuilding an erroneous bitmap word from the REFS fields of its 64 cells, within 1 µs, so its free cells can be granted again. -/
  | bitmapRebuild (pool : BitVec 6) (word : BitVec 14)
  /-- DEADLINE_MARKER_TIMEOUT (R317): No deadline marker has reached the odd piste 1 µs after a SAFETY graph's deadline, so the odd piste carries out the deadline of R298 for the graph itself. -/
  | deadlineMarkerTimeout (piste : BitVec 2) (graph : BitVec 8)
deriving DecidableEq, Repr

end Sys2Proof
end

