-- ==== Sys2Proof/Decode.lean ====
section
/-! DEFINITION. The command that a word of the opcode table spells. No row of the table gives bits: a command is an event
or a register access, not a word, so no word spells one. -/
namespace Sys2Proof

/-- The command of a word of `nbits` bits; none, since the table gives no row any bits. -/
def decodeTableWord (_nbits _w : Nat) : Option Instr := none

end Sys2Proof
end

