-- ==== Sys2Proof/Config.lean ====
section
/-! DEFINITION. What one part fixes (R1, R3, R4), and the free values: constants without a body that stand for the
values the spec leaves open. -/
namespace Sys2Proof

/-- DEV_PART by part (R4). -/
def Config.devPart : Part → Word
  | .cf1024S => 0xCF010453 | .cf1024E => 0xCF010445 | .cf0512S => 0xCF010253 | .cf1024F => 0xCF010446
/-- DEV_CAPS by part (R4). -/
def Config.devCaps : Part → Word
  | .cf1024S => 0x008202FF | .cf1024E => 0x008202DF | .cf0512S => 0x004101F3 | .cf1024F => 0x0082022F
/-- DEV_LIMITS by part (R4). -/
def Config.devLimits : Part → Word
  | .cf1024S => 0x00800040 | .cf1024E => 0x00800040 | .cf0512S => 0x00400020 | .cf1024F => 0x00000040
/-- Number of pistes present (R1). -/
def Config.pistes : Part → Nat
  | .cf0512S => 2 | _ => 4
/-- Field lanes present (R1). -/
def Config.fieldLanes : Part → Nat
  | .cf0512S => 64 | _ => 128
/-- Trunk lanes present (R1). -/
def Config.trunkLanes : Part → Nat
  | .cf0512S => 16 | _ => 32
/-- HBM stacks present (R1). -/
def Config.hbmStacks : Part → Nat
  | .cf0512S => 1 | _ => 2
/-- HBM bytes present: 16 GiB a stack (R1, R194). -/
def Config.hbmBytes (p : Part) : Nat := Config.hbmStacks p * 0x400000000
/-- Signals of the process image (R1). -/
def Config.signals : Part → Nat
  | .cf1024F => 0 | .cf0512S => 262144 | _ => 524288
/-- Flow contexts (R1). -/
def Config.flows : Part → Nat
  | .cf0512S => 524288 | _ => 1048576
/-- The signal engines are present (R1). -/
def Config.hasSige : Part → Bool
  | .cf1024F => false | _ => true
/-- CP3 is present (R1). -/
def Config.hasCry : Part → Bool
  | .cf1024E => false | _ => true
/-- SAFE-OPERATE and the cross-check units exist (R1, R7). -/
def Config.hasSafe : Part → Bool
  | .cf1024F => false | _ => true

/-- FREE VALUE: the 32-bit word number `k` of the on-die random source (R490, NONCE). -/
opaque Config.random : Nat → BitVec 32
/-- FREE VALUE: SOURCE and SYNDROME of the `k`-th captured error whose numbering the spec does not give (R48, R57). -/
opaque Config.errorInfo : Nat → BitVec 24
/-- FREE VALUE: the `k`-th bit that the pipeline's timing decides (SPEC of a fault record, R173). -/
opaque Config.flag : Nat → Bool
/-- FREE VALUE: the `k`-th 64-bit value that the spec leaves open. -/
opaque Config.value : Nat → BitVec 64
/-- FREE VALUE: the sign and payload of the NaN that an operation on these operands gives (R301). -/
opaque Config.nan : W64 → W64 → W64
/-- FREE VALUE: what a lane gives where the spec states no result for these operands: an operator on a type it cannot
use, a field whose format does not fit its signal (R301-R303, R308). The first number names the operation. -/
opaque Config.signalValue : Nat → W64 → W64 → W64
/-- FREE VALUE: the identifier fused in LIFE_UID, unique to each die (R488). -/
opaque Config.lifeUid : BitVec 128
/-- FREE VALUE: Olheuk's JEDEC identity in the identification code (R548). -/
opaque Config.jedec : BitVec 11
/-- FREE VALUE: dword `k` of the counter catalogue (R500), whose entries the spec does not list. -/
opaque Config.catalogue : Nat → BitVec 32
/-- FREE VALUE: the number of catalogue entries, LOG_CAT_COUNT (R510). -/
opaque Config.catalogueCount : BitVec 11

end Sys2Proof
end

