-- ==== Sys2Proof/Machine/RegMap.lean ====
section
/-! DEFINITION. The register map: the page directory of R46, and for each kind of page the registers its chapter's
table lists, with their writable bits and reset values. What a write or a read of a register does beyond storing it
stands with its block. Offsets are byte offsets within the page. -/
namespace Sys2Proof.Machine

/-- The blocks of the page directory (R46) with their unit. -/
inductive PageKind where
  | dev | mode | clk | rst | safe | life | time | log | tel
  | flg (g : Nat) | trg (g : Nat) | mgp
  | parse | cls | em | hash | bpm | pbuf | tm | tsn (u : Nat)
  | hbm | hbms (s : Nat) | host | iov | sema
  | pst (p : Nat) | disp (p : Nat) | gate (p : Nat) | sige (p : Nat) | xchk (k : Nat) | clu (p c : Nat)
  | inst (i : Nat) | dbg
deriving DecidableEq, Repr

/-- Base page of a piste (R46). -/
def pisteBase (p : Nat) : Nat := 0x080 + 0x20 * p

/-- The block of a page in the directory of R46, whatever the part. -/
def pageKindAny (n : Nat) : Option PageKind :=
  if n = 0x000 then some .dev else if n = 0x001 then some .mode else if n = 0x002 then some .clk
  else if n = 0x003 then some .rst else if n = 0x004 then some .safe else if n = 0x005 then some .life
  else if n = 0x006 then some .time else if n = 0x007 then some .log else if n = 0x008 then some .tel
  else if 0x010 ≤ n ∧ n < 0x020 then some (.flg (n - 0x010))
  else if 0x020 ≤ n ∧ n < 0x028 then some (.trg (n - 0x020))
  else if n = 0x028 then some .mgp
  else if n = 0x030 then some .parse else if n = 0x031 then some .cls else if n = 0x032 then some .em
  else if n = 0x033 then some .hash else if n = 0x040 then some .bpm else if n = 0x041 then some .pbuf
  else if n = 0x048 then some .tm
  else if 0x049 ≤ n ∧ n < 0x050 then some (.tsn (n - 0x049))
  else if n = 0x050 then some .hbm else if n = 0x051 then some (.hbms 0) else if n = 0x052 then some (.hbms 1)
  else if n = 0x060 then some .host else if n = 0x061 then some .iov else if n = 0x070 then some .sema
  else if 0x080 ≤ n ∧ n < 0x100 then
    let p := (n - 0x080) / 0x20
    let k := (n - 0x080) % 0x20
    if k = 0 then some (.pst p) else if k = 1 then some (.disp p) else if k = 2 then some (.gate p)
    else if k = 3 then some (.sige p)
    else if k = 4 then (if p % 2 = 0 then some (.xchk (p / 2)) else none)
    else if 8 ≤ k ∧ k < 16 then some (.clu p (k - 8)) else none
  else if 0x100 ≤ n ∧ n < 0x200 then some (.inst (n - 0x100))
  else if n = 0x3F0 then some .dbg
  else none

/-- The unit of a page is present on the part (R6). -/
def kindPresent (part : Part) : PageKind → Bool
  | .flg g => g * 8 < Config.fieldLanes part
  | .trg g => g * 4 < Config.trunkLanes part
  | .hbms s => s < Config.hbmStacks part
  | .pst p | .disp p | .gate p | .clu p _ => p < Config.pistes part
  | .sige p => p < Config.pistes part && Config.hasSige part
  | .xchk k => k * 2 < Config.pistes part && Config.hasSafe part
  | _ => true

/-- The block of a present page, none where the page is absent (R46, R47). -/
def pageKind (part : Part) (n : Nat) : Option PageKind :=
  match pageKindAny n with
  | some k => if kindPresent part k then some k else none
  | none => none

/-- PAGE_ID of a block: TYPE, UNIT, VERSION 0x01 (R46). -/
def pageId : PageKind → Word
  | .dev => 0x00010001 | .mode => 0x00020001 | .clk => 0x00030001 | .rst => 0x00040001 | .safe => 0x00050001
  | .life => 0x00060001 | .time => 0x00070001 | .log => 0x00080001 | .tel => 0x00090001
  | .flg g => BitVec.ofNat 32 (0x00100001 + g * 256) | .trg g => BitVec.ofNat 32 (0x00110001 + g * 256)
  | .mgp => 0x00120001 | .parse => 0x00200001 | .cls => 0x00210001 | .em => 0x00220001 | .hash => 0x00230001
  | .bpm => 0x00300001 | .pbuf => 0x00310001 | .tm => 0x00380001
  | .tsn u => BitVec.ofNat 32 (0x00390001 + u * 256)
  | .hbm => 0x00400001 | .hbms s => BitVec.ofNat 32 (0x00410001 + s * 256)
  | .host => 0x00500001 | .iov => 0x00510001 | .sema => 0x00580001
  | .pst p => BitVec.ofNat 32 (0x00600001 + p * 256) | .disp p => BitVec.ofNat 32 (0x00610001 + p * 256)
  | .gate p => BitVec.ofNat 32 (0x00620001 + p * 256) | .sige p => BitVec.ofNat 32 (0x00630001 + p * 256)
  | .xchk k => BitVec.ofNat 32 (0x00640001 + 2 * k * 256)
  | .clu p c => BitVec.ofNat 32 (0x00680001 + (p * 8 + c) * 256)
  | .inst i => BitVec.ofNat 32 (0x00700001 + i * 256) | .dbg => 0x00F00001

/-- The access codes of R8 as a write sees them: `ro` writes are ignored, `wo` writes act and store nothing. -/
inductive Acc where
  | rw | ro | wo | rc
deriving DecidableEq, Repr

/-- One row of a register table: an array of `n1 * n2` registers at `off + i * s1 + j * s2`. -/
structure RegDesc where
  name : String
  off : Nat
  acc : Acc
  /-- bits a write may set -/
  mask : Nat := 0xFFFFFFFF
  reset : Nat := 0
  /-- a 64-bit register, low half at the lower offset (R50) -/
  wide : Bool := false
  n1 : Nat := 1
  s1 : Nat := 4
  n2 : Nat := 1
  s2 : Nat := 0
deriving Repr

/-- Element of the array that the offset falls on: low-half offset, high half or not. -/
def RegDesc.hit (d : RegDesc) (off : Nat) : Option (Nat × Bool) :=
  if off < d.off then none
  else
    let r := off - d.off
    let j := if d.n2 ≤ 1 then 0 else min (r / d.s2) (d.n2 - 1)
    let q := r - j * d.s2
    let i := if d.n1 ≤ 1 then 0 else q / d.s1
    let e := q - i * d.s1
    if i < d.n1 then
      if e = 0 then some (off, false)
      else if d.wide ∧ e = 4 then some (off - 4, true) else none
    else none

/-- The header registers of R48. PAGE_CTRL keeps LOCK and EN; PAGE_STATUS keeps LAST_REFUSE, CFG_MISMATCH and
GOLDEN_WAIT, the rest of it is computed. -/
def headerRegs : List RegDesc :=
  [ { name := "PAGE_ID", off := 0x00, acc := .ro }, { name := "PAGE_CAPS", off := 0x04, acc := .ro },
    { name := "PAGE_CTRL", off := 0x10, acc := .rw, mask := 5 }, { name := "PAGE_STATUS", off := 0x14, acc := .ro },
    { name := "INT_STATUS", off := 0x20, acc := .rw, mask := 0xFFFFFF3F },
    { name := "INT_ENABLE", off := 0x24, acc := .rw, mask := 0xFFFFFF3F, reset := 6 },
    { name := "INT_FORCE", off := 0x28, acc := .wo }, 
    { name := "INT_ROUTE", off := 0x2C, acc := .rw, mask := 0xF30007FF, reset := 0xC0000000 },
    { name := "ERR_COUNT_CE", off := 0x40, acc := .ro }, { name := "ERR_COUNT_UE", off := 0x44, acc := .ro },
    { name := "ERR_FIRST", off := 0x48, acc := .ro }, { name := "ERR_FIRST_ADDR", off := 0x4C, acc := .ro },
    { name := "REFUSE_COUNT", off := 0x50, acc := .ro }, { name := "REFUSE_LAST", off := 0x54, acc := .ro },
    { name := "CFG_CHECK", off := 0x60, acc := .ro }, { name := "CFG_GOLDEN", off := 0x64, acc := .rw } ]

/-- A read/write register or array. -/
def rw (name : String) (off mask reset : Nat) (n : Nat := 1) (s : Nat := 4) : RegDesc :=
  { name := name, off := off, acc := .rw, mask := mask, reset := reset, n1 := n, s1 := s }
/-- A 64-bit read/write register or array. -/
def rw64 (name : String) (off mask reset : Nat) (n : Nat := 1) (s : Nat := 8) : RegDesc :=
  { name := name, off := off, acc := .rw, mask := mask, reset := reset, wide := true, n1 := n, s1 := s }
/-- A read-only register or array, counters among them. -/
def ro (name : String) (off : Nat) (n : Nat := 1) (s : Nat := 4) : RegDesc :=
  { name := name, off := off, acc := .ro, n1 := n, s1 := s }
/-- A 64-bit read-only register or array. -/
def ro64 (name : String) (off : Nat) (n : Nat := 1) (s : Nat := 8) : RegDesc :=
  { name := name, off := off, acc := .ro, wide := true, n1 := n, s1 := s }
/-- A write-only register. -/
def wo (name : String) (off : Nat) (n : Nat := 1) (s : Nat := 4) : RegDesc :=
  { name := name, off := off, acc := .wo, n1 := n, s1 := s }
/-- A read-to-clear register. -/
def rc (name : String) (off : Nat) : RegDesc := { name := name, off := off, acc := .rc }

/-- A statistics slot of R115, at `off`, `n` of them 0x80 apart. -/
def statSlots (off n : Nat) : List RegDesc :=
  [ ro64 "RX_OCTETS" off n 0x80, ro64 "RX_FRAMES" (off + 0x08) n 0x80, ro "RX_FCS_ERR" (off + 0x10) n 0x80,
    ro "RX_RUNT" (off + 0x18) n 0x80, ro "RX_OVERSIZE" (off + 0x20) n 0x80, ro "RX_NO_BUFFER" (off + 0x28) n 0x80,
    ro "RX_NOT_ADMITTED" (off + 0x30) n 0x80, ro "RX_ABORT" (off + 0x38) n 0x80, ro64 "TX_OCTETS" (off + 0x40) n 0x80,
    ro64 "TX_FRAMES" (off + 0x48) n 0x80, ro "TX_CT_STOMPED" (off + 0x50) n 0x80, ro "TX_ABORT" (off + 0x58) n 0x80,
    ro "TX_HOLD_ROUNDS" (off + 0x60) n 0x80, ro "LINK_DOWN_EVENTS" (off + 0x68) n 0x80,
    ro64 "SLOT_ZERO" (off + 0x70) n 0x80, ro "PORT_STATE" (off + 0x78) n 0x80 ]

/-- DEV identity registers (R3). -/
def devRegs : List RegDesc :=
  [ ro "DEV_PART" 0x8000, ro "DEV_STEPPING" 0x8004, ro "DEV_CAPS" 0x8008, ro "DEV_LIMITS" 0x800C ]

/-- MODE registers (R70). -/
def modeRegs : List RegDesc :=
  [ rw "MODE_CFG" 0x0100 0x101 1, ro "MODE_STATUS" 0x8000, ro "MODE_BOOT" 0x8004, ro "MODE_IMAGE_SEQ" 0x8008,
    ro "MODE_BOOT_TIME" 0x800C, ro "MODE_REFUSE_COUNT" 0x8010, ro "MODE_ENTRY_FAIL" 0x8014,
    rw "MODE_REQ_ARG" 0x8100 3 0, wo "MODE_REQ" 0x8104, ro "MODE_REQ_STATUS" 0x8108,
    rw "FLASH_ADDR" 0x8200 0xFFFFFFFF 0, rw "FLASH_LEN" 0x8204 0xFFFFFFFF 0, wo "FLASH_CMD" 0x8208,
    ro "FLASH_STATUS" 0x820C, rw "FLASH_BUF" 0x9000 0xFFFFFFFF 0 1024 ]

/-- CLK registers (R534). -/
def clkRegs : List RegDesc :=
  [ rw "CLK_REF_EN" 0x0100 0x01FFFFFF 0x01FFFFFF, ro "CLK_PLL_STATUS" 0x8000, ro "CLK_REF_STATUS" 0x8004,
    ro "CLK_REF_LOSS" 0x8008, ro "CLK_COUNT" 0x8010 11 ]

/-- RST registers (R535). -/
def rstRegs : List RegDesc :=
  [ rw "RST_TEMP_WARN" 0x0100 0xFF 100, ro "RST_STATUS" 0x8000, ro "TEMP_SENSOR" 0x8010 18, ro "TEMP_HIST" 0x8060 8,
    ro "RAIL_MV" 0x8080 9 ]

/-- SAFE registers (R482). -/
def safeRegs : List RegDesc :=
  [ rw "SAFE_CFG" 0x0100 0x80FF0F71 0x80100301, rw "SAFE_IN_CFG" 0x0104 0x3FF 200,
    rw "SAFE_WD_CFG" 0x0108 0x3F0FFFFF 0x3E8, ro "SAFE_STATUS" 0x8000, ro "SAFE_LAST_CAUSE" 0x8004,
    ro "SAFE_REC_COUNT" 0x8008, ro "SAFE_REC_LOST" 0x800C, ro "SAFE_FORCED_COUNT" 0x8010,
    ro "SAFE_REFUSE_NOTES" 0x8014, ro "XCHK_SELFCHECKS" 0x8018, wo "SAFE_WD_KICK_TEL" 0x8040 2,
    ro "ST_ROUNDS" 0x8100 4 0x10, ro "ST_SKIPS" 0x8104 4 0x10, ro "ST_STATE" 0x8108 4 0x10,
    ro "ST_LAST_FAIL" 0x810C 4 0x10, rw "SAFE_INJ_ARG" 0x8300 0xFFFFFFFF 0, wo "SAFE_INJ_CMD" 0x8304,
    ro "SAFE_INJ_STATUS" 0x8308, ro "VMON_STATUS" 0x8400, rc "TMON_MAX" 0x8404, ro "CMON_STATUS" 0x8408,
    ro "SAFE_REC_HEAD" 0x9000 8, wo "SAFE_REC_POP" 0x9020, ro "SAFE_REC_LEVEL" 0x9024 ]

/-- LIFE registers (R497). -/
def lifeRegs : List RegDesc :=
  [ rw "LIFE_TAMPER_CFG" 0x0100 3 3, ro "LIFE_STATE" 0x8000, ro "LIFE_UID" 0x8010 4, ro "LIFE_TAMPER_STATUS" 0x8030,
    ro "LIFE_TAMPER_COUNT" 0x8034, ro "LIFE_AUTH_FAIL" 0x8038, ro "LIFE_NONCE" 0x8040 4, ro "LIFE_ZERO_STATUS" 0x8050,
    rw "LIFE_ARG" 0x8100 3 0, wo "LIFE_CMD" 0x8104, ro "LIFE_STATUS" 0x8108,
    rw "LIFE_KEY_BUF" 0x9000 0xFFFFFFFF 0 24, rw "LIFE_AUTH" 0x9100 0xFFFFFFFF 0 24 ]

/-- TIME registers (R424). -/
def timeRegs : List RegDesc :=
  [ rw "PPS_CTRL" 0x0100 3 0, rw "PPS_WIDTH" 0x0104 0x3FFFFFFF 100000000, rw "PPS_OUT_COMP" 0x0108 0xFFFF 0,
    ro "TIME_NS" 0x8000, ro "TIME_SEC_LO" 0x8004, ro "TIME_SEC_HI" 0x8008, ro "TIME_FRAC" 0x800C,
    rw "TIME_ADJ" 0x8010 0xFFFFFFFF 0, ro "TIME_PPS_NS" 0x8020, ro "TIME_PPS_SEC_LO" 0x8024,
    ro "TIME_PPS_SEC_HI" 0x8028, ro "TIME_STEPS" 0x8030, ro "TIME_PPS_COUNT" 0x8034, ro "PPS_IN_GLITCH" 0x8038,
    rw "TIME_ARG_SEC_LO" 0x8100 0xFFFFFFFF 0, rw "TIME_ARG_SEC_HI" 0x8104 0xFFFF 0,
    rw "TIME_ARG_NS" 0x8108 0xFFFFFFFF 0, wo "TIME_CMD" 0x810C, ro "TIME_STATUS" 0x8110 ]

/-- LOG registers (R510). -/
def logRegs : List RegDesc :=
  [ rw "BUNT_CFG" 0x0100 0xF7FF03FF 0x3E8, rw "BUNT_HDR_LEN" 0x0104 0x7F 14,
    rw "BUNT_TEMPLATE" 0x0140 0xFFFFFFFF 0 16, rw "BUNT_SEL" 0x0200 0xFFFFFFFF 0 128,
    rw "HIST_CFG" 0x0400 0xB71F1FFF 0x00040001, rw64 "HIST_BASE" 0x0408 0xFFFFFFFF00 0,
    rw "HIST_SEL" 0x1000 0x7FFFF 0 4096, ro "LOG_WR" 0x8000, rw "LOG_RD" 0x8004 0xFFFFFFFF 0, ro "LOG_LOST" 0x8008,
    ro "LOG_CAT_COUNT" 0x800C, ro "BUNT_SEQ" 0x8010, ro "BUNT_DROPPED" 0x8014, ro "BUNT_SKIPPED" 0x8018,
    ro "HIST_WR" 0x8020, ro "HIST_SKIPPED" 0x8024, rw "LOG_ARG_KIND" 0x8100 0xFF 0,
    rw "LOG_ARG" 0x8104 0xFFFFFFFF 0 3, wo "LOG_CMD" 0x8110, ro "LOG_CMD_STATUS" 0x8114,
    rw "HIST_ARG" 0x8120 0xFFFFFFFF 0, wo "HIST_CMD" 0x8124, ro "HIST_STATUS" 0x8128, rw "LOG_WIN_SEL" 0x8130 0x1F 0,
    rw "LOG_CAT_SEL" 0x8134 1 0, ro "catalogue" 0xA000 2048, ro "log" 0xC000 1024, ro "HIST_BUF" 0xD000 3072 ]

/-- TEL registers: fault queue (R176), GPIO (R536), wipe status (R355), CP3 counters (R249). -/
def telRegs : List RegDesc :=
  [ rw "TEL_FAULT_CFG" 0x0100 7 0, rw "GPIO_DIR" 0x0600 0xFFFF 0, rw "GPIO_OD" 0x0604 0xFFFF 0,
    ro "TEL_FAULT_COUNT" 0x8000, ro "TEL_FAULT_LOST" 0x8004, ro "TEL_FAULT_LEVEL" 0x8008,
    ro64 "CRY_BYTES" 0x8420, ro "CRY_AUTH_FAIL" 0x8428, ro "CRY_BUSY" 0x842C, ro "CRY_KEY_UE" 0x8430,
    ro "TEL_WIPE_STATUS" 0x8520, ro "WIPE_BLOCKED" 0x8524, rw "GPIO_OUT" 0x8600 0xFFFF 0, ro "GPIO_IN" 0x8604,
    ro "TEL_FAULT_HEAD" 0x9000 8, wo "TEL_FAULT_POP" 0x9020 ]

/-- FLG registers of 8 field lanes and 64 statistics slots (R114). -/
def flgRegs : List RegDesc :=
  [ rw "FL_LANE_CFG" 0x0100 0x3337 0 8 0x40, rw "FL_FMX_CFG" 0x0104 0xFFFF 0xFF00 8 0x40,
    rw "FL_MAX_FRAME" 0x0108 0x3FFF 1522 8 0x40, rw "FL_TX_EQ" 0x010C 0x3F3F3F 0x3F00 8 0x40,
    ro "FL_LANE_STATUS" 0x8000 8 0x40, ro "FMX_MARKER_BAD" 0x8008 8 0x40, ro "FMX_LOCK_LOSS" 0x800C 8 0x40,
    ro "FMX_RATE_MISMATCH" 0x8010 8 0x40, ro "AN_FAIL" 0x8014 8 0x40, ro "FEC_CORRECTED" 0x8018 8 0x40,
    ro "FEC_UNCORRECTED" 0x801C 8 0x40 ] ++ statSlots 0xA000 64

/-- TRG registers (R114). -/
def trgRegs : List RegDesc :=
  [ rw "TR_LANE_CFG" 0x0100 0x3301 0 4 0x40, rw "TR_TX_EQ" 0x010C 0x3F3F3F 0x3F00 4 0x40, rw "TR_GROUP_CFG" 0x0200 7 0,
    rw "TR_MAX_FRAME" 0x0210 0x3FFF 1522 4, ro "TR_LANE_STATUS" 0x8000 4 0x40, ro "AN_FAIL" 0x8014 4 0x40,
    ro "FEC_CORRECTED" 0x8018 4 0x40, ro "FEC_UNCORRECTED" 0x801C 4 0x40 ] ++ statSlots 0xA000 4

/-- MGP registers (R114). -/
def mgpRegs : List RegDesc :=
  [ rw "MGP_CFG" 0x0100 0x3030F 0x30300, rw "MGP_MAX_FRAME" 0x0104 0x3FFF 1522 ] ++ statSlots 0xA000 2

/-- BPM registers (R353). -/
def bpmRegs : List RegDesc :=
  [ rw "POOL_CFG" 0x0200 0x9FFF1FFF 0 64, rw "REQ_CFG" 0x1000 0x3F07FFFF 0 1352 8, rw "REQ_CEIL" 0x1004 0x7FFFF 0 1352 8,
    ro "BPM_USED" 0x8000, ro "BPM_REJECT_DOUBLE" 0x8004, ro "BPM_REJECT_OWNER" 0x8008, ro "BPM_RECLAIMED" 0x800C,
    ro "BPM_REJECT_LAST" 0x8010, ro "BPM_REJECT_TAG" 0x8014, rw "BPM_CMD_ARG0" 0x8100 0x7FFFF 0,
    rw "BPM_CMD_ARG1" 0x8104 0xFFFF 0, wo "BPM_CMD" 0x8108, ro "BPM_CMD_STATUS" 0x810C, ro "BPM_CMD_RESULT" 0x8110,
    ro "POOL_FREE" 0x9000 64 0x10, ro "POOL_OWED" 0x9004 64 0x10, ro "POOL_EMPTY" 0x9008 64 0x10,
    ro "POOL_QUOTA" 0x900C 64 0x10, ro "REQ_USED" 0xA000 1352 ]

/-- PBUF registers (R354). -/
def pbufRegs : List RegDesc :=
  [ ro "PBUF_DATA_UE" 0x8000, ro "PBUF_CTRL_UE" 0x8004, ro "PBUF_TX_BAD" 0x8008, rw "PBUF_CELL_SEL" 0x8100 0x7FFFF 0,
    ro64 "PBUF_CELL_CTRL" 0x8108, ro "cell window" 0xF000 64 ]

/-- TM registers (R425). The port window is looked up by the selected port. -/
def tmRegs : List RegDesc :=
  [ rw64 "TM_DEEP_BASE" 0x0100 0xFFC0000000 0x1400000000, rw "TM_DEEP_SIZE" 0x0108 0x3F 0,
    rw "TM_TEL_THREAD" 0x0110 7 0 8, rw "TM_TBL_GOLDEN" 0x0130 0xFFFFFFFF 0, rw "TM_CLASS" 0x1000 3 0 256,
    ro "TM_STORE_USED" 0x8000, ro "TM_TBL_CHECK" 0x8004, rw "TM_PORT_SEL" 0x8100 0x7FF 0 ]

/-- TM port window (R425), offsets as in the page. -/
def tmWindowRegs : List RegDesc :=
  [ rw "PORT_CFG" 0xA000 0xFF3F 0x0A00, rw "Q_CFG" 0xA010 0xFFF7FFFF 0xFFF00400 8 0x10,
    rw "Q_IDLESLOPE" 0xA014 0xFFFFFFFF 0 8 0x10, rw "Q_STREAM" 0xA018 0x8000FFFF 0 8 0x10,
    rw64 "GCL_ADMIN_BASE_SEC" 0xA100 0xFFFFFFFFFFFF 0, rw "GCL_ADMIN_BASE_NS" 0xA108 0xFFFFFFFF 0,
    rw "GCL_ADMIN_CYCLE" 0xA10C 0xFFFFFFFF 1000000, rw "GCL_ADMIN_EXT" 0xA110 0xFFFFFFFF 0,
    rw "GCL_ADMIN_LIST" 0xA114 0x1FF3FFFF 0x00100000, rw "GCL_ADMIN_GATES" 0xA118 0xFF 0xFF, wo "GCL_CMD" 0xA11C,
    ro "GCL_STATUS" 0xA120, ro "GCL_OPER_LIST" 0xA130, ro "GCL_OPER_CYCLE" 0xA134, ro "GCL_STATE" 0xA138,
    ro64 "GCL_CHANGE_SEC" 0xA140, ro "GCL_CHANGE_NS" 0xA148, ro64 "Q_TX" 0xA200 8 0x20, ro "DROP_QFULL" 0xA208 8 0x20,
    ro "DROP_LINK" 0xA20C 8 0x20, ro "DROP_YELLOW" 0xA210 8 0x20, ro "DROP_DEEP" 0xA214 8 0x20,
    ro "GATE_TOO_LONG" 0xA218 8 0x20, ro "SCHED_LATE" 0xA21C 8 0x20, ro "DROP_STORE" 0xA300, ro "REPL_LIMIT" 0xA304,
    ro "GCL_STEP_GAP" 0xA308, ro "GCL_SKIPPED" 0xA30C, ro "PREEMPTIONS" 0xA310, ro "VERIFY_FAIL" 0xA314,
    ro "PREEMPT_STATE" 0xA318 ]

/-- TSN pages (R426); the store windows of units 0 to 4 lie at 0xC000. -/
def tsnRegs : Nat → List RegDesc
  | 5 => [ rw "TSN_SEL" 0x8100 0x1FF 0, rw "TS_PORT_SEL" 0x8200 0x7FF 0, rw "TS_RX_ADJ" 0x8204 0xFFFF 0,
           rw "TS_TX_ADJ" 0x8208 0xFFFF 0, { name := "TS_HEAD", off := 0x9000, acc := .ro, n1 := 4, s1 := 4, n2 := 4, s2 := 0x40 },
           wo "TS_POP" 0x9010 4 0x40, ro "TS_LEVEL" 0x9014 4 0x40, ro "TS_LOST" 0x9018 4 0x40 ]
  | 6 => [ rw "MIR_CFG" 0x0100 0x8FFF77FF 0 16, rw "TSN_SEL" 0x8100 0x1FF 0, ro "MIR_COPIES" 0x8000 16 8,
           ro "MIR_DROPS" 0x8004 16 8 ]
  | 4 => [ rw "TSN_SEL" 0x8100 0x1FF 0, ro "store window" 0xC000 2048 ]
  | _ => [ rw "TSN_SEL" 0x8100 0x1FF 0, rw "store window" 0xC000 0xFFFFFFFF 0 2048 ]

/-- Reset value of HBM_PORT_CFG(n) (R374, R391). -/
def hbmPortReset : Nat → Nat
  | 0 => 0x80001F4 | 5 | 6 => 0x40003E8 | 7 => 0x1002710 | 8 => 0x40007D0 | 9 => 0x20003E8
  | 10 | 11 | 12 | 13 => 0x4000190 | 14 => 0x10186A0 | 15 => 0x1001388 | _ => 0x20007D0

/-- HBM common registers (R391). -/
def hbmRegs : List RegDesc :=
  [ rw "HBM_CFG" 0x0100 0xFF01 0x101, rw64 "HBM_FLOW_BASE" 0x0108 0xFFF0000000 0x1100000000, rw "FC_CTRL" 0x0110 1 0,
    rw "HBM_PORT_CFG" 0x0200 0xF0FFFFF 0 16, ro "HBM_STATUS" 0x8000, ro64 "FC_HITS" 0x8010, ro64 "FC_MISSES" 0x8018,
    ro "FC_PIN_STALL" 0x8020, ro "QUAR_WRITES_DROPPED" 0x8024, ro "HBM_QUAR_COUNT" 0x8028,
    rw "HBM_FENCE_ARG" 0x8100 0xFFFF 0, wo "HBM_FENCE_CMD" 0x8104, ro "HBM_FENCE_STATUS" 0x8108,
    rw "FLOW_ARG" 0x8200 0xFFFFF 0, wo "FLOW_CMD" 0x8204, ro "FLOW_STATUS" 0x8208, ro "HBM_QUAR_HEAD" 0x9000 8,
    wo "HBM_QUAR_POP" 0x9020, ro "QUAR_LOST" 0x9024, ro "QUAR_LEVEL" 0x9028, rw "FLOW_BUF" 0x9100 0xFFFFFFFF 0 64,
    ro64 "PORT_REQS" 0xA000 16 0x10, ro "PORT_LATE" 0xA008 16 0x10, ro "PORT_FULL" 0xA00C 16 0x10 ]

/-- HBM stack registers (R392). -/
def hbmsRegs : List RegDesc :=
  [ ro "HBM_TRAIN_STATUS" 0x8000, ro "HBM_TEMP" 0x8004, rc "HBM_TEMP_MAX" 0x8008, ro "TEMP_NO_READ" 0x800C,
    ro "REF_CATCHUPS" 0x8010, ro "REF_URGENT" 0x8014, ro "REF_VIOLATION" 0x8018, ro "SCRUB_PASSES" 0x801C,
    ro "ECC_ADDR_ERR" 0x8020, ro "STACK_ODECC" 0x8024, ro "UE_LOG_LEVEL" 0x8030, ro64 "UE_LOG" 0x8100 16 ]

/-- HOST registers (R454). -/
def hostRegs : List RegDesc :=
  [ rw "HOST_XFER_WEIGHT" 0x0100 0xFF 4, ro "HOST_LINK" 0x8000, ro "HOST_LINK_DOWN" 0x8004, ro "HOST_LATE_CPL" 0x8008,
    ro64 "HOST_RD_BYTES" 0x8010, ro64 "HOST_WR_BYTES" 0x8018, rw64 "XFER_HOST" 0x8100 0xFFFFFFFFFFFFFFFF 0,
    rw64 "XFER_HBM" 0x8108 0xFFFFFFFFFFFFFFFF 0, rw "XFER_LEN" 0x8110 0xFFFFFFFF 0, wo "XFER_CMD" 0x8114,
    ro "XFER_STATUS" 0x8118 ]

/-- IOV registers (R453). -/
def iovRegs : List RegDesc :=
  [ rw "INST_DRAIN_TIMEOUT" 0x0100 0xFFFFFF 1000, rw64 "DIRTY_BASE" 0x0108 0xFFFFFFFFFFFFF000 0, rw "DIRTY_CTRL" 0x0110 1 0,
    ro "DIRTY_WR" 0x8000, rw "DIRTY_RD" 0x8004 0xFFFFFFFF 0, ro "DIRTY_MARK" 0x8008, ro "DIRTY_STATUS" 0x800C,
    ro "DIRTY_DROPPED" 0x8010, wo "DIRTY_CMD" 0x8104, ro "DIRTY_CMD_STATUS" 0x8108,
    rw64 "MED_VALUE" 0x8200 0xFFFFFFFFFFFFFFFF 0, wo "MED_CMD" 0x8208, ro "MED_STATUS" 0x820C, ro "MED_LEVEL" 0x8210,
    ro "MED_HEAD" 0x9000 4 ]

/-- SEMA registers (R369). -/
def semaRegs : List RegDesc :=
  [ rw "SEMA_GRP_CFG" 0x0100 0xFF0F0F 0x200 64 8, rw "SEMA_GRP_SUP" 0x0104 0x800007FF 0x80000000 64 8,
    rw "SEMA_CAP" 0x1000 0xFFFF 0 4096, ro "SEMA_HOLDERS_USED" 0x8000, ro "SEMA_HOLDER_FULL" 0x8004,
    ro "SEMA_REL_REFUSED" 0x8008, ro "SEMA_REL_LAST" 0x800C, ro64 "SEMA_WAKES" 0x8010, ro "SEMA_ORPHANED" 0x8018,
    rw "SEMA_ARG0" 0x8100 0xFFFFFFFF 0, rw "SEMA_ARG1" 0x8104 0xFFFFFFFF 0, wo "SEMA_CMD" 0x8108,
    ro "SEMA_CMD_STATUS" 0x810C, ro "SEMA_CMD_RESULT" 0x8110, ro "SEMA_ORPH_HEAD" 0x9000 4, wo "SEMA_ORPH_POP" 0x9010,
    ro "SEMA_ORPH_LOST" 0x9014, ro "SEMA_ORPH_LEVEL" 0x9018, rw "SEMA_HOLD_SEL" 0xA000 0x3F 0,
    ro "holder window" 0xB000 1024 ]

/-- PST registers (R185, R483). -/
def pstRegs : List RegDesc :=
  [ rw "PST_CFG" 0x0100 7 0, ro "PST_FAULT_COUNT" 0x8000, ro "PST_FAULT_LOST" 0x8004, ro "PST_FAULT_LEVEL" 0x8008,
    ro "PST_FAULT_DROP" 0x800C, rw "PST_TCMD_ARG" 0x8100 0x7FF 0, wo "PST_TCMD" 0x8104, ro "PST_TCMD_STATUS" 0x8108,
    wo "PST_WD_KICK" 0x8200, ro "PST_FAULT_HEAD" 0x9000 8, wo "PST_FAULT_POP" 0x9020 ]

/-- DISP registers (R279). -/
def dispRegs (p : Nat) : List RegDesc :=
  [ rw "DISP_CFG" 0x0100 0x707 0x700, rw "DEADLOCK_WINDOW" 0x0104 0xFFFFFF 100,
    rw64 "DISP_SPILL_BASE" 0x0108 0xFFC0000000 ((0x40 + p) * 0x40000000), rw "DISP_KIND_CFG" 0x0200 3 0 8,
    rw "DISP_LIST_CFG" 0x0400 0x1F7FFF 0x4000 64, rw "DISP_TAKE" 0x1000 0xFF 0 512, ro "DISP_ONDIE_USED" 0x8000,
    ro "DISP_DEADLOCK" 0x8004, ro "DESC_CRC_ERR" 0x8008, ro "KIND_MISMATCH" 0x800C, ro "SPILL_ECC" 0x8010,
    ro "DEADLOCK_DECL" 0x8014, ro "LIST_ONDIE" 0x9000 64 0x40, ro "LIST_SPILLED" 0x9004 64 0x40,
    { name := "WAIT_HIST", off := 0x9010, acc := .ro, n1 := 8, s1 := 4, n2 := 64, s2 := 0x40 },
    ro "CORE_LOAD" 0xB000 64, ro "SPILLS" 0xC000 256 0x10, ro "SPILL_FULL" 0xC004 256 0x10 ]

/-- GATE registers (R280). -/
def gateRegs : List RegDesc :=
  [ rw "GATE_CFG" 0x0100 0xFF07 0x4000, rw "GATE_TIMEOUT" 0x0104 0xFFFFFF 50000, rw "SNOWPLOUGH_HOLD" 0x0108 0xFFFFFF 1000,
    rw "GATE_CLASS" 0x1000 0xFFFF000F 1 256, ro "GATE_HEAD_SEQ" 0x8000, ro "GATE_NEXT_SEQ" 0x8004,
    ro "GATE_OCCUPANCY" 0x8008, ro "SNOW_ACTIVE" 0x800C, ro64 "GATE_RELEASED" 0x8010, ro "GATE_TIMEOUTS" 0x8018,
    ro "GATE_TO_SUSPENDED" 0x801C, ro "GATE_SQUASHED" 0x8020, ro "RECALLS" 0x8024, ro "FIRM_WAITS" 0x8028,
    ro "SNOW_FULL" 0x802C, ro "EDIT_NO_BUFFER" 0x8030, ro "GATE_REC_LOST" 0x8034, ro "GATE_REC_LEVEL" 0x8038,
    ro "GATE_REC_HEAD" 0x9000 8, wo "GATE_REC_POP" 0x9020, ro "REPLAYS" 0xA000 256 0x10, ro "SNOW_ENTRIES" 0xA004 256 0x10 ]

/-- SIGE registers (R328). -/
def sigeRegs : List RegDesc :=
  [ rw "TIMER_PERIOD" 0x0100 0x800FFFFF 0 8 8, rw "TIMER_PHASE" 0x0104 0xFFFFF 0 8 8,
    rw "SIGE_SEAL_POLY" 0x0180 0xFFFFFFFF 0 2, rw "SIGE_TBL_GOLDEN" 0x0190 0xFFFFFFFF 0,
    rw "SIGE_FWD" 0x0400 0x800077FF 0 256, rw "GCTL" 0x1000 0x3FFF03FF 0 64 0x10, rw "GSIZE" 0x1004 0xFF7FFF 0 64 0x10,
    rw "GTIME" 0x1008 0xFFFFFFFF 0 64 0x10, rw "GSAFE" 0x100C 0x3FF7FFFF 0 64 0x10, ro "SIGE_SAFE_LOAD" 0x8000,
    ro "SIGE_TBL_CHECK" 0x8004, ro "UNPACK_NOMAP" 0x8010, ro "FRAME_EXTRA" 0x8014, ro "SEAL_CRC_ERR" 0x8018,
    ro "SEAL_SEQ_GAP" 0x801C, ro "SEAL_SEQ_REJECT" 0x8020, ro "SIG_CHECK_ERR" 0x8024, ro "CODE_CRC_ERR" 0x8028,
    ro "PACK_NO_BUFFER" 0x802C, ro "CYCLE_SKIP" 0x8030, ro "PAIR_MISROUTED" 0x8034, ro "IND_REWRITTEN" 0x8038,
    ro "FORCED_NOW" 0x803C, ro "TIMER_COUNT" 0x8080 8, rw "GRAPH_ARG0" 0x8100 0x3F3F 0,
    rw64 "GRAPH_ARG1" 0x8108 0xFFFFFFFFFFFFFFFF 0, rw "GRAPH_ARG2" 0x8110 0x7FFFF 0, wo "GRAPH_CMD" 0x8114,
    ro "GRAPH_STATUS" 0x8118, rw "SIGE_WIN_SEL" 0x8200 0xFFFF0F 0, rw "SIGE_SIG_BASE" 0x8204 0x1FF 0,
    ro "GRAPH_STATE" 0x9000 64, ro "OVERRUNS" 0x9100 64, rw "store window" 0xA000 0xFFFFFFFF 0 2048,
    ro "signal window" 0xC000 4096 ]

/-- XCHK registers (R329). -/
def xchkRegs : List RegDesc :=
  [ ro "XCHK_STATUS" 0x8000, ro "XCHK_LAST" 0x8004, ro "XCHK_LAST_CYCLE" 0x8008, wo "XCHK_CLEAR" 0x800C,
    ro64 "XCHK_COMPARED" 0x8010, ro "XCHK_MISMATCH" 0x8018, ro "XCHK_MISSING" 0x801C, ro "XCHK_SEAL" 0x8020 ]

/-- The thread-context window (R184). -/
def contextRegs : List RegDesc :=
  [ rw64 "g" 0xC000 0xFFFFFFFFFFFFFFFF 0 32, rw64 "PC" 0xC100 0xFFFFFFFFFF 0, rw "PL" 0xC108 3 0, ro "STATUS" 0xC10C,
    rw64 "EPC" 0xC110 0xFFFFFFFFFF 0, rw "CAUSE" 0xC118 0xFF 0, rw "EVMASK" 0xC11C 0x7FF 0, rw "EVPEND" 0xC120 0x7FF 0,
    rw "CPEN" 0xC124 0xFFFFFF 0, rw64 "TIMER" 0xC128 0xFFFFFFFFFFFFFFFF 0, rw64 "REGION" 0xC130 0xFFFFFFFFFFFFFFFF 0 8,
    rw64 "START_PC" 0xC170 0xFFFFFFFFFF 0 ]

/-- CLU registers (R184, R249, R355). -/
def cluRegs : List RegDesc :=
  [ rw "CLU_CORE_CTRL" 0x0100 0x10107 0x10000 8 0x20,
    { name := "CLU_LS_SLICE", off := 0x0200, acc := .rw, mask := 0x3F1F, n1 := 8, s1 := 4, n2 := 8, s2 := 0x20 },
    rw "CLU_ICS_BASE" 0x0300 0x3F 0, rw "CLU_ICS_GOLDEN" 0x0304 0xFFFFFFFF 0, rw "CRC_POLY" 0x0400 0xFFFFFFFF 0 4 0x10,
    rw "CRC_PCFG" 0x0404 0x33F 32 4 0x10, rw "CRC_INIT" 0x0408 0xFFFFFFFF 0 4 0x10, rw "CRC_XOR" 0x040C 0xFFFFFFFF 0 4 0x10,
    rw "LKP_CFG" 0x0500 1 0, rw64 "LKP_TBL_BASE" 0x0510 0xFFFFFFFFC0 0 4 0x10, rw "LKP_TBL_CFG" 0x0518 0xF31F0000 0x40000 4 0x10,
    rw "CLU_DYN_CFG" 0x0600 0xFF0F0F 0, ro "CLU_THREAD_STATE" 0x8000 8 0x10, ro "CLU_MISPREDICT" 0x8004 8 0x10,
    ro "CLU_ICACHE_MISS" 0x8008 8 0x10, rw "CLU_TCTX_SEL" 0x8100 0x3F 0, ro "CLU_ICS_CHECK" 0x8200,
    ro "CP_SQUASHED" 0x8400, ro "CP_ERRORS" 0x8404, ro64 "LKP_REQS" 0x8410, ro "LKP_QUEUE_FULL" 0x8418,
    ro64 "CRY_BYTES" 0x8420, ro "CRY_AUTH_FAIL" 0x8428, ro "CRY_BUSY" 0x842C, ro "CRY_KEY_UE" 0x8430,
    rw "CLU_DYN_ARG" 0x8500 0xFF07FF 0, wo "CLU_DYN_CMD" 0x8504, ro "CLU_DYN_STATUS" 0x8508, ro "CLU_DYN_RESULT" 0x850C,
    ro "CLU_DYN_FREE" 0x8510, ro "CLU_WIPE_STATUS" 0x8520, ro "WIPE_BLOCKED" 0x8524,
    rw "instruction window" 0xE000 0xFFFFFFFF 0 2048 ] ++ contextRegs

/-- INST registers (R452). -/
def instRegs : List RegDesc :=
  [ rw "INST_CFG" 0x0100 3 0, rw "INST_PASID" 0x0104 0xFFFFF 0, rw "INST_SHARE" 0x0108 0x3FFF00FF 0x2000010,
    rw "INST_VEC" 0x010C 0xFFF07FF 0, rw "INST_DB_SUB" 0x0110 0x800007FF 0,
    rw64 "INST_MWIN_BASE" 0x0200 0xFFFFFFFFFFFFF000 0 8 0x10, rw "INST_MWIN_CFG" 0x0208 0x8000003F 0 8 0x10,
    ro "INST_STATUS" 0x8000, ro "ADMIT_DEPTH" 0x8004, ro64 "TX_FRAMES" 0x8010, ro64 "RX_FRAMES" 0x8018,
    ro "TX_MALFORMED" 0x8020, ro "RX_MALFORMED" 0x8024, ro "TX_NO_BUFFER" 0x8028, ro "SHARE_SPILLS" 0x802C,
    ro "DB_DROPPED" 0x8030, ro "RX_NO_RING" 0x8034, ro "RESET_DROPS" 0x8038, ro "DMA_ERR" 0x803C, ro "MWIN_VIOL" 0x8040,
    wo "INST_CMD" 0x8104, ro "INST_CMD_STATUS" 0x8108, ro "INST_RESET_RESULT" 0x810C,
    rw64 "TXR_BASE" 0x9000 0xFFFFFFFFFFFFFFC0 0 16 0x20, rw "TXR_CFG" 0x9008 0xBFFFFF1F 6 16 0x20,
    rw64 "TXR_WB" 0x9010 0xFFFFFFFFFFFFFFFC 0 16 0x20, rw64 "RXR_BASE" 0x9200 0xFFFFFFFFFFFFFFC0 0 16 0x20,
    rw "RXR_CFG" 0x9208 0x8FFFFF1F 6 16 0x20, rw "INST_RXMAP" 0x9400 0xFFFFFFFF 0, ro "TXR_HEAD" 0x9800 16 8,
    ro "TXR_TAIL" 0x9804 16 8, ro "RXR_HEAD" 0x9900 16 8, ro "RXR_TAIL" 0x9904 16 8 ]

/-- DBG registers (R550). -/
def dbgRegs : List RegDesc :=
  [ ro "DBG_STATUS" 0x8000, ro "DBG_FORCED_RESUMES" 0x8004, ro "DBG_LAST_HIT" 0x8008, ro64 "DBG_HIT_ADDR" 0x8010,
    rw "DBG_ARG" 0x8100 0x37FF 0, wo "DBG_CMD" 0x8104, ro "DBG_CMD_STATUS" 0x8108, ro "DBG_RESULT" 0x810C,
    { name := "DBG_BP_ADDR", off := 0x8400, acc := .rw, mask := 0xFFFFFFFFFF, wide := true, n1 := 8, s1 := 0x10, n2 := 4, s2 := 0x100 },
    { name := "DBG_BP_CTL", off := 0x8408, acc := .rw, mask := 0xB31F07FF, reset := 0x20000, n1 := 8, s1 := 0x10, n2 := 4, s2 := 0x100 },
    rw "DBG_TRACE_CFG" 0x8800 0x87FF30FF 0 4 0x20, ro "DBG_TRACE_WR" 0x8804 4 0x20, ro "DBG_TRACE_LOST" 0x8808 4 0x20,
    rw64 "DBG_TRACE_BASE" 0x8810 0xFFFE000000 0 4 0x20, rw "DBG_TRACE_SEL" 0x8900 0x1FC3 0,
    ro "trace window" 0xE000 1024 ] ++ contextRegs

/-- PARSE registers (R148). -/
def parseRegs : List RegDesc :=
  [ rw "PARSE_CFG" 0x0100 0x03FFFFFF 0x02000000, rw "HT_CFG" 0x1000 0xC0FF00FF 0 64 0x10,
    rw "HT_LEN" 0x1004 0xFFFFFF03 0 64 0x10, rw "HT_NEXT" 0x1008 0xFF01FF7F 64 64 0x10,
    rw "HT_PLEN" 0x100C 0xFF030000 0 64 0x10, rw "PT_MATCH" 0x3000 0xFFFFFFFF 0 512 8,
    rw "PT_CTRL" 0x3004 0x803F007F 0 512 8, ro64 "PARSE_FRAMES" 0x8000 4 0x40, ro "DEPTH_EXCEEDED" 0x8008 4 0x40,
    ro "LENGTH_CONFLICT" 0x800C 4 0x40, ro "LATE_LENGTH_CONFLICT" 0x8010 4 0x40, ro "UNDEF_TYPE" 0x8014 4 0x40,
    ro "HEAD_ECC" 0x8018 4 0x40, ro "LIFT_FULL" 0x801C 4 0x40, ro "LIFT_LOOP" 0x8020 4 0x40,
    ro "NOT_ADMITTED" 0x8024 4 0x40, ro64 "LIFT_ADMITTED" 0x8028 4 0x40 ]

/-- CLASS rule-bank registers (R149). -/
def clsRegs : List RegDesc :=
  [ rw "CLASS_CFG" 0x0100 0x3F01 0, rw "GEN_DRAIN_TIMEOUT" 0x0104 0xFFFFFF 10000,
    rw64 "CLASS_MISS" 0x0108 0xFFFFFFFFFFFFFFFB 0, rw64 "CLASS_PROF_SAFE" 0x0110 0xFFFFFFFFFFFFFFFF 0,
    rw64 "CLASS_PROF_WINDOW" 0x0118 0xFFFFFFFFFFFFFFFF 0, rw "CLASS_EXC" 0x0120 0x07FF0001 0 3,
    rw "PROF_SEL" 0x0200 0x3F3F3F3F 0 16,
    { name := "PROF_SEG", off := 0x1000, acc := .rw, mask := 0xF03F00FF, n1 := 20, s1 := 4, n2 := 64, s2 := 0x80 },
    ro "GEN_STATUS" 0x8000, ro "BANK0_INFLIGHT" 0x8008, ro "BANK1_INFLIGHT" 0x800C, ro "GEN_EXPIRED" 0x8010,
    ro "GEN_FLIPS" 0x8014, ro64 "LOOKUPS" 0x8020 4 0x10, ro "MISSES" 0x8028 4 0x10, rw "RULE_INDEX" 0x8100 0xFFFF 0,
    wo "RULE_CMD" 0x8104, ro "RULE_STATUS" 0x8108, rw "RULE_KEY" 0x8200 0xFFFFFFFF 0 20,
    rw "RULE_MASK" 0x8280 0xFFFFFFFF 0 20, rw64 "RULE_ACT" 0x8300 0xFFFFFFFFFFFFFFFB 0,
    rw "RULE_CTRL" 0x8308 0x8000003F 0, ro64 "RULE_HITS" 0x8310 ]

/-- CLASS exact-match registers (R150). -/
def emRegs : List RegDesc :=
  [ rw "EM_SEG" 0x1000 0xFFFFF 0 64, ro "EM_USED" 0x8000, ro "EM_INSERT_FAIL" 0x8004, ro "EM_QUARANTINED" 0x8008,
    wo "EM_CMD" 0x8104, ro "EM_STATUS" 0x8108, rw "EM_KEY" 0x8200 0xFFFFFFFF 0 5, rw "EM_PROFILE" 0x8214 0x3F 0,
    rw "EM_FLOW" 0x8218 0xC00FFFFF 0 ]

/-- CLASS hash and indirection registers (R151). -/
def hashRegs : List RegDesc :=
  [ rw "TOEPLITZ_KEY" 0x0100 0xFFFFFFFF 0 10, rw "HASH_CFG" 0x0200 0x800FFFFF 0 64, rw "IND_SEL" 0x0300 0x3F 0,
    ro "IND_INVALID" 0x8000 4 0x10, ro "TARGET_LOST" 0x8004 4 0x10, ro "IND_CHECK" 0x8040,
    rw "indirection window" 0xE000 0x80000307 0 512 ]

/-- The registers of a block beside the header. -/
def regsOf : PageKind → List RegDesc
  | .dev => devRegs | .mode => modeRegs | .clk => clkRegs | .rst => rstRegs | .safe => safeRegs | .life => lifeRegs
  | .time => timeRegs | .log => logRegs | .tel => telRegs | .flg _ => flgRegs | .trg _ => trgRegs | .mgp => mgpRegs
  | .parse => parseRegs | .cls => clsRegs | .em => emRegs | .hash => hashRegs | .bpm => bpmRegs | .pbuf => pbufRegs
  | .tm => tmRegs | .tsn u => tsnRegs u | .hbm => hbmRegs | .hbms _ => hbmsRegs | .host => hostRegs | .iov => iovRegs
  | .sema => semaRegs | .pst _ => pstRegs | .disp p => dispRegs p | .gate _ => gateRegs | .sige _ => sigeRegs
  | .xchk _ => xchkRegs | .clu _ _ => cluRegs | .inst _ => instRegs | .dbg => dbgRegs

/-- The register an offset falls on, in a list: its row, its low-half offset, and whether it is the high half. -/
def findIn (off : Nat) : List RegDesc → Option (RegDesc × Nat × Bool)
  | [] => none
  | d :: ds => match d.hit off with
    | some (lo, hi) => some (d, lo, hi)
    | none => findIn off ds

/-- The register of a block at an offset, the TM page's port window among them (R425, R47). -/
def findReg (k : PageKind) (off : Nat) : Option (RegDesc × Nat × Bool) :=
  if off < 0x100 then findIn off headerRegs
  else if k = .tm ∧ 0xA000 ≤ off then findIn off tmWindowRegs
  else findIn off (regsOf k)

/-- Base of the TM page's windows in the register store: one block of 65536 keys for each port (R425). -/
def tmKey (port off : Nat) : Nat := (1024 + port) * 65536 + off

/-- Reset value of the half of a register row that an offset falls on. -/
def RegDesc.resetHalf (d : RegDesc) (hi : Bool) : Word :=
  BitVec.ofNat 32 (if hi then d.reset / 0x100000000 else d.reset)

/-- Writable bits of the half of a register row that an offset falls on. -/
def RegDesc.maskHalf (d : RegDesc) (hi : Bool) : Word :=
  BitVec.ofNat 32 (if hi then d.mask / 0x100000000 else d.mask)

/-- PAGE_CTRL after reset: EN 1 on every page but INST, LOCK 1 on DEV (R48, R56, R430). -/
def pageCtrlReset : PageKind → Word
  | .dev => 5 | .inst _ => 0 | _ => 1

/-- Reset values that depend on the part, the unit or the index (R184, R374, R425, R534). -/
def resetSpecial (part : Part) (k : PageKind) (off : Nat) : Option Word :=
  if off = 0x00 then some (pageId k)
  else if off = 0x10 then some (pageCtrlReset k)
  else if off = 0x14 then some (if k = .dev then 0 else 0x40)
  else match k with
    | .dev =>
      if off = 0x8000 then some (Config.devPart part) else if off = 0x8008 then some (Config.devCaps part)
      else if off = 0x800C then some (Config.devLimits part) else none
    | .clk => if off = 0x100 ∧ part = .cf0512S then some 0x010F00FF else none
    | .hbm => if 0x200 ≤ off ∧ off < 0x240 then some (BitVec.ofNat 32 (hbmPortReset ((off - 0x200) / 4))) else none
    | .tm =>
      let base := (0x50 + Config.hbmStacks part - 2) * 0x40000000
      if off = 0x100 then some (BitVec.ofNat 32 base) else if off = 0x104 then some (BitVec.ofNat 32 (base / 0x100000000))
      else none
    | .clu _ _ =>
      if 0x200 ≤ off ∧ off < 0x300 then some (BitVec.ofNat 32 (0x400 + 4 * ((off % 0x20) / 4))) else none
    | _ => none

/-- The value an unwritten register holds: key of the register store to dword. -/
def regReset (part : Part) (key : Nat) : Word :=
  if 1024 * 65536 ≤ key then
    match findIn (key % 65536) tmWindowRegs with
    | some (d, _, hi) => d.resetHalf hi
    | none => 0
  else
    match pageKind part (key / 65536) with
    | none => 0
    | some k =>
      match resetSpecial part k (key % 65536) with
      | some v => v
      | none =>
        match findReg k (key % 65536) with
        | some (d, _, hi) => d.resetHalf hi
        | none => 0

end Sys2Proof.Machine
end

