-- ==== Sys2Proof/Machine/State.lean ====
section
/-! DEFINITION. The state of the device: every register, store, queue, mode and pin the spec gives it, as plain data,
the queue of waiting commands, and the state right after reset. The operations on it stand in Ops.lean and after. -/
namespace Sys2Proof.Machine

/-- A sparse table: key and value pairs with strictly rising keys; what an unlisted key holds is its reader's default. -/
abbrev SMap (α : Type) := List (Nat × α)

/-- Why the machine stops. No meaning of this model raises it: every access of the spec to a place that does not
exist has an effect of its own there (a zero read, a refused write, a thread fault), so every command completes. The
one reason is kept for the type. Safe. -/
inductive Fault where
  /-- raised by nothing; safe -/
  | none
deriving DecidableEq, Repr

/-- Why a command is refused. -/
inductive Refusal where
  /-- the command's meaning is not written: exec's arm answers it, nothing else does; safe -/
  | notModelled (mnemonic : String)
deriving DecidableEq, Repr

/-- The twelve modes of R63. -/
inductive Mode where
  | off | reset | boot | fallback | configure | commission | operate | safeOperate | degraded | safeState
  | maintenance | zeroize
deriving DecidableEq, Repr

/-- The completion codes of R62. -/
inductive Status where
  | ok | stateRefused | absent | locked | badArg | busy | empty | notOwner | doubleFree | quota | holderFull
  | timeout | ecc
deriving DecidableEq, Repr

/-- Where the start of the device stands (R76, R77, R88, R89). -/
inductive BootStage where
  /-- BOOT not entered, or finished -/
  | idle
  /-- waiting for the header of the named slot (1 A, 2 B) -/
  | header (slot : Nat)
  /-- the candidate's stream is in progress -/
  | stream (slot : Nat)
  /-- the staging copy is to be re-checked (R89) -/
  | restage
  /-- records are being applied, the next one at this index -/
  | records (index : Nat)
  /-- END applied; the configuration-check pass and GOLDEN comparisons are due -/
  | final
  /-- no slot loads, or HBM failed: the factory defaults are to be applied (R78) -/
  | defaults
  /-- no image is applied; SAFE-STATE or ZEROIZE at the end of BOOT (R79, R522) -/
  | halt
deriving DecidableEq, Repr

/-- A mode transition accepted and not yet at its instant (R65, R66). -/
structure Transition where
  target : Mode
  cause : BitVec 8
  /-- who asked for it by MODE_REQ; none: caused by the device -/
  req : Option Requester
deriving DecidableEq, Repr

/-- The mode and reset state (R63-R71, R519-R522). -/
structure ModeState where
  powered : Bool
  /-- the device is in RESET -/
  inReset : Bool
  mode : Mode
  prev : Mode
  cause : BitVec 8
  ready : Bool
  cfgDefaults : Bool
  ssLatch : Bool
  trial : Bool
  lost : BitVec 4
  slot : BitVec 2
  kind : BitVec 2
  /-- DEGRADED was entered from SAFE-OPERATE (R63, R79) -/
  degFromSafe : Bool
  trans : Option Transition
  /-- piste losses whose mode consequence waits for the transition in progress (R65) -/
  lossDue : Nat
  /-- PORST_N is held low -/
  porst : Bool
  /-- SYSRST_N is held low -/
  sysrst : Bool
  /-- power-on detectors tripped: VDD_IO, VDD_CORE, VDD_SRAM (R520) -/
  trips : BitVec 3
  /-- RST_STATUS.CAUSE (R535) -/
  resetCause : BitVec 4
  zeroHold : Bool
  zeroCause : BitVec 8
  /-- the root PLL has lost lock: every divided clock stands (R31) -/
  pllLost : Bool
deriving DecidableEq, Repr

/-- The copy of an image in the HBM staging area (R76, R89). -/
structure Staging where
  slot : Nat
  bytes : Bytes
  /-- CRC word of the valid record it was checked against -/
  imageCrc : Word
  /-- a signature was present and verified (R490, TO_FIELD) -/
  verified : Bool
deriving DecidableEq, Repr

/-- The configuration loader (R76-R89). -/
structure BootState where
  stage : BootStage
  staging : Option Staging
  /-- the restart's MODE_REQ_ARG.SLOT: 0 ordinary, 1 or 2 a trial (R88) -/
  trialSlot : Nat
  /-- slots still to try after the present one -/
  rest : List Nat
  /-- pages touched by records of the present slot -/
  touched : List Nat
  /-- pages that received a GOLDEN record -/
  golden : List Nat
  /-- HBM stacks whose training is finished in this start -/
  trained : BitVec 2
  /-- boot self-test finished -/
  selfDone : Bool
  /-- the records come from the staging copy of a warm restart (R89) -/
  fromStaging : Bool
  /-- the loaded image came from a slot with a verified signature (R490) -/
  verified : Bool
deriving DecidableEq, Repr

/-- One flash command in progress (R84, R86). -/
structure FlashOp where
  code : Nat
  slot : Nat
  addr : Nat
  len : Nat
deriving DecidableEq, Repr

/-- The register fabric's own state beside the registers (R50, R49, R53, R54, R424). -/
structure FabricState where
  /-- per requester: the read latch, register tag and high half -/
  latch : SMap (Nat × Word)
  /-- per requester: the write stage, register tag and low half -/
  stage : SMap (Nat × Word)
  /-- per requester: seconds low, seconds high and fraction latched by TIME_NS or TIME_PPS_NS -/
  timeLatch : SMap (Bool × W64 × Word)
  /-- pages in soft reset -/
  resetting : List Nat
  /-- pages whose CFG_CHECK must see a pass before they are compared (R54) -/
  awaitPass : List Nat
  /-- per requester: the value the last read returned -/
  result : SMap Word
  flash : Option FlashOp
deriving DecidableEq, Repr

/-- The states of a thread (R164). -/
inductive TState where
  | stopped | running | parked | waiting | faulted | halted | offline
deriving DecidableEq, Repr

/-- A message (R178-R180): sender's thread number, its words. -/
structure Msg where
  sender : Nat
  words : List W64
deriving DecidableEq, Repr

/-- A CRC accumulator of CP1: value, algorithm, and the parameters captured at CRC.INIT (R238). -/
structure CrcAcc where
  value : Word
  alg : BitVec 4
  width : Nat
  poly : Word
  refin : Bool
  refout : Bool
  xor : Word
deriving DecidableEq, Repr

/-- The node binding of a code-node work item (R310). -/
structure NodeItem where
  graph : BitVec 8
  node : BitVec 14
  piste : BitVec 2
  cycle : Word
  deadlineNs : Word
  nin : BitVec 5
  nout : BitVec 4
  prio : BitVec 3
  /-- the input records as they stood when the node fired -/
  inputs : List (BitVec 128)
  /-- output ports written in the firing -/
  written : List Nat
  /-- time clock at first admission (R278) -/
  admitted : Nat
deriving DecidableEq, Repr

/-- A work item (R251). -/
inductive Item where
  | pkt (p : PktId)
  | node (n : NodeItem)
deriving DecidableEq, Repr

/-- A CP3 command accepted and not finished (R243, R244). -/
structure CryOp where
  func : Nat
  p : List W64
  src : W64
  len : W64
  fromPkt : Bool
  key : BitVec 256
  keyMode : BitVec 2
  /-- the packet it works on -/
  pkt : Option PktId
  /-- RESTART or RESET abandoned it: no packet write, no event (R233) -/
  orphan : Bool
deriving DecidableEq, Repr

/-- The operation of a parked or waiting thread, carried out when its answer comes (R161-R163, R214). -/
inductive Parked where
  /-- WAIT: the destination -/
  | wait (rd : Reg)
  /-- a value already decided: a semaphore's status word, or the status of a key-store command -/
  | value (rd : Reg) (v : W64) (ea : Nat)
  /-- an operation whose completion came during a halt: its result, and the data access that it was (0 none, 1 load, 2 store), of
  `n` bytes at an address (R540) -/
  | finished (rd : Reg) (v : W64) (acc ea n : Nat)
  /-- a load from memory: destination, effective address, memory address, width, sign-extended, byte-swapped -/
  | load (rd : Reg) (ea mem n : Nat) (sign swap : Bool)
  /-- a load or store of the context window while the context is not resident -/
  | ctxLoad (rd : Reg) (ea off n : Nat) (sign swap : Bool)
  | ctxStore (ea off : Nat) (data : Bytes)
  /-- a load or store of a register page -/
  | pageLoad (rd : Reg) (ea page off : Nat) (sign swap : Bool)
  | pageStore (ea page off : Nat) (v : Word)
  /-- PKT.RD beyond the window -/
  | pktRd (rd : Reg) (off : Nat)
  /-- CRC.PRANGE, CRC.CRANGE -/
  | prange (rd : Reg) (off len : Nat) (acc : Bool)
  | crange (rd : Reg) (off len : Nat)
  /-- the requests of CP2 -/
  | ffind (rd : Reg)
  | fins (rd : Reg) (flow : BitVec 20)
  | fdel (rd : Reg)
  | hfind (rd : Reg) (table : Nat)
  | hins (rd : Reg) (data : W64) (table : Nat)
  | hdel (rd : Reg) (table : Nat)
  | rfind (rd : Reg) (v : Word) (table : Nat)
deriving DecidableEq, Repr

/-- A hardware thread: its context (R186-R192, R170, R178, R180) and its state in the coprocessors (R235-R246). -/
structure Thread where
  st : TState
  /-- the state to return to from HALTED or OFFLINE -/
  prev : TState
  stopPending : Bool
  g : SMap W64
  pc : BitVec 40
  pl : BitVec 2
  epc : BitVec 40
  cause : Byte
  evmask : Word
  /-- the latched events of EVPEND -/
  evlatch : Word
  cpen : Word
  timer : W64
  startPc : BitVec 40
  region : SMap W64
  item : Option Item
  replay : Bool
  ctxLost : Bool
  stage : SMap W64
  stageLen : Nat
  mbox : List Msg
  /-- messages on the way to the mailbox, oldest first (R180) -/
  inflight : List Msg
  /-- what the parked or waiting instruction does when its answer comes, and its instruction word -/
  park : Option (Parked × Word)
  /-- DBG STEP in progress (R542) -/
  stepping : Bool
  /-- the execution breakpoint at the present PC is skipped once (R542, R540) -/
  skipBp : Bool
  /-- a completion that arrived during a halt (R540) -/
  late : Option Bool
  buf : SMap W64
  a0 : CrcAcc
  a1 : CrcAcc
  cs : Word
  key : SMap Word
  profile : BitVec 6
  res2 : SMap W64
  p3 : SMap W64
  res3 : SMap W64
  cryDone : Bool
  cryAuth : Bool
  cryStatus : BitVec 4
  cry : Option CryOp
  oq : W64
  res4 : W64
  res5 : W64
deriving DecidableEq, Repr

/-- An entry of a core's branch target buffer (R158). -/
structure BtbEntry where
  tag : BitVec 29
  target : BitVec 40
  ctr : BitVec 2
deriving DecidableEq, Repr

/-- A slot of a CP3 key store (R242). -/
structure KeySlot where
  key : BitVec 256
  mode : BitVec 2
  valid : Bool
deriving DecidableEq, Repr

/-- Where a packet stands. -/
inductive PState where
  /-- arriving; in its source parser's input -/
  | arrived
  | parsed
  /-- classified to a target piste's dispatcher and not yet admitted -/
  | offered
  /-- on the die in a ready list -/
  | listed
  /-- in a spill ring -/
  | spilled
  /-- bound to a thread or the signal engine -/
  | bound
  /-- its COMMIT accepted by the Gate -/
  | committed
  /-- in a Lift queue -/
  | lift
  /-- released, dropped or discarded -/
  | gone
deriving DecidableEq, Repr

/-- How a frame failed its last check (R552). -/
inductive FrameFail where
  | fcs | oversize | abort | runt
deriving DecidableEq, Repr

/-- A SEND held under Schuss (R270): destination word and words. -/
structure HeldSend where
  dest : W64
  words : List W64
deriving DecidableEq, Repr

/-- A packet: its cells, its descriptor (R197), and what its work item holds (R195, R236, R246, R268, R269). -/
structure Packet where
  st : PState
  /-- ingress port of the descriptor -/
  port : Port
  /-- piste whose parser takes it -/
  src : BitVec 2
  /-- piste whose dispatcher and Gate hold it -/
  tgt : BitVec 2
  cells : List Nat
  owner : BitVec 17
  /-- bytes written to its cells so far, FCS included -/
  len : Nat
  tail : Bool
  fail : Option FrameFail
  /-- greatest payload end that the parse left to be checked, 0 for none (R122) -/
  plEnd : Nat
  /-- a late length conflict (R122) -/
  lateLen : Bool
  ts : Word
  parse : Bytes
  gen : Bool
  prio : BitVec 3
  cls : Byte
  order : BitVec 16
  seq : BitVec 20
  flow : BitVec 20
  instance_ : Byte
  exc : BitVec 2
  noFlow : Bool
  emMiss : Bool
  express : Bool
  liftPasses : BitVec 2
  /-- first header type of the next Lift pass (R147) -/
  liftType : Option (BitVec 6)
  kind : BitVec 3
  sugg : BitVec 11
  profile : BitVec 6
  replays : BitVec 4
  /-- counted in its rule bank's in-flight count -/
  inflight : Bool
  /-- time clock at first admission (R278) -/
  admitted : Nat
  /-- the packet's bytes as its work item sees them, once it is bound -/
  cur : Bytes
  /-- bytes have been changed by a store, OVR, CP3 or an edit -/
  changed : Bool
  edits : Nat
  /-- recorded headers moved or damaged by edits: present offset, none when damaged (R236) -/
  hdrs : List (Option (Nat × Nat))
  rmask : BitVec 16
  wmask : BitVec 16
  snap : SMap W128
  snapVer : SMap Nat
  shadow : SMap W128
  hasSnap : Bool
  schuss : Bool
  firm : Bool
  ctxLost : Bool
  held : List HeldSend
  sched : Option W64
  txts : Option (BitVec 16)
  corr : Option Nat
  disp : W64
  holder : Option Nat
  abandoned : Bool
  /-- forced to DROP by GATE_TIMEOUT (R265) -/
  timedOut : Bool
  /-- counted in FIRM_WAITS (R271) -/
  waited : Bool
deriving DecidableEq, Repr

/-- A fault record of a piste or of the Telemark complex (R173). -/
structure FaultRec where
  cause : Byte
  thread : Nat
  held : Bool
  spec : Bool
  lostBefore : Bool
  insn : Word
  pc : BitVec 40
  addr : BitVec 40
  time : Word
  gate : Word
deriving DecidableEq, Repr

/-- A Gate record (R267). -/
structure GateRec where
  kind : Byte
  holder : Option Nat
  lostBefore : Bool
  seq : BitVec 20
  port : Port
  order : BitVec 16
  flow : BitVec 20
  cls : Byte
  time : Word
deriving DecidableEq, Repr

/-- A bounded queue of records with its loss mark. -/
structure RecQueue (α : Type) where
  recs : List α
  lostBefore : Bool
deriving DecidableEq, Repr

/-- A trace record (R547). -/
structure TraceRec where
  kind : Byte
  thread : Nat
  time : Word
  d0 : W64
  d1 : W64
deriving DecidableEq, Repr

/-- A transmit timestamp record (R420). -/
structure TsRec where
  bytes : Bytes
deriving DecidableEq, Repr

/-- One piste's dispatcher, Gate, parser input and supervisor queues (R250-R280, R18, R172-R176, R420, R547). -/
structure Piste where
  /-- ready lists on the die: packet numbers or code-node items, oldest first -/
  lists : SMap (List Item)
  /-- spill rings, oldest first -/
  spill : SMap (List Item)
  /-- items written to each spill ring since reset: the next one's place -/
  spillPos : SMap Nat
  nextSeq : BitVec 20
  /-- packets offered to this dispatcher and not yet admitted, per source order (R17) -/
  offers : List PktId
  /-- the kind bound last at each priority, for the round-robin of R257 -/
  lastKind : SMap Nat
  /-- flow tracker entries: flow and squashes (R273) -/
  tracker : SMap Nat
  /-- flows in Snowplough mode (R274) -/
  snow : List Nat
  deadlock : Bool
  /-- Lift queue of the piste's parser (R18) -/
  liftQ : List PktId
  /-- time-clock instants of the Lift admissions of the last 1 us -/
  liftTimes : List Nat
  faults : RecQueue FaultRec
  gateRecs : RecQueue GateRec
  tsRecs : RecQueue TsRec
  traceRun : Bool
  trace : SMap TraceRec
deriving DecidableEq, Repr

/-- The states of a graph slot (R312). -/
inductive GState where
  | free | active | hold | subst | standby | pending | retiring
deriving DecidableEq, Repr

/-- A frame on its way from PACK to SEAL, to XCHK and to the traffic manager (R308, R309, R319). -/
structure BuiltFrame where
  bytes : Bytes
  cells : List Nat
  egress : Port
  queue : BitVec 3
  sched : Option W64
  cycle : Word
deriving DecidableEq, Repr

/-- A graph slot's running state (R293-R300, R312, R323). -/
structure Graph where
  st : GState
  cycle : Word
  /-- time base at the cycle start: seconds and nanoseconds -/
  startSec : BitVec 48
  startNs : Word
  /-- the present cycle is still open: its deadline has not been carried out -/
  openCycle : Bool
  /-- a cycle has started since the slot became ACTIVE or SUBST -/
  ran : Bool
  fired : List Nat
  /-- code nodes bound or waiting in this cycle -/
  coded : List Nat
  /-- inputs sampled at the cycle start: port entry and record -/
  sampled : SMap W128
  overrun : Bool
  /-- the slot this one replaces at the next start (SWAP) -/
  swapFor : Option Nat
  /-- frames built by PACK, by node -/
  built : SMap BuiltFrame
  /-- per OUT port entry, the last record that passed the cross-check (R323) -/
  passed : SMap W128
  /-- the graph whose HOLD this standby placement is to end (R323, R325) -/
  standsFor : Option (BitVec 8)
  /-- cycle in which OUT ports last passed, and how many passed in it (R323) -/
  passCycle : Word
  passCount : Nat
deriving DecidableEq, Repr

/-- State of one node (R301, R305, R309). -/
structure NodeState where
  value : W64
  has : Bool
  bits : BitVec 2
  /-- cycles left of a TIMER, or frame count, or consecutive repeats -/
  count : Nat
  prevIn : Bool
  seq : BitVec 16
  seqSeen : Bool
  repeats : Nat
  frames : BitVec 16
  /-- cycle in which UNPACK last took a frame -/
  taken : Option Word
deriving DecidableEq, Repr

/-- A compare token waiting at XCHK (R318). -/
structure XToken where
  odd : Bool
  graph : BitVec 8
  port : BitVec 4
  /-- index in the port store -/
  index : Nat
  cycle : Word
  record : BitVec 128
  /-- altered by injection 1 (R479) -/
  forced : Bool
deriving DecidableEq, Repr

/-- A seal waiting at XCHK (R319); the even piste's carries the frame. -/
structure XSeal where
  odd : Bool
  graph : BitVec 8
  cycle : Word
  node : Nat
  seq : BitVec 16
  crc : Word
  frame : Option BuiltFrame
deriving DecidableEq, Repr

/-- The cross-check unit of a pair beside its registers (R318-R320, R329). -/
structure Xchk where
  tokens : List XToken
  seals : List XSeal
  /-- injection 1 of R479 waiting: its graph -/
  flip : Option (BitVec 8)
  /-- injection 2 waiting: its graph, and the cycle whose tokens are withheld once one is -/
  withhold : Option (BitVec 8 × Option Word)
  /-- injection 8 waiting -/
  selfFail : Bool
deriving DecidableEq, Repr

/-- A frame taken for an UNPACK node (R304, R317): its packet, the node, and the cycle tag of a SAFETY pair. -/
structure UnpackItem where
  pkt : PktId
  node : Option Nat
  tag : Option Word
  /-- sent over the pair link to the odd piste -/
  partner : Bool
deriving DecidableEq, Repr

/-- The signal engines (R281-R329). -/
structure SigeState where
  /-- owners: record index to graph and port entry (R285) -/
  owner : SMap (Option (BitVec 8 × Nat))
  /-- epochs: record index to 256 plus the epoch, 0 for never posted (R295) -/
  epoch : SMap Nat
  /-- forced records, with the piste whose page commanded it; none for the other copy of a SAFETY signal (R286) -/
  forced : SMap (Option (BitVec 2))
  /-- records whose hidden check fails (R283) -/
  bad : List Nat
  graphs : SMap Graph
  nodes : SMap NodeState
  xchk : SMap Xchk
  /-- frames bound to each engine and not unpacked, oldest first (R304, R317) -/
  items : SMap (List UnpackItem)
  /-- migration due after the loss of a piste of pair k: rewrite in bit k, activation in bit 2 + k (R325) -/
  migrate : BitVec 4
  /-- per timer (piste * 8 + timer): the time base right after the last step within its cycle, in ns (R294) -/
  marks : SMap Int
deriving DecidableEq, Repr

/-- A safety record (R460); LOST_BEFORE and CLASS are filled in when it is queued. -/
structure SafeRec where
  kind : Byte
  cls : BitVec 2
  forced : Bool
  lostBefore : Bool
  mode : Mode
  /-- DEGRADED at detection had been entered from SAFE-OPERATE (R470) -/
  degFromSafe : Bool
  page : BitVec 10
  d0 : Word
  d1 : Word
  ns : Word
  sec : Word
  us : Word
deriving DecidableEq, Repr

/-- A watchdog (R466). -/
structure Watchdog where
  armed : Bool
  /-- no kick since arming -/
  first : Bool
  expected : Word
  /-- time clock of arming or of the last kick, in ns -/
  since : Nat
deriving DecidableEq, Repr

/-- Core logic self-test of a piste (R468, R469). -/
structure SelfTest where
  core : BitVec 6
  /-- a slot is in progress: the dispatcher hands no work to the core -/
  active : Bool
  offline : Bool
  retried : Bool
  /-- consecutive rounds each core was skipped -/
  skips : SMap Nat
deriving DecidableEq, Repr

/-- The safety controller (R459-R482). -/
structure SafetyState where
  /-- records detected and not yet classed, oldest first -/
  inbox : List SafeRec
  queue : RecQueue SafeRec
  lastClass : BitVec 2
  scaOk : Bool
  scbOk : Bool
  /-- a DEVICE reaction has been taken since reset (R475) -/
  devTaken : Bool
  pennantP : Bool
  pennantN : Bool
  /-- filtered levels of SAFE_IN_A_N and SAFE_IN_B_N, low until a level has counted (R476, R482) -/
  inA : Bool
  inB : Bool
  /-- a level has counted since reset -/
  inSeen : Bool
  disc : Bool
  /-- THERMTRIP_N is low -/
  trip : Bool
  suspect : BitVec 2
  wds : SMap Watchdog
  st : SMap SelfTest
  /-- instants of the BPM rejects of the last second -/
  bpmTimes : List Nat
  /-- by SAFETY graph: its overruns in consecutive cycles (above bit 31) and the last of those cycles -/
  overruns : SMap Nat
  /-- the injection waiting for its record: code and argument -/
  inj : Option (Nat × Word)
  /-- tick of its acceptance -/
  injAt : Nat
deriving DecidableEq, Repr

/-- Fuses, keys and tamper state (R486-R497). -/
structure LifeState where
  /-- fuses blown in the groups of states 1 to 4 -/
  fuses : SMap Nat
  /-- state read when the device left RESET or reached since -/
  state : BitVec 3
  keys : SMap Bytes
  programmed : BitVec 4
  revoked : BitVec 4
  /-- PIN, VOLTAGE, CLOCK, WIPE latched (R494) -/
  tamper : BitVec 4
  tamperPin : Bool
  unlocked : Bool
  completed : Bool
  /-- command whose fuses are being programmed: code and slot -/
  op : Option (Nat × Nat)
  /-- a tamper event has taken the command: its status is to read STATE_REFUSED (R495) -/
  opRefused : Bool
  zeroing : Bool
deriving DecidableEq, Repr

/-- An event-log record (R502). -/
structure LogRec where
  kind : Byte
  page : BitVec 10
  mode : Mode
  d0 : Word
  d1 : Word
  d2 : Word
  ns : Word
  sec : Word
  seq : Word
deriving DecidableEq, Repr

/-- What the TAP carries out (R548, R549). -/
inductive TapMode where
  | idle | idcode | bypass | sample | extest | clamp | highz
deriving DecidableEq, Repr

/-- What left the device: the model's record of its outputs, newest first. -/
inductive Out where
  /-- an interrupt delivery of R58: page, target (0 safety controller, 1 Telemark, 2 piste supervisor, 3 host), causes -/
  | irq (page : Nat) (target : Nat) (causes : Word)
  /-- an MSI-X message: function or instance, vector -/
  | msix (source : Requester) (vector : Nat)
  /-- a PCIe memory write -/
  | hostWrite (addr : W64) (data : Bytes)
  /-- a PCIe memory read request -/
  | hostRead (addr : W64) (len : Nat)
  /-- a frame sent on a port, FCS inverted or not -/
  | frame (port : Port) (data : Bytes) (stomped : Bool)
  /-- an FMX block: lane, slot 0-80, sync header, block -/
  | block (lane : BitVec 7) (slot : Nat) (sync : BitVec 2) (data : W64)
  /-- a frame or message handed to the Telemark complex or a mailbox's owner is in the mailbox itself -/
  | tdo (value : Word)
  | smbus (data : Word)
  /-- an ABORT, or an inverted FCS, that ends a frame in transmission -/
  | abort (port : Port)
deriving DecidableEq, Repr

/-- An entry of the semaphore holder table (R364). -/
structure Holder where
  kind : BitVec 3
  id : BitVec 11
  units : BitVec 16
  orphaned : Bool
  sem : BitVec 12
deriving DecidableEq, Repr

/-- The semaphore unit (R356-R369); CAP lies in its registers. -/
structure SemaState where
  avail : SMap (BitVec 16)
  retired : SMap (BitVec 16)
  /-- holder table by index -/
  holders : SMap (Option Holder)
  /-- arm slot of each thread: semaphore plus one, 0 for none -/
  arms : SMap Nat
  /-- orphan records: entry as it stood, index, time -/
  orphans : List (Holder × Nat × Word)
deriving DecidableEq, Repr

/-- The states of an instance (R430). -/
inductive IState where
  | disabled | active | resetting | error | frozen
deriving DecidableEq, Repr

/-- A transfer of an instance in a DMA engine (R440): the transmit ring and the buffers still to be read. -/
structure TxXfer where
  ring : Nat
  /-- HEAD after the frame -/
  head : Nat
  /-- buffers: address and length -/
  bufs : List (W64 × Nat)
  got : Bytes
  /-- cells granted for the frame; none while it waits to ask again -/
  cells : List Nat
  /-- the ring's PISTE at the fetch -/
  piste : BitVec 2
  owner : BitVec 17
deriving DecidableEq, Repr

/-- A posted receive entry: address and buffer length, none where the entry is malformed (R436). -/
structure RxEntry where
  addr : W64
  len : Nat
deriving DecidableEq, Repr

/-- A host instance beside its registers (R430-R445). -/
structure Instance where
  st : IState
  txHead : SMap Nat
  txTail : SMap Nat
  rxHead : SMap Nat
  rxTail : SMap Nat
  xfers : List TxXfer
  /-- frames read and not yet admitted by the parser -/
  admitQ : List PktId
  /-- rings with an interrupt waiting for its moderation interval: 0-15 TX, 16-31 RX -/
  irqWait : List Nat
  overShare : Bool
  medLast : BitVec 4
  drained : Nat
  squashed : Nat
  /-- the reset was started by INST_CMD -/
  byCmd : Bool
  /-- reads squashed whose completions are still to come (R442) -/
  lateReads : Nat
  /-- per transmit ring, the TAIL up to which descriptors left in it have been counted in SHARE_SPILLS (R441) -/
  spillMark : SMap Nat
deriving DecidableEq, Repr

/-- A mediation record (R444). -/
structure MedRec where
  off : BitVec 16
  inst : BitVec 8
  wide : Bool
  value : W64
  time : Word
deriving DecidableEq, Repr

/-- The host interface beside its registers (R427-R454). -/
structure HostState where
  linkUp : Bool
  insts : SMap Instance
  med : List MedRec
  /-- dirty filter: instance and page, oldest first (R447) -/
  filter : List (Nat × Nat)
deriving DecidableEq, Repr

/-- A request accepted at an HBM client port and not completed (R374, R377). -/
structure HbmReq where
  addr : Nat
  write : Bool
  data : Bytes
  late : Bool
deriving DecidableEq, Repr

/-- A quarantine record (R388). -/
structure QuarRec where
  flow : BitVec 20
  source : BitVec 3
  addr : W64
  time : Word
  lostBefore : Bool
deriving DecidableEq, Repr

/-- A line of the flow cache: its flow, its 256 bytes, changed since its fill or not (R379). -/
structure FlowLine where
  flow : Nat
  data : Bytes
  dirty : Bool
deriving DecidableEq, Repr

/-- The HBM controller and the flow cache (R370-R392); counters and UE logs lie in the registers. -/
structure HbmState where
  ports : SMap (List HbmReq)
  /-- data of the last read that each port completed -/
  result : SMap Bytes
  /-- HBM_FENCE in progress: requests of each named port still to complete (R378) -/
  fence : SMap Nat
  /-- flows marked QUARANTINED (R388) -/
  quarantined : List Nat
  quar : RecQueue QuarRec
  /-- flow cache lines present, most recently used first (R379) -/
  lines : List FlowLine
  /-- commit versions of the granules: flow * 16 + granule (R268) -/
  version : SMap Nat
  /-- refreshes owed per pseudo-channel (R380) -/
  owed : SMap Nat
  /-- stacks in the high regime (R382) -/
  high : BitVec 2
  /-- the scrub's position, in bursts -/
  scrubPos : Nat
deriving DecidableEq, Repr

/-- A frame copy offered to the traffic manager and not yet admitted (R393). -/
structure TmCopy where
  /-- packet it comes from, for fate and FCS check (R552) -/
  pkt : Option PktId
  cells : List Nat
  owner : BitVec 17
  egress : Port
  queue : BitVec 3
  /-- stream handle -/
  handle : Option (BitVec 16)
  sched : Option W64
  trunc : Nat
  /-- mirror session it belongs to -/
  mirror : Option Nat
  /-- the port MAC computes a new FCS -/
  newFcs : Bool
  txts : Option (BitVec 16)
  corr : Option Nat
  /-- piste that committed it -/
  piste : BitVec 2
  /-- sequence number and offset written by the MAC (R400) -/
  seqGen : Option (BitVec 16 × Nat)
  yellow : Bool
  /-- bytes in the deep buffer instead of cells (R402) -/
  deep : Option Bytes
  express : Bool
  inPort : Port
  ts : Word
  /-- the 32-byte descriptor handed to the Telemark complex or an instance (R413, R437) -/
  desc : Bytes
deriving DecidableEq, Repr

/-- State of a stream, meter or recovery entry (R398-R400). -/
structure StreamState where
  /-- committed and excess buckets in bits times 10^6, and when they were filled -/
  cTok : Nat
  eTok : Nat
  at_ : Nat
  /-- bucket state valid: entry used since its write -/
  live : Bool
  genSeq : BitVec 16
  /-- recovery: highest number taken and the history bits below it -/
  recUsed : Bool
  recSeq : BitVec 16
  hist : List Bool
deriving DecidableEq, Repr

/-- A frame in transmission on a port (R403, R420). -/
structure TxNow where
  copy : TmCopy
  /-- queue it came from -/
  queue : Nat
  startSec : BitVec 48
  startNs : Word
  /-- the whole frame as it is sent -/
  data : Bytes
  /-- blocks of it sent in FMX slots -/
  sent : Nat
  /-- data read with an uncorrectable error: it ends with an inverted FCS (R333, R347) -/
  bad : Bool
deriving DecidableEq, Repr

/-- An operational gate control list (R405, R418); instants are time-base nanoseconds. -/
structure GclRun where
  list : Word
  cycle : Word
  ext : Word
  baseSec : BitVec 48
  baseNs : Word
  entry : Nat
  gates : Byte
  running : Bool
  /-- Set-And-Hold-MAC in force (R411) -/
  hold : Bool
  /-- end of the entry, and of the cycle -/
  endAt : Int
  cycleEnd : Int
  /-- the gap of R418 between two cycles -/
  gap : Bool
  /-- time base right after the last step within the cycle, for boundaries passed over -/
  mark : Option Int
  pendingChange : Bool
deriving DecidableEq, Repr

/-- One logical port: link, reception, queues, transmission (R96-R115, R401-R411). -/
structure PortState where
  state : BitVec 3
  /-- the frame being received block by block on an FMX sub-port -/
  rx : Option Bytes
  queues : SMap (List TmCopy)
  tx : Option TxNow
  /-- a preempted frame that goes on after the express frames (R411) -/
  held : Option TxNow
  /-- shaper credits in bits times 10^6, per queue (R404) -/
  credit : SMap Int
  creditAt : Nat
  gcl : GclRun
  /-- preemption verified (R410) -/
  verified : Bool
deriving DecidableEq, Repr

/-- An FMX lane (R98-R105). -/
structure FmxLane where
  lock : Bool
  good : Nat
  bad : Nat
  hold : Byte
  link : Byte
  rate : Byte
  remoteFault : Bool
  lastRound : Option Byte
  ownRound : Byte
  /-- sub-ports held DOWN until the next round by a configuration change (R104) -/
  settle : Byte
  /-- sub-ports in the whole round that follows -/
  settled : Byte
  /-- sub-ports in RATE mismatch -/
  mismatch : Byte
  /-- slot blocks due to end aborted frames -/
  abortDue : Byte
deriving DecidableEq, Repr

/-- The rule table entry (R127). -/
structure Rule where
  valid : Bool
  profile : BitVec 6
  key : BitVec 640
  mask : BitVec 640
  action : W64
  hits : BitVec 48
deriving DecidableEq, Repr

/-- The states of a rule bank (R136). -/
inductive BankState where
  | idle | active | draining | expired
deriving DecidableEq, Repr

/-- An exact-match entry (R141). -/
structure EmEntry where
  valid : Bool
  profile : BitVec 6
  key : BitVec 160
  flow : BitVec 20
  quarantine : Bool
deriving DecidableEq, Repr

/-- Classifier, rule banks, exact match and indirection (R116-R151). -/
structure ClassState where
  rules : SMap Rule
  bank0 : BankState
  bank1 : BankState
  activeBank : Bool
  inflight0 : Nat
  inflight1 : Nat
  /-- exact-match entries: bucket * 8 + way -/
  em : SMap EmEntry
  /-- indirection entries: table * 512 + index -/
  ind : SMap Word
deriving DecidableEq, Repr

/-- A change of the time base at the next tick (R415). -/
inductive TimeJump where
  | set (sec : BitVec 48) (ns : Word)
  | step (d : Int)
deriving DecidableEq, Repr

/-- Time base and time clock (R414-R417). -/
structure TimeState where
  sec : BitVec 48
  ns : Word
  frac : Word
  /-- ticks of the 1.0 GHz time clock since reset -/
  ticks : Nat
  /-- SET_AT_PPS waiting: seconds and nanoseconds -/
  atPps : Option (BitVec 48 × Word)
  /-- SET or STEP accepted for the next tick -/
  nextSet : Option TimeJump
  /-- tick of the last accepted PPS_IN edge -/
  lastPps : Option Nat
  ppsOut : Bool
  /-- core cycles since reset (CYCLE, R187) -/
  cycle : W64
  /-- microsecond count of the safety controller -/
  scUs : Word
deriving DecidableEq, Repr

/-- Secure-wipe state of a unit: running, failed (R351, R352). -/
structure WipeState where
  running : Bool
  done : Bool
  fail : Bool
deriving DecidableEq, Repr

/-- The state of the device. -/
structure State where
  part : Part
  /-- DEV_STEPPING (R3) -/
  stepping : Word
  /-- the register window: page * 65536 + offset to dword, beside the reset values of RegMap -/
  regs : SMap Word
  /-- every memory of the device: address space * 2^48 + offset to byte -/
  mem : List Host.Cell
  /-- 8-byte words that read with an uncorrectable error (R57, R347, R385): address / 8 -/
  poison : List Nat
  mode : ModeState
  boot : BootState
  fabric : FabricState
  threads : SMap Thread
  pkts : SMap (Option Packet)
  nextPkt : Nat
  pistes : SMap Piste
  /-- faults of supervisor-core threads (R176) -/
  telFaults : RecQueue FaultRec
  /-- branch target buffers: core * 512 + index, none for an invalid entry -/
  btb : SMap (Option BtbEntry)
  keyStores : SMap KeySlot
  wipes : SMap WipeState
  /-- cell control words (R330) -/
  cells : SMap W64
  /-- bitmap words that read with an error, awaiting the rebuild: word number (R339) -/
  badBitmap : List Nat
  /-- dynamic scratchpad blocks: cluster * 256 + block to thread plus one (R348) -/
  dyn : SMap Nat
  sema : SemaState
  hbm : HbmState
  cls : ClassState
  ports : SMap PortState
  fmx : SMap FmxLane
  tmInbox : List TmCopy
  streams : SMap StreamState
  sige : SigeState
  time : TimeState
  host : HostState
  safety : SafetyState
  life : LifeState
  log : SMap LogRec
  tap : TapMode
  boundary : Bytes
  /-- SMBus read address: page and dword offset (R532) -/
  smbus : BitVec 24
  /-- reference inputs present and in frequency, numbered as in CLK_REF_STATUS (R518) -/
  refOk : BitVec 27
  /-- counter of free values drawn: the model's own field -/
  free : Nat
  /-- what left the device, newest first: the model's own record -/
  outs : List Out
  /-- the commands that wait, first in, first out -/
  pending : List Instr
deriving DecidableEq, Repr

/-- The device right after reset: powered, held in RESET by PORST_N low as at power-on (R64, R515), every register at
its reset value (the tables of RegMap), every memory empty, the wipe that the entry to RESET triggers running (R350), no command
waiting. What the spec gives no reset value is
named in the assumption log. -/
def State.reset : State where
  part := .cf1024S
  stepping := 0
  regs := []
  mem := []
  poison := []
  mode := { powered := true, inReset := true, mode := .boot, prev := .reset, cause := 0, ready := false
            cfgDefaults := false, ssLatch := false, trial := false, lost := 0, slot := 0, kind := 0
            degFromSafe := false, trans := none, lossDue := 0, porst := true, sysrst := false, trips := 0, resetCause := 0
            zeroHold := false, zeroCause := 0, pllLost := false }
  boot := { stage := .idle, staging := none, trialSlot := 0, rest := [], touched := [], golden := [], trained := 0
            selfDone := false, fromStaging := false, verified := false }
  fabric := { latch := [], stage := [], timeLatch := [], resetting := [], awaitPass := [], result := []
              flash := none }
  threads := []
  pkts := []
  nextPkt := 0
  pistes := []
  telFaults := { recs := [], lostBefore := false }
  btb := []
  keyStores := []
  wipes := (List.range 33).map (fun u => (u, { running := true, done := false, fail := false }))
  cells := []
  badBitmap := []
  dyn := []
  sema := { avail := [], retired := [], holders := [], arms := [], orphans := [] }
  hbm := { ports := [], result := [], fence := [], quarantined := [], quar := { recs := [], lostBefore := false }, lines := [], version := []
           owed := [], high := 0, scrubPos := 0 }
  cls := { rules := [], bank0 := .active, bank1 := .idle, activeBank := false, inflight0 := 0, inflight1 := 0
           em := [], ind := [] }
  ports := []
  fmx := []
  tmInbox := []
  streams := []
  sige := { owner := [], epoch := [], forced := [], bad := [], graphs := [], nodes := [], xchk := [], items := [], migrate := 0, marks := [] }
  time := { sec := 0, ns := 0, frac := 0, ticks := 0, atPps := none, nextSet := none, lastPps := none
            ppsOut := false, cycle := 0, scUs := 0 }
  host := { linkUp := false, insts := [], med := [], filter := [] }
  safety := { inbox := [], queue := { recs := [], lostBefore := false }, lastClass := 0, scaOk := true, scbOk := true
              devTaken := false, pennantP := false, pennantN := false, inA := false, inB := false, inSeen := false, disc := false
              trip := false, suspect := 0, wds := [], st := [], bpmTimes := [], overruns := [], inj := none, injAt := 0 }
  life := { fuses := [], state := 0, keys := [], programmed := 0, revoked := 0, tamper := 0, tamperPin := true
            unlocked := false, completed := false, op := none, opRefused := false, zeroing := false }
  log := []
  tap := .idle
  boundary := []
  smbus := 0
  refOk := 0x7FFFFFF
  free := 0
  outs := []
  pending := []

end Sys2Proof.Machine
end

