-- ==== Sys2Proof/Machine/Ops.lean ====
section
/-! DEFINITION. The named operations on the state that every block uses: sparse tables, bit fields and byte order, memory,
registers and counters, the event log, safety records, interrupt causes, errors and refused writes. -/
namespace Sys2Proof.Machine

/-- What a meaning answers. -/
abbrev Outcome := Host.Outcome State Fault Refusal

/-! ### Sparse tables -/

/-- The value listed for a key, none where it is not listed. -/
def sfind : SMap α → Nat → Option α
  | [], _ => none
  | (a, x) :: r, k => if k < a then none else if k = a then some x else sfind r k

/-- The value of a key, `d` where it is not listed. -/
def sget (d : α) (m : SMap α) (k : Nat) : α := (sfind m k).getD d

/-- The table with one key's value replaced. -/
def sset : SMap α → Nat → α → SMap α
  | [], k, v => [(k, v)]
  | (a, x) :: r, k, v =>
    if k < a then (k, v) :: (a, x) :: r else if k = a then (a, v) :: r else (a, x) :: sset r k v

/-- The table without the keys that a test picks. -/
def sdrop (p : Nat → Bool) (m : SMap α) : SMap α := m.filter (fun e => !p e.1)

/-- Numbers `a` to `a + n - 1` in ascending order. -/
def rangeFrom : Nat → Nat → List Nat
  | _, 0 => []
  | a, n + 1 => a :: rangeFrom (a + 1) n

/-! ### Bit fields and byte order -/

/-- Bits [hi:lo] as a number. -/
def fld (w : BitVec n) (hi lo : Nat) : Nat := (w.toNat / 2 ^ lo) % 2 ^ (hi + 1 - lo)
/-- Bit i. -/
def bit (w : BitVec n) (i : Nat) : Bool := w.getLsbD i
/-- 1 for true. -/
def b2n (b : Bool) : Nat := if b then 1 else 0
/-- A dword from a number, modulo 2^32. -/
def w32 (n : Nat) : Word := BitVec.ofNat 32 n
/-- A 64-bit value from a number, modulo 2^64. -/
def w64 (n : Nat) : W64 := BitVec.ofNat 64 n
/-- The word with bits [hi:lo] replaced. -/
def setFld (w : BitVec n) (hi lo v : Nat) : BitVec n :=
  BitVec.ofNat n (w.toNat - fld w hi lo * 2 ^ lo + (v % 2 ^ (hi + 1 - lo)) * 2 ^ lo)
/-- The word with bit i set or cleared. -/
def setBit (w : BitVec n) (i : Nat) (b : Bool) : BitVec n := setFld w i i (b2n b)
/-- High and low dwords of a 64-bit value. -/
def hi32 (v : W64) : Word := w32 (v.toNat / 0x100000000)
def lo32 (v : W64) : Word := w32 v.toNat
/-- A 64-bit value of two dwords. -/
def cat32 (hi lo : Word) : W64 := w64 (hi.toNat * 0x100000000 + lo.toNat)
/-- A number as `n` bytes, least significant first. -/
def leBytes : Nat → Nat → Bytes
  | 0, _ => []
  | n + 1, v => BitVec.ofNat 8 v :: leBytes n (v / 256)
/-- The number that bytes spell, least significant first. -/
def leNat : Bytes → Nat
  | [] => 0
  | b :: r => b.toNat + 256 * leNat r
/-- A number as `n` bytes, most significant first. -/
def beBytes (n v : Nat) : Bytes := (leBytes n v).reverse
/-- The number that bytes spell, most significant first. -/
def beNat (b : Bytes) : Nat := leNat b.reverse
/-- `n` bytes of a list from offset `o`, zero past its end. -/
def slice (b : Bytes) (o n : Nat) : Bytes := let r := (b.drop o).take n; r ++ List.replicate (n - r.length) 0
/-- Bytes of a list replaced from offset `o` on, none past its end. -/
def splice (b : Bytes) (o : Nat) (new : Bytes) : Bytes :=
  b.take o ++ (new.take (b.length - o)) ++ b.drop (o + new.length)
/-- Sign extension of the low `n` bits of a number to 64 bits. -/
def sext (n v : Nat) : W64 := (BitVec.ofNat n v).signExtend 64
/-- Dwords as bytes, each least significant byte first. -/
def wordsBytes (ws : List Word) : Bytes := ws.flatMap (fun w => leBytes 4 w.toNat)
/-- Bytes cut in groups of `n`, by fuel. -/
def chunks (n : Nat) : Nat → Bytes → List Bytes
  | 0, _ => []
  | f + 1, b => if b.isEmpty then [] else b.take n :: chunks n f (b.drop n)
/-- The length a list's bytes reach at a multiple of `n`. -/
def ceilDiv (a n : Nat) : Nat := (a + n - 1) / n

/-! ### Memory -/

/-- Base of an address space of the memory. -/
def spaceBase (k : Nat) : Nat := k * 0x1000000000000
def hbmA (a : Nat) : Nat := a
/-- Local scratchpad of a core (piste 2, cluster 3, core 3 bits), R194. -/
def localA (core a : Nat) : Nat := spaceBase 1 + core * 32768 + a
/-- Cluster scratchpad of a cluster (piste 2, cluster 3 bits), R194. -/
def clusterA (cl a : Nat) : Nat := spaceBase 2 + cl * 0x100000 + a
/-- Instruction store of a cluster, R182. -/
def icsA (cl a : Nat) : Nat := spaceBase 3 + cl * 0x80000 + a
def telSecA (a : Nat) : Nat := spaceBase 4 + a
def telCodeA (a : Nat) : Nat := spaceBase 5 + a
def telRomA (a : Nat) : Nat := spaceBase 6 + a
/-- Record `i` of the signal memory, R281. -/
def signalA (i : Nat) : Nat := spaceBase 7 + i * 16
/-- Cell of the packet buffer, R330. -/
def cellA (c : Nat) : Nat := spaceBase 8 + c * 256
def flashA (a : Nat) : Nat := spaceBase 9 + a
/-- SIGE table stores of a piste: 0 node, 1 port, 2 map, 3 template, 4 frame map (R288). -/
def sigeStoreA (st p a : Nat) : Nat := spaceBase (10 + st) + p * 0x1000000 + a
/-- TSN stores: 0 gate control lists, 1 stream, 2 meter, 3 recovery tables (R426). -/
def tsnStoreA (u a : Nat) : Nat := spaceBase (16 + u) + a

/-- What a byte that nothing has written reads as: 0xFF in erased flash, 0 elsewhere. -/
def memDefault (a : Nat) : Byte := if a / 0x1000000000000 = 9 then 0xFF else 0

/-- The byte at an address of a memory. -/
def Memory.get : List Host.Cell → Nat → Byte
  | [], a => memDefault a
  | (k, v) :: r, a => if a < k then memDefault a else if a = k then v else Memory.get r a

/-- The memory with one byte replaced, in canonical form. -/
def Memory.set : List Host.Cell → Nat → Byte → List Host.Cell
  | [], a, v => if v = memDefault a then [] else [(a, v)]
  | (k, x) :: r, a, v =>
    if a < k then (if v = memDefault a then (k, x) :: r else (a, v) :: (k, x) :: r)
    else if a = k then (if v = memDefault a then r else (a, v) :: r)
    else (k, x) :: Memory.set r a v

/-- The canonical form from a lower bound on: addresses strictly rising, none listed with what an unlisted one reads. -/
def Memory.wfFrom : Nat → List Host.Cell → Bool
  | _, [] => true
  | b, (k, v) :: r => decide (b ≤ k) && decide (v ≠ memDefault k) && Memory.wfFrom (k + 1) r

/-- The canonical form of a memory. -/
def Memory.wf (m : List Host.Cell) : Bool := Memory.wfFrom 0 m

/-- The memory with `n` bytes from an address on returned to what unlisted bytes read as. -/
def Memory.clear (m : List Host.Cell) (a n : Nat) : List Host.Cell :=
  m.filter (fun c => !(decide (a ≤ c.1) && decide (c.1 < a + n)))

/-- `n` bytes from an address on. -/
def Memory.read (m : List Host.Cell) : Nat → Nat → Bytes
  | _, 0 => []
  | a, n + 1 => Memory.get m a :: Memory.read m (a + 1) n

/-- The memory with bytes written from an address on. -/
def Memory.write (m : List Host.Cell) : Nat → Bytes → List Host.Cell
  | _, [] => m
  | a, b :: r => Memory.write (Memory.set m a b) (a + 1) r

/-- One byte of the state's memory. -/
def State.byte (s : State) (a : Nat) : Byte := Memory.get s.mem a
/-- `n` bytes of the state's memory. -/
def State.bytes (s : State) (a n : Nat) : Bytes := Memory.read s.mem a n
/-- A little-endian number of `n` bytes of the state's memory. -/
def State.num (s : State) (a n : Nat) : Nat := leNat (s.bytes a n)
/-- A write from `a` on makes the word sound again: a whole word on die, a whole 32-byte burst in HBM (R347, R387). -/
def repairs (a n w : Nat) : Bool :=
  if w * 8 < 0x1000000000000 then decide (a ≤ w / 4 * 32) && decide (w / 4 * 32 + 32 ≤ a + n)
  else decide (a ≤ w * 8) && decide (w * 8 + 8 ≤ a + n)
/-- Bytes written to the state's memory. -/
def putBytes (a : Nat) (b : Bytes) (s : State) : State :=
  { s with mem := Memory.write s.mem a b
           poison := s.poison.filter (fun w => !repairs a b.length w) }
/-- A number written as `n` bytes, least significant first. -/
def putNum (a n v : Nat) (s : State) : State := putBytes a (leBytes n v) s
/-- A range of the state's memory cleared. -/
def clearMem (a n : Nat) (s : State) : State :=
  { s with mem := Memory.clear s.mem a n
           poison := s.poison.filter (fun w => !(decide (a ≤ w * 8) && decide (w * 8 < a + n))) }
/-- Some word of the range reads with an uncorrectable error. -/
def State.poisoned (s : State) (a n : Nat) : Bool :=
  s.poison.any (fun w => decide (a < w * 8 + 8) && decide (w * 8 < a + n))
/-- The words of a range are made to read with an uncorrectable error. -/
def poisonMem (a n : Nat) (s : State) : State :=
  { s with poison := rangeFrom (a / 8) (ceilDiv n 8) ++ s.poison.filter (fun w => !(decide (a ≤ w * 8) && decide (w * 8 < a + n))) }

/-! ### Registers and counters -/

/-- Key of a register of the window. -/
def regKey (page off : Nat) : Nat := page * 65536 + off
/-- The dword stored under a key. -/
def State.regK (s : State) (key : Nat) : Word :=
  match sfind s.regs key with
  | some v => v
  | none => regReset s.part key
/-- The dword stored at a page and offset. -/
def State.reg (s : State) (page off : Nat) : Word := s.regK (regKey page off)
/-- The 64-bit value stored at a page and offset. -/
def State.reg64 (s : State) (page off : Nat) : W64 := cat32 (s.reg page (off + 4)) (s.reg page off)
def setRegK (key : Nat) (v : Word) (s : State) : State := { s with regs := sset s.regs key v }
def setReg (page off : Nat) (v : Word) (s : State) : State := setRegK (regKey page off) v s
def setReg64 (page off : Nat) (v : W64) (s : State) : State :=
  setReg page (off + 4) (hi32 v) (setReg page off (lo32 v) s)
/-- Bits [hi:lo] of a register. -/
def State.rfld (s : State) (page off hi lo : Nat) : Nat := fld (s.reg page off) hi lo
/-- Bits [hi:lo] of a register replaced. -/
def setRfld (page off hi lo v : Nat) (s : State) : State := setReg page off (setFld (s.reg page off) hi lo v) s

/-- A saturating 32-bit counter raised by `n`. -/
def satAdd (w : Word) (n : Nat) : Word := w32 (min (w.toNat + n) 0xFFFFFFFF)
def bumpK (key : Nat) (s : State) : State := setRegK key (satAdd (s.regK key) 1) s
def bumpBy (page off n : Nat) (s : State) : State := setReg page off (satAdd (s.reg page off) n) s
def bump (page off : Nat) (s : State) : State := bumpBy page off 1 s
/-- A wrapping 32-bit counter raised by one. -/
def bumpWrap (page off : Nat) (s : State) : State := setReg page off (s.reg page off + 1) s
/-- A 64-bit counter raised by `n`. -/
def bump64By (page off n : Nat) (s : State) : State := setReg64 page off (s.reg64 page off + w64 n) s
def bump64 (page off : Nat) (s : State) : State := bump64By page off 1 s

/-! ### Pages by name (R46) -/
def pDEV := 0x000
def pMODE := 0x001
def pCLK := 0x002
def pRST := 0x003
def pSAFE := 0x004
def pLIFE := 0x005
def pTIME := 0x006
def pLOG := 0x007
def pTEL := 0x008
def pFLG (g : Nat) := 0x010 + g
def pTRG (g : Nat) := 0x020 + g
def pMGP := 0x028
def pPARSE := 0x030
def pCLS := 0x031
def pEM := 0x032
def pHASH := 0x033
def pBPM := 0x040
def pPBUF := 0x041
def pTM := 0x048
def pTSN (u : Nat) := 0x049 + u
def pHBM := 0x050
def pHBMS (k : Nat) := 0x051 + k
def pHOST := 0x060
def pIOV := 0x061
def pSEMA := 0x070
def pPST (p : Nat) := pisteBase p
def pDISP (p : Nat) := pisteBase p + 1
def pGATE (p : Nat) := pisteBase p + 2
def pSIGE (p : Nat) := pisteBase p + 3
def pXCHK (k : Nat) := pisteBase (2 * k) + 4
def pCLU (cl : Nat) := pisteBase (cl / 8) + 8 + cl % 8
def pINST (i : Nat) := 0x100 + i
def pDBG := 0x3F0

/-- The pages present on the part, in ascending order. -/
def presentPages (part : Part) : List Nat := (rangeFrom 0 1024).filter (fun p => (pageKind part p).isSome)

/-! ### HBM -/

/-- Bytes `a` to `a + n - 1` lie in the HBM present. -/
def hbmOk (part : Part) (a n : Nat) : Bool := decide (a + n ≤ Config.hbmBytes part)
/-- A request of a port counted (R391). -/
def hbmCount (port : Nat) (s : State) : State := bump64 pHBM (0xA000 + port * 0x10) s
/-- Offset in HBM of an HBM address, none outside the HBM present (R194, R371). -/
def hbmOff (part : Part) (addr n : Nat) : Option Nat :=
  if 0x1000000000 ≤ addr ∧ hbmOk part (addr - 0x1000000000) n then some (addr - 0x1000000000) else none
/-- Bytes written at an HBM address; nothing is written outside the HBM present. -/
def putHbm (addr : Nat) (b : Bytes) (s : State) : State :=
  match hbmOff s.part addr b.length with
  | some a => putBytes (hbmA a) b s
  | none => s

/-! ### Codes -/

/-- Completion codes of R62. -/
def Status.code : Status → Nat
  | .ok => 0 | .stateRefused => 1 | .absent => 2 | .locked => 3 | .badArg => 4 | .busy => 5 | .empty => 6
  | .notOwner => 7 | .doubleFree => 8 | .quota => 9 | .holderFull => 10 | .timeout => 11 | .ecc => 12

/-- Mode codes of R63. -/
def Mode.code : Mode → Nat
  | .off => 0 | .reset => 1 | .boot => 2 | .fallback => 3 | .configure => 4 | .commission => 5 | .operate => 6
  | .safeOperate => 7 | .degraded => 8 | .safeState => 9 | .maintenance => 10 | .zeroize => 11

/-- The mode of a code. -/
def modeOf : Nat → Option Mode
  | 0 => some .off | 1 => some .reset | 2 => some .boot | 3 => some .fallback | 4 => some .configure
  | 5 => some .commission | 6 => some .operate | 7 => some .safeOperate | 8 => some .degraded
  | 9 => some .safeState | 10 => some .maintenance | 11 => some .zeroize | _ => none

/-- The mode in force: OFF unpowered, RESET while in reset (R63, R64). -/
def State.modeNow (s : State) : Mode :=
  if s.mode.powered = false then .off else if s.mode.inReset then .reset else s.mode.mode

/-- The device runs: powered, out of RESET and, as every divided clock stands after it, with the root PLL locked
(R31, R64). -/
def State.live (s : State) : Bool := s.mode.powered && !s.mode.inReset && !s.mode.pllLost

/-- MODE_STATUS (R70). -/
def State.modeStatus (s : State) : Word :=
  let m := s.mode
  w32 (m.kind.toNat * 0x4000000 + m.slot.toNat * 0x1000000 + m.lost.toNat * 0x100000 + b2n m.trial * 0x80000 +
    b2n m.ssLatch * 0x40000 + b2n m.cfgDefaults * 0x20000 + b2n m.ready * 0x10000 + m.cause.toNat * 0x100 +
    m.prev.code * 0x10 + m.mode.code)

/-- REFUSE_LAST form of a requester: KIND [31:28], REQUESTER [27:16] (R48). The loader acts with Telemark rights (R75). -/
def reqForm : Requester → Nat
  | .pf => 0
  | .inst i => 0x10000000 + i.toNat * 0x10000
  | .tel n => 0x20000000 + n.toNat * 0x10000
  | .core t => 0x30000000 + t.toNat * 0x10000
  | .dbg => 0x40000000
  | .loader => 0x20000000

/-- Number of a requester identity in the fabric's tables (R42). -/
def reqNum : Requester → Nat
  | .pf => 0 | .inst i => 1 + i.toNat | .tel n => 257 + n.toNat | .core t => 265 + t.toNat | .dbg => 2313
  | .loader => 2314

/-! ### Records -/

/-- Something leaves the device. -/
def emit (o : Out) (s : State) : State := { s with outs := o :: s.outs }

/-- A record appended to the event log (R501, R502). -/
def logAdd (kind page d0 d1 d2 : Nat) (s : State) : State :=
  let n := s.reg pLOG 0x8000
  let rd := s.reg pLOG 0x8004
  let r : LogRec := { kind := BitVec.ofNat 8 kind, page := BitVec.ofNat 10 page, mode := s.modeNow, d0 := w32 d0
                      d1 := w32 d1, d2 := w32 d2, ns := s.time.ns, sec := w32 s.time.sec.toNat, seq := n }
  let s := if 4096 ≤ (n - rd).toNat then bump pLOG 0x8008 s else s
  setReg pLOG 0x8000 (n + 1) { s with log := sset s.log (n.toNat % 4096) r }

/-- A record sent to the safety controller; it waits in its inbox for SAFETY_RECORD (R460). -/
def postF (forced : Bool) (kind page d0 d1 : Nat) (s : State) : State :=
  let r : SafeRec := { kind := BitVec.ofNat 8 kind, cls := 0, forced := forced, lostBefore := false, mode := s.modeNow
                       degFromSafe := s.mode.degFromSafe, page := BitVec.ofNat 10 page, d0 := w32 d0, d1 := w32 d1
                       ns := s.time.ns, sec := w32 s.time.sec.toNat, us := s.time.scUs }
  { s with safety := { s.safety with inbox := s.safety.inbox ++ [r] } }
def post (kind page d0 d1 : Nat) (s : State) : State := postF false kind page d0 d1 s

/-- A pending set delivered to the targets of INT_ROUTE but the safety controller (R58). -/
def notify (page : Nat) (s : State) : State :=
  let r := s.reg page 0x2C
  let c := s.reg page 0x20 &&& s.reg page 0x24
  let s := if bit r 30 then emit (.irq page 1 c) s else s
  let s := if bit r 29 then emit (.irq page 2 c) s else s
  if bit r 28 then emit (.msix .pf (fld r 10 0)) (emit (.irq page 3 c) s) else s

/-- Interrupt causes set by the device or by INT_FORCE (R58, R60). -/
def raise (page : Nat) (causes : Word) (s : State) : State :=
  let old := s.reg page 0x20
  let en := s.reg page 0x24
  let s' := setReg page 0x20 (old ||| causes) s
  let fresh := causes &&& ~~~old &&& en &&& ~~~(6 : Word)
  let s' := if bit (s.reg page 0x2C) 31 && decide (fresh ≠ 0) then emit (.irq page 0 fresh) s' else s'
  if old &&& en = 0 ∧ (old ||| causes) &&& en ≠ 0 then notify page s' else s'

/-- One cause, by its bit. -/
def raiseBit (page i : Nat) (s : State) : State := raise page (w32 (2 ^ i)) s

/-- An error in a page's memories: counted, captured and delivered (R57, R58). -/
def memError (page source synd addr : Nat) (ue : Bool) (s : State) : State :=
  let s := bump page (if ue then 0x44 else 0x40) s
  let f := s.reg page 0x48
  let s := if bit f 31 = false ∨ (ue = true ∧ bit f 30 = false) then
      setReg page 0x4C (w32 addr) (setReg page 0x48
        (w32 (0x80000000 + b2n ue * 0x40000000 + source % 256 * 0x10000 + synd % 65536)) s)
    else s
  let s := raiseBit page (if ue then 1 else 0) s
  if ue then post 0x01 page (s.reg page 0x48).toNat (s.reg page 0x4C).toNat s else s

/-- An error of which the spec gives no source or syndrome: both are a free value. -/
def errAt (page addr : Nat) (ue : Bool) (s : State) : State :=
  let f := (Config.errorInfo s.free).toNat
  memError page (f / 65536) (f % 65536) addr ue { s with free := s.free + 1 }
/-- An error of which only the syndrome is left open. -/
def srcErr (page source addr : Nat) (ue : Bool) (s : State) : State :=
  memError page source ((Config.errorInfo s.free).toNat % 65536) addr ue { s with free := s.free + 1 }
def ueAt (page addr : Nat) (s : State) : State := errAt page addr true s
def ceAt (page addr : Nat) (s : State) : State := errAt page addr false s

/-- A STATE_REFUSED outcome: counted, logged, and sent to the safety controller where it touches a safety function
(R72, R74). -/
def stateRefused (req : Requester) (page off : Nat) (touches : Bool) (s : State) : State :=
  let m := s.modeNow
  let s := bump pMODE 0x8010 s
  let s := logAdd 0x03 page (reqForm req + off) (page * 65536 + off) m.code s
  if touches then bump pSAFE 0x8014 (post 0x08 page (reqForm req + off) (page * 65536 + off) s) else s

/-- The device's next random word, a free value (R490). -/
def drawRandom (s : State) : Word × State := (Config.random s.free, { s with free := s.free + 1 })

/-- The 64-bit count of time-clock microseconds since reset. -/
def State.nowUs (s : State) : Nat := s.time.ticks / 1000
/-- The nanoseconds field of the time base as a record carries it. -/
def State.timeNs (s : State) : Word := s.time.ns

end Sys2Proof.Machine
end

