-- ==== Sys2Proof/Machine/Insn.lean ====
section
/-! DEFINITION. The 32-bit word of a Sugor instruction, as a fault record's INSN field carries it: the formats of R202. -/
namespace Sys2Proof.Machine
open Sys2Proof

/-- Formats A and X: op, rd, rs, rt, fn11 (R202). -/
def fmtA (op : Nat) (rd rs rt : Reg) (fn : Nat) : Word :=
  w32 (op * 0x4000000 + rd.toNat * 0x200000 + rs.toNat * 0x10000 + rt.toNat * 0x800 + fn)
/-- Formats I, S and B: op, two registers, a 16-bit field (R202). -/
def fmtI (op : Nat) (a b : Reg) (imm : BitVec 16) : Word :=
  w32 (op * 0x4000000 + a.toNat * 0x200000 + b.toNat * 0x10000 + imm.toNat)
/-- Format F: op, rd, rs, pos6, len6, sub4 (R202). -/
def fmtF (rd rs : Reg) (pos len : BitVec 6) (sub : Nat) : Word :=
  w32 (0x24 * 0x4000000 + rd.toNat * 0x200000 + rs.toNat * 0x10000 + pos.toNat * 1024 + len.toNat * 16 + sub)
/-- Format J: op, off26 (R202). -/
def fmtJ (op : Nat) (off : BitVec 26) : Word := w32 (op * 0x4000000 + off.toNat)
/-- A coprocessor instruction: unit, FUNC and OPT in cop11 (R223, R228). -/
def fmtX (unit func : Nat) (rd rs rt : Reg) (opt : BitVec 5) : Word :=
  fmtA (0x38 + unit) rd rs rt (func * 32 + opt.toNat)

end Sys2Proof.Machine
end

