-- ==== Sys2Proof/Machine/Threads.lean ====
section
/-! DEFINITION. Hardware threads: their reset contexts, registers, events, faults, breakpoints, trace, and the frame in which
every instruction runs (R152-R192, R224-R226, R540-R547). -/
namespace Sys2Proof.Machine
open Sys2Proof

/-! ### Names -/

/-- A Telemark thread. -/
def isTel (t : Nat) : Bool := decide (2048 ≤ t)
/-- The thread is on a piste supervisor core (R166). -/
def isSup (t : Nat) : Bool := !isTel t && decide (t / 8 % 64 = 0)
def tPiste (t : Nat) : Nat := t / 512
/-- Global cluster number, piste in [4:3]. -/
def tCluster (t : Nat) : Nat := t / 64
/-- Global core number. -/
def tCore (t : Nat) : Nat := t / 8
/-- The CLU page of a thread, the TEL page of a Telemark thread. -/
def tPage (t : Nat) : Nat := if isTel t then pTEL else pCLU (tCluster t)

def CrcAcc.zero : CrcAcc :=
  { value := 0, alg := 0, width := 32, poly := 0x04C11DB7, refin := true, refout := true, xor := 0xFFFFFFFF }

/-- Vector of a supervisor thread (R166); the ROM's start for a Telemark thread; 0 otherwise. -/
def startVector (t : Nat) : Nat :=
  if isTel t then 0x30000000 else if isSup t then 0x20000000 + t % 8 * 0x40 else 0

/-- A thread's context after reset (R166, R186, R187). -/
def Thread.reset (t : Nat) : Thread :=
  { st := .stopped, prev := .stopped, stopPending := false, g := [], pc := BitVec.ofNat 40 (startVector t)
    pl := if isTel t then 2 else if isSup t || t % 8 == 0 then 1 else 0
    epc := 0, cause := 0, evmask := 0, evlatch := 0, cpen := 0, timer := 0
    startPc := if isTel t then 0 else BitVec.ofNat 40 (startVector t), region := []
    item := none, replay := false, ctxLost := false, stage := [], stageLen := 0, mbox := [], inflight := []
    park := none, stepping := false, skipBp := false, late := none, buf := [], a0 := .zero, a1 := .zero, cs := 0
    key := [], profile := 0, res2 := [], p3 := [], res3 := [], cryDone := false, cryAuth := false, cryStatus := 0
    cry := none, oq := 0, res4 := 0, res5 := 0 }

/-- The thread numbered `t`. -/
def State.thr (s : State) (t : Nat) : Thread := sget (Thread.reset t) s.threads t
def setThr (t : Nat) (th : Thread) (s : State) : State := { s with threads := sset s.threads t th }
def updThr (t : Nat) (f : Thread → Thread) (s : State) : State := setThr t (f (s.thr t)) s

/-- A general register; g0 reads zero (R186). -/
def Thread.rg (th : Thread) (r : Reg) : W64 := if r = 0 then 0 else sget 0 th.g r.toNat
/-- A general register written; a write of g0 is discarded (R186). -/
def Thread.setRg (th : Thread) (r : Reg) (v : W64) : Thread := if r = 0 then th else { th with g := sset th.g r.toNat v }
def setReg' (t : Nat) (r : Reg) (v : W64) (s : State) : State := updThr t (fun th => th.setRg r v) s

def Piste.reset : Piste :=
  { lists := [], spill := [], spillPos := [], nextSeq := 0, offers := [], lastKind := [], tracker := [], snow := [], deadlock := false
    liftQ := [], liftTimes := [], faults := { recs := [], lostBefore := false }
    gateRecs := { recs := [], lostBefore := false }, tsRecs := { recs := [], lostBefore := false }, traceRun := false
    trace := [] }

def State.piste (s : State) (p : Nat) : Piste := sget Piste.reset s.pistes p
def updPiste (p : Nat) (f : Piste → Piste) (s : State) : State :=
  { s with pistes := sset s.pistes p (f (s.piste p)) }

/-- The piste is lost (R67). -/
def State.lost (s : State) (p : Nat) : Bool := bit s.mode.lost p
/-- The piste is present and not lost. -/
def State.pisteUp (s : State) (p : Nat) : Bool := decide (p < Config.pistes s.part) && !s.lost p

def State.pkt (s : State) (p : PktId) : Option Packet := sget none s.pkts p
def setPkt (p : PktId) (k : Packet) (s : State) : State := { s with pkts := sset s.pkts p (some k) }
def updPkt (p : PktId) (f : Packet → Packet) (s : State) : State :=
  match s.pkt p with
  | some k => setPkt p (f k) s
  | none => s

/-- The packet a thread holds, with its number. -/
def State.held (s : State) (t : Nat) : Option (PktId × Packet) :=
  match (s.thr t).item with
  | some (.pkt p) => (s.pkt p).map (fun k => (p, k))
  | _ => none

/-! ### Status and events -/

/-- The HIGH thread of its core (R157). -/
def State.isHigh (s : State) (t : Nat) : Bool :=
  let w := s.reg (pCLU (tCluster t)) (0x100 + t / 8 % 8 * 0x20)
  !isTel t && bit w 8 && fld w 2 0 == t % 8

/-- The context window shows a flow context: the held packet has a flow (R198). -/
def State.ctxValid (s : State) (t : Nat) : Bool :=
  match s.held t with
  | some (_, k) => !k.noFlow
  | none => false

/-- STATUS (R189). -/
def State.status (s : State) (t : Nat) : Word :=
  let th := s.thr t
  let schuss := match s.held t with
    | some (_, k) => k.schuss
    | none => false
  w32 (th.mbox.length * 0x1000 + th.stageLen * 0x100 + b2n th.replay * 0x20 + b2n schuss * 0x10 +
    b2n (s.ctxValid t) * 8 + b2n th.ctxLost * 4 + b2n (s.isHigh t) * 2 + b2n th.item.isSome)

/-- The fault thread of a piste (R172). -/
def State.faultTid (s : State) (p : Nat) : Nat := p * 512 + s.rfld (pPST p) 0x100 2 0
/-- The Telemark thread that TEL_FAULT_CFG names (R176). -/
def State.telFaultTid (s : State) : Nat := 2048 + s.rfld pTEL 0x100 2 0

/-- The level event FAULT (R174, R176). -/
def State.faultEvent (s : State) (t : Nat) : Bool :=
  if isTel t then t == s.telFaultTid && !s.telFaults.recs.isEmpty
  else t == s.faultTid (tPiste t) && !(s.piste (tPiste t)).faults.recs.isEmpty

/-- The Telemark thread that SAFE_CFG.NOTIFY_TID names (R460). -/
def State.safetyTid (s : State) : Nat := 2048 + s.rfld pSAFE 0x100 6 4
/-- EVPEND (R190); SAFETY is pending too while safety records are queued (R460). -/
def State.evpend (s : State) (t : Nat) : Word :=
  let th := s.thr t
  th.evlatch ||| w32 (b2n (!th.mbox.isEmpty) + b2n th.item.isSome * 2 + b2n (s.faultEvent t) * 0x80 +
    b2n (t == s.safetyTid && !s.safety.queue.recs.isEmpty) * 0x400)

/-- A data or instruction range with a thread inside a scope: 0 thread, 1 core, 2 cluster, 3 piste (R539, R543). -/
def inScope (scope thread t : Nat) : Bool := thread / 8 ^ (if scope = 3 then 3 else scope) == t / 8 ^ (if scope = 3 then 3 else scope)

/-- A trace record, where the piste's trace unit runs and its filter takes the event (R547). -/
def traceEv (t kind : Nat) (d0 d1 : W64) (s : State) : State :=
  let p := tPiste t
  let c := s.reg pDBG (0x8800 + p * 0x20)
  if isTel t || !(s.piste p).traceRun || !bit c kind || !inScope (fld c 13 12) (fld c 26 16) t then s
  else
    let r : TraceRec := { kind := BitVec.ofNat 8 kind, thread := t, time := s.time.ns, d0 := d0, d1 := d1 }
    let n := (s.reg pDBG (0x8804 + p * 0x20)).toNat
    let s := bumpWrap pDBG (0x8804 + p * 0x20) s
    if bit c 31 then
      putHbm ((s.reg64 pDBG (0x8810 + p * 0x20)).toNat + n % 0x100000 * 32)
        (leBytes 4 (kind + t * 256) ++ leBytes 4 r.time.toNat ++ leBytes 8 d0.toNat ++ leBytes 8 d1.toNat ++ leBytes 8 0)
        (hbmCount 15 s)
    else updPiste p (fun q => { q with trace := sset q.trace (n % 8192) r }) s

/-- DBG_LAST_HIT of a halt (R550). -/
def lastHit (t bp kind : Nat) (s : State) : State :=
  setReg pDBG 0x8008 (w32 (0x80000000 + kind * 0x10000 + bp * 0x1000 + t)) s

/-- A thread is halted (R539, R540); trace causes 0 command, 1 breakpoint, 2 step. -/
def haltThr (t cause : Nat) (s : State) : State :=
  let th := s.thr t
  let s := match th.item with
    | some (.pkt _) => bump (pGATE (tPiste t)) 0x801C s
    | _ => s
  traceEv t 6 (w64 th.pc.toNat) (w64 cause) (setThr t { th with st := .halted, prev := th.st, stepping := false } s)

/-- A STEP command completes with OK when no thread it named is still in its step; the command's argument is kept at the
offset of DBG_CMD, which reads zero (R542, R550). -/
def stepEnds (s : State) : State :=
  let a := s.reg pDBG 0x8104
  if bit (s.reg pDBG 0x8108) 30 && !(s.threads.any (fun e => e.2.stepping && inScope (fld a 13 12) (fld a 10 0) e.1)) then
    raiseBit pDBG 4 (setReg pDBG 0x8108 0x80000000 s)
  else s
/-- A thread outside the supervisor core runs: the deadlock that its piste declared has ended (R276). -/
def endDeadlock (t : Nat) (s : State) : State :=
  if !isTel t ∧ 8 ≤ t % 512 ∧ (s.piste (tPiste t)).deadlock = true then
    updPiste (tPiste t) (fun q => { q with deadlock := false }) s
  else s
/-- An instruction of the thread has retired: the step of a debugger's STEP ends (R542). -/
def retired (t : Nat) (word : W64) (pc : W64) (s : State) : State :=
  let s := traceEv t 0 pc word (endDeadlock t s)
  let th := s.thr t
  if th.stepping ∧ th.st = .running then stepEnds (lastHit t 0 3 (haltThr t 2 s))
  else updThr t (fun th => { th with skipBp := false }) s

/-- A waiting thread whose enabled event is pending completes its WAIT (R214). -/
def wake (t : Nat) (s : State) : State :=
  let th := s.thr t
  let ev := s.evpend t &&& th.evmask
  if th.st = .waiting ∧ ev ≠ 0 then
    match th.park with
    | some (.wait rd, w) =>
      let th' := { th.setRg rd (w64 ev.toNat) with st := .running, park := none, pc := th.pc + 4 }
      retired t (w64 w.toNat) (w64 th.pc.toNat) (setThr t th' s)
    | _ => setThr t { th with st := .running, park := none } s
  else s

/-- A latched event of a thread is set (R190). -/
def setEvent (t b : Nat) (s : State) : State :=
  wake t (updThr t (fun th => { th with evlatch := th.evlatch ||| w32 (2 ^ b) }) s)

/-! ### Faults -/

/-- A record queued on a fault queue of 64: the queue and whether the record was kept (R174). -/
def pushFault (q : RecQueue FaultRec) (r : FaultRec) : RecQueue FaultRec × Bool :=
  if q.recs.length < 64 then ({ recs := q.recs ++ [{ r with lostBefore := q.lostBefore }], lostBefore := false }, true)
  else ({ q with lostBefore := true }, false)

/-- HEAD of a fault record (R173). -/
def FaultRec.head (r : FaultRec) : Nat :=
  r.cause.toNat + r.thread % 2048 * 256 + b2n r.held * 0x1000000 + b2n r.spec * 0x2000000 + b2n r.lostBefore * 0x4000000

/-- The bytes of a fault record (R173). -/
def FaultRec.bytes (r : FaultRec) : Bytes :=
  leBytes 4 r.head ++ leBytes 4 r.insn.toNat ++ leBytes 8 r.pc.toNat ++ leBytes 8 r.addr.toNat ++ leBytes 4 r.time.toNat ++
    leBytes 4 r.gate.toNat

/-- A fault record delivered to its queue: the piste's, the Telemark complex's for a supervisor core, and the safety
controller for a Telemark thread (R172, R174, R176). -/
def deliverFault (t : Nat) (r : FaultRec) (s : State) : State :=
  if isTel t then post 0x10 pTEL r.head r.pc.toNat s
  else if isSup t then
    let (q, kept) := pushFault s.telFaults r
    let s := { s with telFaults := q }
    if kept then wake s.telFaultTid (bump pTEL 0x8000 s) else bump pTEL 0x8004 s
  else
    let p := tPiste t
    let (q, kept) := pushFault (s.piste p).faults r
    let s := updPiste p (fun x => { x with faults := q }) s
    if kept then wake (s.faultTid p) (bump (pPST p) 0x8000 s) else emit (.irq (pPST p) 1 0) (bump (pPST p) 0x8004 s)

/-- A thread faults at its present instruction (R172). -/
def faultThr (t cause : Nat) (insn : Word) (addr : Nat) (s : State) : State :=
  let th := s.thr t
  let gate := match s.held t with
    | some (_, k) => w32 (0x80000000 + k.seq.toNat)
    | none => 0
  let r : FaultRec := { cause := BitVec.ofNat 8 cause, thread := if isTel t then t - 2048 else t, held := th.item.isSome
                        spec := Config.flag s.free, lostBefore := false, insn := insn, pc := th.pc
                        addr := BitVec.ofNat 40 addr, time := s.time.ns, gate := gate }
  let th' := { th with st := .faulted, epc := th.pc, cause := BitVec.ofNat 8 cause, park := none, stepping := false
                       stopPending := false }
  let s := if cause = 0x12 ∧ isTel t = false then bump (tPage t) 0x8404 s else s
  deliverFault t r (traceEv t 5 (w64 cause) (w64 th.pc.toNat) (setThr t th' { s with free := s.free + 1 }))

/-! ### The frame of an instruction -/

/-- What an instruction does, before its retirement. -/
inductive Body where
  /-- it retires and the next instruction follows -/
  | retire (s : State)
  /-- it retires after a data access: load, store, address, bytes -/
  | access (load store : Bool) (addr size : Nat) (s : State)
  /-- it retires and the thread goes on at an address -/
  | jump (pc : Nat) (s : State)
  /-- it parks with what it does at its completion -/
  | park (op : Parked) (s : State)
  /-- it waits for an event -/
  | wait (rd : Reg) (s : State)
  /-- it faults with a cause and an address -/
  | fault (cause addr : Nat)
  /-- it faults after its access counted an error -/
  | faultIn (s : State) (cause addr : Nat)
  /-- it is not ready: it does not issue -/
  | stall
  /-- it is not ready, and the wait is counted -/
  | stallIn (s : State)

/-- A region covers every byte of an access (R200). -/
def regionCovers (w : W64) (a n : Nat) : Bool :=
  let size := fld w 53 48
  let base := fld w 39 12 * 4096
  bit w 63 && decide (12 ≤ size) && decide (size ≤ 40) && base % 2 ^ size == 0 && decide (base ≤ a) &&
    decide (a + n ≤ base + 2 ^ size)

/-- Some enabled region covers the access with every permission bit of the list. -/
def Thread.regionOk (th : Thread) (a n : Nat) (perms : List Nat) : Bool :=
  (rangeFrom 0 8).any (fun r => let w := sget 0 th.region r; regionCovers w a n && perms.all (fun b => bit w b))

/-- Memory address of a fetchable instruction address, none outside the fetchable spaces (R181, R199). -/
def fetchAddr (t pc : Nat) : Option Nat :=
  if 0x20000000 ≤ pc ∧ pc + 4 ≤ 0x20080000 then
    some (if isTel t then telCodeA (pc - 0x20000000) else icsA (tCluster t) (pc - 0x20000000))
  else if isTel t ∧ 0x30000000 ≤ pc ∧ pc + 4 ≤ 0x30010000 then some (telRomA (pc - 0x30000000))
  else none

/-- The instruction at the PC can be fetched (R181, R200). -/
def State.fetchOk (s : State) (t : Nat) : Bool :=
  let th := s.thr t
  match fetchAddr t th.pc.toNat with
  | some a => (th.pl != 0 || th.regionOk th.pc.toNat 4 [60]) && !s.poisoned a 4
  | none => false

/-- Offsets of the breakpoints of a piste (R550). -/
def bpOff (p n : Nat) : Nat := 0x8400 + p * 0x100 + n * 0x10

/-- The lowest breakpoint of the thread's piste that an execution or a data access meets (R543). -/
def State.bpHit (s : State) (t : Nat) (kinds : List Nat) (a n : Nat) : Option Nat :=
  if isTel t then none
  else
    let p := tPiste t
    (rangeFrom 0 8).find? (fun b =>
      let c := s.reg pDBG (bpOff p b + 8)
      let addr := (s.reg64 pDBG (bpOff p b)).toNat
      let size := 2 ^ fld c 20 16
      let lo := addr / size * size
      bit c 31 && kinds.contains (fld c 29 28) && inScope (fld c 25 24) (fld c 10 0) t && decide (a < lo + size) &&
        decide (lo < a + n))

/-- A data access has retired: a data breakpoint halts the thread (R543). -/
def dataBreak (t : Nat) (load store : Bool) (a n : Nat) (s : State) : State :=
  let kinds := (if load then [1, 3] else []) ++ (if store then [2, 3] else [])
  match s.bpHit t kinds a n with
  | some b =>
    if (s.thr t).st = .running then setReg64 pDBG 0x8010 (w64 a) (lastHit t b 2 (haltThr t 1 s)) else s
  | none => s

/-- A thread stopped at its next instruction by a pending TSTOP (R167). -/
def stopIfPending (t : Nat) (s : State) : State :=
  updThr t (fun th =>
    if th.stopPending ∧ th.st = .running then { th with st := .stopped, stopPending := false }
    else if th.stopPending ∧ th.st = .halted ∧ th.prev = .running then { th with prev := .stopped, stopPending := false }
    else th) s

/-- The end of an instruction that retires at the thread's PC. -/
def finish (w : Word) (t pc' : Nat) (s : State) : State :=
  let pc := (s.thr t).pc
  retired t (w64 w.toNat) (w64 pc.toNat) (updThr t (fun th => { th with pc := BitVec.ofNat 40 pc' }) s)

/-- The thread can run an instruction: it exists, the device runs, its piste is not lost, and it is RUNNING. -/
def State.canRun (s : State) (t : Nat) : Bool :=
  s.live && (if isTel t then decide (t < 2056) else s.pisteUp (tPiste t)) && (s.thr t).st == .running

/-- A thread runs one instruction: fetch and breakpoint judged first, then the body, then retirement or the fault
(R172, R225, R543). A thread that cannot run it changes nothing. -/
def runInsn (w : Word) (t : Nat) (body : Thread → State → Body) (s : State) : State :=
  if !s.canRun t then s
  else
    let th := s.thr t
    let pc := th.pc.toNat
    if !s.fetchOk t then
      let s := match fetchAddr t pc with
        | some a =>
          if !s.poisoned a 4 then s
          else if isTel t then ueAt pTEL (a % 0x1000000000000 / 8) s
          else srcErr (tPage t) 9 ((pc - 0x20000000) / 8) true s
        | none => s
      faultThr t 0x04 0 pc s
    else
      match (if th.skipBp then none else s.bpHit t [0] pc 4) with
      | some b => lastHit t b 1 (haltThr t 1 s)
      | none =>
        match body th s with
        | .retire s' => finish w t (pc + 4) s'
        | .access load store a n s' => dataBreak t load store a n (finish w t (pc + 4) s')
        | .jump pc' s' => finish w t pc' s'
        | .park op s' => updThr t (fun th => { th with st := .parked, park := some (op, w) }) s'
        | .wait rd s' => updThr t (fun th => { th with st := .waiting, park := some (.wait rd, w) }) s'
        | .fault cause a => faultThr t cause w a s
        | .faultIn s' cause a => faultThr t cause w a s'
        | .stall => s
        | .stallIn s' => s'

/-- An instruction whose result is one register (R206, R207, R211). -/
def regInsn (w : Word) (t : Tid) (rd : Reg) (legal : Bool) (f : Thread → W64) (s : State) : State :=
  runInsn w t.toNat (fun th s => if legal then .retire (setReg' t.toNat rd (f th) s) else .fault 0x01 0) s

end Sys2Proof.Machine
end

