-- ==== Sys2Proof/Machine/Operands.lean ====
section
/-! DEFINITION. The operand forms and result functions of the Sugor instructions: immediates, arithmetic and logic, shifts,
comparisons, bit counts, byte swaps, bit fields and branch targets (R202, R206-R213). The machine has no condition flags. -/
namespace Sys2Proof.Machine
open Sys2Proof

/-- A sign-extended 16-bit immediate (R202). -/
def immS (i : BitVec 16) : W64 := i.signExtend 64
/-- A zero-extended 16-bit immediate. -/
def immZ (i : BitVec 16) : W64 := i.setWidth 64
/-- 1 or 0 as a register value. -/
def ofBool (b : Bool) : W64 := if b then 1 else 0

/-- Leading zeros of the low `n` bits. -/
def clzN (v : W64) : Nat → Nat
  | 0 => 0
  | n + 1 => if v.getLsbD n then 0 else 1 + clzN v n
/-- Trailing zeros from bit `i` on, `n` bits looked at. -/
def ctzN (v : W64) : Nat → Nat → Nat
  | _, 0 => 0
  | i, n + 1 => if v.getLsbD i then 0 else 1 + ctzN v (i + 1) n
/-- Set bits among the low `n`. -/
def popN (v : W64) : Nat → Nat
  | 0 => 0
  | n + 1 => b2n (v.getLsbD n) + popN v n

/-- The low `n` bytes reversed, zero-extended (R206). -/
def bswap (n : Nat) (v : W64) : W64 := w64 (beNat (leBytes n v.toNat))

/-- A shift amount: the low six bits (R206). -/
def shamt (v : W64) : Nat := v.toNat % 64

def aluSll (a b : W64) : W64 := a <<< shamt b
def aluSrl (a b : W64) : W64 := a >>> shamt b
def aluSra (a b : W64) : W64 := a.sshiftRight (shamt b)
def aluRotr (a b : W64) : W64 := a.rotateRight (shamt b)
def aluSlt (a b : W64) : W64 := ofBool (a.slt b)
def aluSltu (a b : W64) : W64 := ofBool (a.ult b)
def aluMin (a b : W64) : W64 := if a.slt b then a else b
def aluMax (a b : W64) : W64 := if a.slt b then b else a
def aluMinu (a b : W64) : W64 := if a.ult b then a else b
def aluMaxu (a b : W64) : W64 := if a.ult b then b else a
/-- Bits [127:64] of the signed product. -/
def aluMulh (a b : W64) : W64 := BitVec.ofInt 64 (a.toInt * b.toInt / 18446744073709551616)
/-- Bits [127:64] of the unsigned product. -/
def aluMulhu (a b : W64) : W64 := w64 (a.toNat * b.toNat / 18446744073709551616)
/-- Sign extension of the low 32 bits. -/
def sextW (v : W64) : W64 := (v.setWidth 32).signExtend 64

/-- The bit field starts at `pos` and has `len + 1` bits within the register (R211). -/
def bfLegal (pos len : BitVec 6) : Bool := decide (pos.toNat + len.toNat + 1 ≤ 64)
def bfMask (len : BitVec 6) : W64 := w64 (2 ^ (len.toNat + 1) - 1)
def bfxu (v : W64) (pos len : BitVec 6) : W64 := (v >>> pos.toNat) &&& bfMask len
def bfxs (v : W64) (pos len : BitVec 6) : W64 := sext (len.toNat + 1) (bfxu v pos len).toNat
def bfi (old v : W64) (pos len : BitVec 6) : W64 :=
  (old &&& ~~~(bfMask len <<< pos.toNat)) ||| ((v &&& bfMask len) <<< pos.toNat)
def bfc (v : W64) (pos len : BitVec 6) : W64 := v &&& ~~~(bfMask len <<< pos.toNat)
def bfd (v : W64) (pos len : BitVec 6) : W64 := (v &&& bfMask len) <<< pos.toNat

/-- A branch or jump target: the PC plus a signed count of instructions, modulo 2^64 (R202, R212). -/
def target (pc : BitVec 40) (w : Nat) (off : Nat) : W64 := pc.setWidth 64 + sext w off * 4

end Sys2Proof.Machine
end

