-- ==== Sys2Proof/Machine/Alu.lean ====
section
/-! DEFINITION. Register operations: the ALU group, the immediate instructions and the bit fields (R203, R206, R207, R211). A
field that an instruction does not use and that is not zero makes it ILLEGAL. -/
namespace Sys2Proof.Machine
open Sys2Proof

/-! ### The ALU group (R206) -/

def execAdd (t : Tid) (rd rs rt : Reg) (s : State) : Outcome :=
  .next (regInsn (fmtA 0 rd rs rt 0) t rd true (fun th => th.rg rs + th.rg rt) s)
def execSub (t : Tid) (rd rs rt : Reg) (s : State) : Outcome :=
  .next (regInsn (fmtA 0 rd rs rt 1) t rd true (fun th => th.rg rs - th.rg rt) s)
def execAnd (t : Tid) (rd rs rt : Reg) (s : State) : Outcome :=
  .next (regInsn (fmtA 0 rd rs rt 2) t rd true (fun th => th.rg rs &&& th.rg rt) s)
def execOr (t : Tid) (rd rs rt : Reg) (s : State) : Outcome :=
  .next (regInsn (fmtA 0 rd rs rt 3) t rd true (fun th => th.rg rs ||| th.rg rt) s)
def execXor (t : Tid) (rd rs rt : Reg) (s : State) : Outcome :=
  .next (regInsn (fmtA 0 rd rs rt 4) t rd true (fun th => th.rg rs ^^^ th.rg rt) s)
def execAndn (t : Tid) (rd rs rt : Reg) (s : State) : Outcome :=
  .next (regInsn (fmtA 0 rd rs rt 5) t rd true (fun th => th.rg rs &&& ~~~th.rg rt) s)
def execSll (t : Tid) (rd rs rt : Reg) (s : State) : Outcome :=
  .next (regInsn (fmtA 0 rd rs rt 8) t rd true (fun th => aluSll (th.rg rs) (th.rg rt)) s)
def execSrl (t : Tid) (rd rs rt : Reg) (s : State) : Outcome :=
  .next (regInsn (fmtA 0 rd rs rt 9) t rd true (fun th => aluSrl (th.rg rs) (th.rg rt)) s)
def execSra (t : Tid) (rd rs rt : Reg) (s : State) : Outcome :=
  .next (regInsn (fmtA 0 rd rs rt 10) t rd true (fun th => aluSra (th.rg rs) (th.rg rt)) s)
def execRotr (t : Tid) (rd rs rt : Reg) (s : State) : Outcome :=
  .next (regInsn (fmtA 0 rd rs rt 11) t rd true (fun th => aluRotr (th.rg rs) (th.rg rt)) s)
def execSlt (t : Tid) (rd rs rt : Reg) (s : State) : Outcome :=
  .next (regInsn (fmtA 0 rd rs rt 16) t rd true (fun th => aluSlt (th.rg rs) (th.rg rt)) s)
def execSltu (t : Tid) (rd rs rt : Reg) (s : State) : Outcome :=
  .next (regInsn (fmtA 0 rd rs rt 17) t rd true (fun th => aluSltu (th.rg rs) (th.rg rt)) s)
def execMin (t : Tid) (rd rs rt : Reg) (s : State) : Outcome :=
  .next (regInsn (fmtA 0 rd rs rt 18) t rd true (fun th => aluMin (th.rg rs) (th.rg rt)) s)
def execMax (t : Tid) (rd rs rt : Reg) (s : State) : Outcome :=
  .next (regInsn (fmtA 0 rd rs rt 19) t rd true (fun th => aluMax (th.rg rs) (th.rg rt)) s)
def execMinu (t : Tid) (rd rs rt : Reg) (s : State) : Outcome :=
  .next (regInsn (fmtA 0 rd rs rt 20) t rd true (fun th => aluMinu (th.rg rs) (th.rg rt)) s)
def execMaxu (t : Tid) (rd rs rt : Reg) (s : State) : Outcome :=
  .next (regInsn (fmtA 0 rd rs rt 21) t rd true (fun th => aluMaxu (th.rg rs) (th.rg rt)) s)
def execMul (t : Tid) (rd rs rt : Reg) (s : State) : Outcome :=
  .next (regInsn (fmtA 0 rd rs rt 24) t rd true (fun th => th.rg rs * th.rg rt) s)
def execMulh (t : Tid) (rd rs rt : Reg) (s : State) : Outcome :=
  .next (regInsn (fmtA 0 rd rs rt 25) t rd true (fun th => aluMulh (th.rg rs) (th.rg rt)) s)
def execMulhu (t : Tid) (rd rs rt : Reg) (s : State) : Outcome :=
  .next (regInsn (fmtA 0 rd rs rt 26) t rd true (fun th => aluMulhu (th.rg rs) (th.rg rt)) s)
def execAddw (t : Tid) (rd rs rt : Reg) (s : State) : Outcome :=
  .next (regInsn (fmtA 0 rd rs rt 40) t rd true (fun th => sextW (th.rg rs + th.rg rt)) s)
def execSubw (t : Tid) (rd rs rt : Reg) (s : State) : Outcome :=
  .next (regInsn (fmtA 0 rd rs rt 41) t rd true (fun th => sextW (th.rg rs - th.rg rt)) s)
def execClz (t : Tid) (rd rs rt : Reg) (s : State) : Outcome :=
  .next (regInsn (fmtA 0 rd rs rt 32) t rd (rt == 0) (fun th => w64 (clzN (th.rg rs) 64)) s)
def execCtz (t : Tid) (rd rs rt : Reg) (s : State) : Outcome :=
  .next (regInsn (fmtA 0 rd rs rt 33) t rd (rt == 0) (fun th => w64 (ctzN (th.rg rs) 0 64)) s)
def execPopc (t : Tid) (rd rs rt : Reg) (s : State) : Outcome :=
  .next (regInsn (fmtA 0 rd rs rt 34) t rd (rt == 0) (fun th => w64 (popN (th.rg rs) 64)) s)
def execBswap2 (t : Tid) (rd rs rt : Reg) (s : State) : Outcome :=
  .next (regInsn (fmtA 0 rd rs rt 36) t rd (rt == 0) (fun th => bswap 2 (th.rg rs)) s)
def execBswap4 (t : Tid) (rd rs rt : Reg) (s : State) : Outcome :=
  .next (regInsn (fmtA 0 rd rs rt 37) t rd (rt == 0) (fun th => bswap 4 (th.rg rs)) s)
def execBswap8 (t : Tid) (rd rs rt : Reg) (s : State) : Outcome :=
  .next (regInsn (fmtA 0 rd rs rt 38) t rd (rt == 0) (fun th => bswap 8 (th.rg rs)) s)

/-! ### Immediates (R207) -/

def execAddi (t : Tid) (rd rs : Reg) (imm : BitVec 16) (s : State) : Outcome :=
  .next (regInsn (fmtI 4 rd rs imm) t rd true (fun th => th.rg rs + immS imm) s)
def execAndi (t : Tid) (rd rs : Reg) (imm : BitVec 16) (s : State) : Outcome :=
  .next (regInsn (fmtI 5 rd rs imm) t rd true (fun th => th.rg rs &&& immZ imm) s)
def execOri (t : Tid) (rd rs : Reg) (imm : BitVec 16) (s : State) : Outcome :=
  .next (regInsn (fmtI 6 rd rs imm) t rd true (fun th => th.rg rs ||| immZ imm) s)
def execXori (t : Tid) (rd rs : Reg) (imm : BitVec 16) (s : State) : Outcome :=
  .next (regInsn (fmtI 7 rd rs imm) t rd true (fun th => th.rg rs ^^^ immZ imm) s)
def execSlti (t : Tid) (rd rs : Reg) (imm : BitVec 16) (s : State) : Outcome :=
  .next (regInsn (fmtI 8 rd rs imm) t rd true (fun th => aluSlt (th.rg rs) (immS imm)) s)
def execSltiu (t : Tid) (rd rs : Reg) (imm : BitVec 16) (s : State) : Outcome :=
  .next (regInsn (fmtI 9 rd rs imm) t rd true (fun th => aluSltu (th.rg rs) (immS imm)) s)
def execLui (t : Tid) (rd rs : Reg) (imm : BitVec 16) (s : State) : Outcome :=
  .next (regInsn (fmtI 10 rd rs imm) t rd (rs == 0) (fun _ => immZ imm <<< 16) s)
def execSlli (t : Tid) (rd rs : Reg) (imm : BitVec 16) (s : State) : Outcome :=
  .next (regInsn (fmtI 11 rd rs imm) t rd (decide (imm.toNat < 64)) (fun th => aluSll (th.rg rs) (immZ imm)) s)
def execSrli (t : Tid) (rd rs : Reg) (imm : BitVec 16) (s : State) : Outcome :=
  .next (regInsn (fmtI 12 rd rs imm) t rd (decide (imm.toNat < 64)) (fun th => aluSrl (th.rg rs) (immZ imm)) s)
def execSrai (t : Tid) (rd rs : Reg) (imm : BitVec 16) (s : State) : Outcome :=
  .next (regInsn (fmtI 13 rd rs imm) t rd (decide (imm.toNat < 64)) (fun th => aluSra (th.rg rs) (immZ imm)) s)
def execOrih (t : Tid) (rd rs : Reg) (imm : BitVec 16) (s : State) : Outcome :=
  .next (regInsn (fmtI 14 rd rs imm) t rd true (fun th => th.rg rs ||| (immZ imm <<< 32)) s)

/-! ### Bit fields (R211) -/

def execBfxu (t : Tid) (rd rs : Reg) (pos len : BitVec 6) (s : State) : Outcome :=
  .next (regInsn (fmtF rd rs pos len 0) t rd (bfLegal pos len) (fun th => bfxu (th.rg rs) pos len) s)
def execBfxs (t : Tid) (rd rs : Reg) (pos len : BitVec 6) (s : State) : Outcome :=
  .next (regInsn (fmtF rd rs pos len 1) t rd (bfLegal pos len) (fun th => bfxs (th.rg rs) pos len) s)
def execBfi (t : Tid) (rd rs : Reg) (pos len : BitVec 6) (s : State) : Outcome :=
  .next (regInsn (fmtF rd rs pos len 2) t rd (bfLegal pos len) (fun th => bfi (th.rg rd) (th.rg rs) pos len) s)
def execBfc (t : Tid) (rd rs : Reg) (pos len : BitVec 6) (s : State) : Outcome :=
  .next (regInsn (fmtF rd rs pos len 3) t rd (bfLegal pos len) (fun th => bfc (th.rg rs) pos len) s)
def execBfd (t : Tid) (rd rs : Reg) (pos len : BitVec 6) (s : State) : Outcome :=
  .next (regInsn (fmtF rd rs pos len 4) t rd (bfLegal pos len) (fun th => bfd (th.rg rs) pos len) s)

end Sys2Proof.Machine
end

