-- ==== Sys2Proof/Machine/Float.lean ====
section
/-! DEFINITION. IEEE 754 binary64 arithmetic on bit patterns, rounded to nearest, ties to even: what the operator lanes
compute with (R281, R291, R301-R303). -/
namespace Sys2Proof.Machine
open Sys2Proof

/-- What a bit pattern stands for: a finite value is a signed integer times a power of two. -/
inductive FVal where
  | nan
  | inf (neg : Bool)
  | fin (neg : Bool) (m : Nat) (e : Int)

/-- The value of a pattern with `mb` fraction bits and `eb` exponent bits. -/
def fUnpack (mb eb : Nat) (v : Nat) : FVal :=
  let neg := v / 2 ^ (mb + eb) % 2 == 1
  let ex := v / 2 ^ mb % 2 ^ eb
  let fr := v % 2 ^ mb
  let bias := 2 ^ (eb - 1) - 1
  if ex = 2 ^ eb - 1 then (if fr = 0 then .inf neg else .nan)
  else if ex = 0 then .fin neg fr (1 - (bias : Int) - mb)
  else .fin neg (fr + 2 ^ mb) ((ex : Int) - bias - mb)

/-- The pattern of `m * 2^e`, with `sticky` for a remainder below it, rounded to nearest even. -/
def fRound (mb eb : Nat) (neg : Bool) (m : Nat) (e : Int) (sticky : Bool) : Nat :=
  let sign := b2n neg * 2 ^ (mb + eb)
  let bias := 2 ^ (eb - 1) - 1
  let emin : Int := 1 - (bias : Int) - mb
  if m = 0 then sign
  else
    let q : Int := max ((Nat.log2 m : Int) - mb + e) emin
    let sig :=
      if q ≤ e then m * 2 ^ (e - q).toNat
      else
        let sh := (q - e).toNat
        let t := m / 2 ^ sh
        let r := m % 2 ^ sh * 2 + b2n sticky
        if 2 ^ sh < r ∨ (r = 2 ^ sh ∧ t % 2 = 1) then t + 1 else t
    let packed := (q - emin).toNat * 2 ^ mb + sig
    sign + min packed ((2 ^ eb - 1) * 2 ^ mb)

/-- Binary64 and binary32. -/
def f64 (v : W64) : FVal := fUnpack 52 11 v.toNat
def f64Of (neg : Bool) (m : Nat) (e : Int) (sticky : Bool) : W64 := w64 (fRound 52 11 neg m e sticky)
/-- Infinity with a sign. -/
def fInf (neg : Bool) : W64 := if neg then 0xFFF0000000000000 else 0x7FF0000000000000
/-- A quiet NaN, its sign and payload a free value. -/
def fNan (a b : W64) : W64 := Config.nan a b ||| 0x7FF8000000000000
def fIsNan (v : W64) : Bool := match f64 v with
  | .nan => true
  | _ => false
/-- The value is finite (R301). -/
def fFinite (v : W64) : Bool := fld v 62 52 != 0x7FF

/-- A signed integer as a FLOAT64 (R301). -/
def fOfInt (i : Int) : W64 := f64Of (decide (i < 0)) i.natAbs 0 false
/-- An INT64 as a FLOAT64 (R301). -/
def fOfI64 (v : W64) : W64 := fOfInt v.toInt
/-- A float32 as a FLOAT64, exactly; a NaN stays one (R291). -/
def fOfF32 (v : Nat) : W64 := match fUnpack 23 8 v with
  | .nan => fNan (w64 v) 0
  | .inf n => fInf n
  | .fin n m e => f64Of n m e false
/-- A FLOAT64 rounded to a float32 (R291). -/
def f32Of (v : W64) : Nat := match f64 v with
  | .nan => (fNan v 0).toNat / 2 ^ 63 * 2 ^ 31 + 0x7FC00000
  | .inf n => b2n n * 2 ^ 31 + 0x7F800000
  | .fin n m e => fRound 23 8 n m e false

/-- Two finite values as integers over one power of two. -/
def fAlign (n1 : Bool) (m1 : Nat) (e1 : Int) (n2 : Bool) (m2 : Nat) (e2 : Int) : Int × Int × Int :=
  let e := min e1 e2
  let a : Int := m1 * 2 ^ (e1 - e).toNat
  let b : Int := m2 * 2 ^ (e2 - e).toNat
  (if n1 then -a else a, if n2 then -b else b, e)

/-- Negation. -/
def fNeg (v : W64) : W64 := v ^^^ 0x8000000000000000
/-- Absolute value. -/
def fAbs (v : W64) : W64 := v &&& 0x7FFFFFFFFFFFFFFF
/-- Sum. -/
def fAdd (a b : W64) : W64 := match f64 a, f64 b with
  | .nan, _ => fNan a b
  | _, .nan => fNan a b
  | .inf n, .inf k => if n = k then fInf n else fNan a b
  | .inf n, _ => fInf n
  | _, .inf n => fInf n
  | .fin n1 m1 e1, .fin n2 m2 e2 =>
    let (x, y, e) := fAlign n1 m1 e1 n2 m2 e2
    let r := x + y
    if r = 0 then (if n1 && n2 then 0x8000000000000000 else 0) else f64Of (decide (r < 0)) r.natAbs e false
/-- Difference. -/
def fSub (a b : W64) : W64 := fAdd a (fNeg b)
/-- Product. -/
def fMul (a b : W64) : W64 := match f64 a, f64 b with
  | .nan, _ => fNan a b
  | _, .nan => fNan a b
  | .inf n, .inf k => fInf (n != k)
  | .inf n, .fin k m _ => if m = 0 then fNan a b else fInf (n != k)
  | .fin k m _, .inf n => if m = 0 then fNan a b else fInf (n != k)
  | .fin n1 m1 e1, .fin n2 m2 e2 => f64Of (n1 != n2) (m1 * m2) (e1 + e2) false
/-- Quotient. -/
def fDiv (a b : W64) : W64 := match f64 a, f64 b with
  | .nan, _ => fNan a b
  | _, .nan => fNan a b
  | .inf _, .inf _ => fNan a b
  | .inf n, .fin k _ _ => fInf (n != k)
  | .fin n _ _, .inf k => w64 (b2n (n != k) * 2 ^ 63)
  | .fin n1 m1 e1, .fin n2 m2 e2 =>
    if m2 = 0 then (if m1 = 0 then fNan a b else fInf (n1 != n2))
    else f64Of (n1 != n2) (m1 * 2 ^ 120 / m2) (e1 - e2 - 120) (m1 * 2 ^ 120 % m2 != 0)
/-- Less than: false for a NaN. -/
def fLt (a b : W64) : Bool := match f64 a, f64 b with
  | .nan, _ => false
  | _, .nan => false
  | .inf n, .inf k => n && !k
  | .inf n, _ => n
  | _, .inf n => !n
  | .fin n1 m1 e1, .fin n2 m2 e2 =>
    let (x, y, _) := fAlign n1 m1 e1 n2 m2 e2
    decide (x < y)
/-- At most: false for a NaN. -/
def fLe (a b : W64) : Bool := !fIsNan a && !fIsNan b && !fLt b a
/-- A FLOAT64 that is a whole number. -/
def fToInt? (v : W64) : Option Int := match f64 v with
  | .fin n m e =>
    let i? := if 0 ≤ e then some (m * 2 ^ e.toNat) else
      if m % 2 ^ (-e).toNat = 0 then some (m / 2 ^ (-e).toNat) else none
    i?.map (fun (i : Nat) => if n then -(i : Int) else i)
  | _ => none

end Sys2Proof.Machine
end

