-- ==== Sys2Proof/Machine/Cipher.lean ====
section
/-! DEFINITION. The ciphers and digests that the spec names: AES-GCM and AES-CMAC (R242, R243), SHA-256 (R242), SHA-384
and ECDSA over P-384 (the image signature and the certificates of the security chapter), AES keyed by 128 or 256 bits. -/
namespace Sys2Proof.Machine
open Sys2Proof

/-! ### AES -/

/-- Product in GF(2^8) modulo x^8 + x^4 + x^3 + x + 1, over `n` bits of the second factor. -/
def gfMul : Nat → Byte → Byte → Byte
  | 0, _, _ => 0
  | n + 1, a, b =>
    (if b.getLsbD 0 then a else 0) ^^^ gfMul n (if a.getLsbD 7 then (a <<< 1) ^^^ 0x1B else a <<< 1) (b >>> 1)
/-- x^(2 + 4 + ... ) with `n` factors, from x. -/
def gfInvAux : Nat → Byte → Byte
  | 0, _ => 1
  | n + 1, x => let q := gfMul 8 x x; gfMul 8 q (gfInvAux n q)
/-- The S-box. -/
def sbox (x : Byte) : Byte :=
  let b := gfInvAux 7 x
  b ^^^ b.rotateLeft 1 ^^^ b.rotateLeft 2 ^^^ b.rotateLeft 3 ^^^ b.rotateLeft 4 ^^^ 0x63

def xorBytes (a b : Bytes) : Bytes := List.zipWith (· ^^^ ·) a b

/-- Key schedule: the words made so far (newest first), the index of the next, words still to make. -/
def keySchedule (nk : Nat) : Nat → Nat → Byte → List Bytes → List Bytes
  | 0, _, _, ws => ws.reverse
  | f + 1, i, rcon, ws =>
    let last := ws.headD []
    let t := if i % nk = 0 then
        (match (last.drop 1 ++ last.take 1).map sbox with
         | a :: r => (a ^^^ rcon) :: r
         | [] => [])
      else if nk = 8 ∧ i % nk = 4 then last.map sbox else last
    keySchedule nk f (i + 1) (if i % nk = 0 then gfMul 8 rcon 2 else rcon) (xorBytes (ws.getD (nk - 1) []) t :: ws)

/-- The round keys, 16 bytes each. -/
def roundKeys (key : Bytes) : List Bytes :=
  let nk := key.length / 4
  let ws := keySchedule nk (4 * (nk + 7) - nk) nk 1 ((rangeFrom 0 nk).map (fun i => slice key (4 * i) 4)).reverse
  (rangeFrom 0 (nk + 7)).map (fun r => ((ws.drop (4 * r)).take 4).flatten)

def shiftRows (s : Bytes) : Bytes :=
  (rangeFrom 0 16).map (fun i => s.getD (i % 4 + 4 * ((i / 4 + i % 4) % 4)) 0)
def mixColumn (c : Bytes) : Bytes :=
  (rangeFrom 0 4).map (fun r =>
    gfMul 8 (c.getD r 0) 2 ^^^ gfMul 8 (c.getD ((r + 1) % 4) 0) 3 ^^^ c.getD ((r + 2) % 4) 0 ^^^ c.getD ((r + 3) % 4) 0)
def mixColumns (s : Bytes) : Bytes := (rangeFrom 0 4).flatMap (fun c => mixColumn (slice s (4 * c) 4))

def aesRounds : List Bytes → Bytes → Bytes
  | [], s => s
  | [k], s => xorBytes (shiftRows (s.map sbox)) k
  | k :: r, s => aesRounds r (xorBytes (mixColumns (shiftRows (s.map sbox))) k)
/-- One block under round keys. -/
def aesBlock (rk : List Bytes) (b : Bytes) : Bytes := aesRounds (rk.drop 1) (xorBytes b (rk.headD []))

/-! ### GCM -/

/-- Product of blocks in GF(2^128) with GCM's bit order, over the bits of the first factor from the most significant. -/
def gcmMulAux : Nat → Nat → W128 → W128 → W128
  | 0, _, _, z => z
  | n + 1, x, v, z =>
    gcmMulAux n x (if v.getLsbD 0 then (v >>> 1) ^^^ (0xE1#128 <<< 120) else v >>> 1) (if x / 2 ^ n % 2 = 1 then z ^^^ v else z)
def gcmMul (x y : W128) : W128 := gcmMulAux 128 x.toNat y 0
def ofBlock (b : Bytes) : W128 := BitVec.ofNat 128 (beNat (slice b 0 16))
def toBlock (x : W128) : Bytes := beBytes 16 x.toNat
def ghash (h : W128) (blocks : List Bytes) : W128 := blocks.foldl (fun y b => gcmMul (y ^^^ ofBlock b) h) 0
/-- The counter-mode key stream applied: block counter in the last 32 bits. -/
def gctr (rk : List Bytes) (iv : Bytes) : Nat → List Bytes → Bytes
  | _, [] => []
  | c, b :: r => xorBytes b (aesBlock rk (iv ++ beBytes 4 c)) ++ gctr rk iv (c + 1) r
def blocksOf (b : Bytes) : List Bytes := chunks 16 (b.length / 16 + 1) b
/-- The GCM tag of associated data and ciphertext under a 12-byte IV. -/
def gcmTag (rk : List Bytes) (iv aad c : Bytes) : Bytes :=
  let h := ofBlock (aesBlock rk (List.replicate 16 0))
  let s := ghash h (blocksOf aad ++ blocksOf c ++ [beBytes 8 (8 * aad.length) ++ beBytes 8 (8 * c.length)])
  xorBytes (toBlock s) (aesBlock rk (iv ++ beBytes 4 1))
def gcmCrypt (rk : List Bytes) (iv b : Bytes) : Bytes := gctr rk iv 2 (blocksOf b)

/-! ### CMAC -/

def cmacDouble (x : W128) : W128 := if x.getLsbD 127 then (x <<< 1) ^^^ 0x87 else x <<< 1
def cmacRun (rk : List Bytes) (k1 k2 : Bytes) : Bytes → List Bytes → Bytes
  | y, [] => aesBlock rk (xorBytes y (xorBytes (0x80 :: List.replicate 15 0) k2))
  | y, [b] =>
    if b.length = 16 then aesBlock rk (xorBytes y (xorBytes b k1))
    else aesBlock rk (xorBytes y (xorBytes (slice (b ++ [0x80]) 0 16) k2))
  | y, b :: r => cmacRun rk k1 k2 (aesBlock rk (xorBytes y b)) r
/-- AES-CMAC of a message. -/
def cmac (rk : List Bytes) (m : Bytes) : Bytes :=
  let l := ofBlock (aesBlock rk (List.replicate 16 0))
  let k1 := cmacDouble l
  cmacRun rk (toBlock k1) (toBlock (cmacDouble k1)) (List.replicate 16 0) (blocksOf m)

/-! ### SHA-256 and SHA-384 -/

def k256x0 : List Word :=
  [0x428A2F98, 0x71374491, 0xB5C0FBCF, 0xE9B5DBA5, 0x3956C25B, 0x59F111F1, 0x923F82A4, 0xAB1C5ED5,
   0xD807AA98, 0x12835B01, 0x243185BE, 0x550C7DC3, 0x72BE5D74, 0x80DEB1FE, 0x9BDC06A7, 0xC19BF174]
def k256x1 : List Word :=
  [0xE49B69C1, 0xEFBE4786, 0x0FC19DC6, 0x240CA1CC, 0x2DE92C6F, 0x4A7484AA, 0x5CB0A9DC, 0x76F988DA,
   0x983E5152, 0xA831C66D, 0xB00327C8, 0xBF597FC7, 0xC6E00BF3, 0xD5A79147, 0x06CA6351, 0x14292967]
def k256x2 : List Word :=
  [0x27B70A85, 0x2E1B2138, 0x4D2C6DFC, 0x53380D13, 0x650A7354, 0x766A0ABB, 0x81C2C92E, 0x92722C85,
   0xA2BFE8A1, 0xA81A664B, 0xC24B8B70, 0xC76C51A3, 0xD192E819, 0xD6990624, 0xF40E3585, 0x106AA070]
def k256x3 : List Word :=
  [0x19A4C116, 0x1E376C08, 0x2748774C, 0x34B0BCB5, 0x391C0CB3, 0x4ED8AA4A, 0x5B9CCA4F, 0x682E6FF3,
   0x748F82EE, 0x78A5636F, 0x84C87814, 0x8CC70208, 0x90BEFFFA, 0xA4506CEB, 0xBEF9A3F7, 0xC67178F2]
def k256x : List Word := k256x0 ++ k256x1 ++ k256x2 ++ k256x3
def k512x0 : List W64 :=
  [0x428A2F98D728AE22, 0x7137449123EF65CD, 0xB5C0FBCFEC4D3B2F, 0xE9B5DBA58189DBBC,
   0x3956C25BF348B538, 0x59F111F1B605D019, 0x923F82A4AF194F9B, 0xAB1C5ED5DA6D8118,
   0xD807AA98A3030242, 0x12835B0145706FBE, 0x243185BE4EE4B28C, 0x550C7DC3D5FFB4E2,
   0x72BE5D74F27B896F, 0x80DEB1FE3B1696B1, 0x9BDC06A725C71235, 0xC19BF174CF692694]
def k512x1 : List W64 :=
  [0xE49B69C19EF14AD2, 0xEFBE4786384F25E3, 0x0FC19DC68B8CD5B5, 0x240CA1CC77AC9C65,
   0x2DE92C6F592B0275, 0x4A7484AA6EA6E483, 0x5CB0A9DCBD41FBD4, 0x76F988DA831153B5,
   0x983E5152EE66DFAB, 0xA831C66D2DB43210, 0xB00327C898FB213F, 0xBF597FC7BEEF0EE4,
   0xC6E00BF33DA88FC2, 0xD5A79147930AA725, 0x06CA6351E003826F, 0x142929670A0E6E70]
def k512x2 : List W64 :=
  [0x27B70A8546D22FFC, 0x2E1B21385C26C926, 0x4D2C6DFC5AC42AED, 0x53380D139D95B3DF,
   0x650A73548BAF63DE, 0x766A0ABB3C77B2A8, 0x81C2C92E47EDAEE6, 0x92722C851482353B,
   0xA2BFE8A14CF10364, 0xA81A664BBC423001, 0xC24B8B70D0F89791, 0xC76C51A30654BE30,
   0xD192E819D6EF5218, 0xD69906245565A910, 0xF40E35855771202A, 0x106AA07032BBD1B8]
def k512x3 : List W64 :=
  [0x19A4C116B8D2D0C8, 0x1E376C085141AB53, 0x2748774CDF8EEB99, 0x34B0BCB5E19B48A8,
   0x391C0CB3C5C95A63, 0x4ED8AA4AE3418ACB, 0x5B9CCA4F7763E373, 0x682E6FF3D6B2B8A3,
   0x748F82EE5DEFB2FC, 0x78A5636F43172F60, 0x84C87814A1F0AB72, 0x8CC702081A6439EC,
   0x90BEFFFA23631E28, 0xA4506CEBDE82BDE9, 0xBEF9A3F7B2C67915, 0xC67178F2E372532B]
def k512x4 : List W64 :=
  [0xCA273ECEEA26619C, 0xD186B8C721C0C207, 0xEADA7DD6CDE0EB1E, 0xF57D4F7FEE6ED178,
   0x06F067AA72176FBA, 0x0A637DC5A2C898A6, 0x113F9804BEF90DAE, 0x1B710B35131C471B,
   0x28DB77F523047D84, 0x32CAAB7B40C72493, 0x3C9EBE0A15C9BEBC, 0x431D67C49C100D4C,
   0x4CC5D4BECB3E42B6, 0x597F299CFC657E2A, 0x5FCB6FAB3AD6FAEC, 0x6C44198C4A475817]
def k512x : List W64 := k512x0 ++ k512x1 ++ k512x2 ++ k512x3 ++ k512x4

/-- Padding to blocks of `n` bytes with a length field of `l` bytes. -/
def shaPad (n l : Nat) (m : Bytes) : Bytes :=
  let k := m.length + 1 + l
  m ++ [0x80] ++ List.replicate ((n - k % n) % n) 0 ++ beBytes l (8 * m.length)

/-- The message schedule, newest word first. -/
def schedule (s0 s1 : BitVec w → BitVec w) : Nat → List (BitVec w) → List (BitVec w)
  | 0, ws => ws
  | n + 1, ws => schedule s0 s1 n
      ((s1 (ws.getD 1 0) + ws.getD 6 0 + s0 (ws.getD 14 0) + ws.getD 15 0) :: ws)

/-- One round on the eight working words. -/
def shaRound (e0 e1 : BitVec w → BitVec w) (v : List (BitVec w)) (kw : BitVec w) : List (BitVec w) :=
  match v with
  | [a, b, c, d, e, f, g, h] =>
    let t1 := h + e1 e + ((e &&& f) ^^^ (~~~e &&& g)) + kw
    let t2 := e0 a + ((a &&& b) ^^^ (a &&& c) ^^^ (b &&& c))
    [t1 + t2, a, b, c, d + t1, e, f, g]
  | v => v

def shaBlock (e0 e1 s0 s1 : BitVec w → BitVec w) (ks : List (BitVec w)) (h : List (BitVec w)) (b : Bytes) :
    List (BitVec w) :=
  let m := (chunks (w / 8) 16 b).map (fun x => BitVec.ofNat w (beNat x))
  let ws := (schedule s0 s1 (ks.length - 16) m.reverse).reverse
  List.zipWith (· + ·) h ((List.zipWith (· + ·) ks ws).foldl (shaRound e0 e1) h)

/-- SHA-256. -/
def sha256 (m : Bytes) : Bytes :=
  let p := shaPad 64 8 m
  let h := (chunks 64 (p.length / 64) p).foldl
    (shaBlock (fun x => x.rotateRight 2 ^^^ x.rotateRight 13 ^^^ x.rotateRight 22)
      (fun x => x.rotateRight 6 ^^^ x.rotateRight 11 ^^^ x.rotateRight 25)
      (fun x => x.rotateRight 7 ^^^ x.rotateRight 18 ^^^ x >>> 3)
      (fun x => x.rotateRight 17 ^^^ x.rotateRight 19 ^^^ x >>> 10) k256x)
    [0x6A09E667, 0xBB67AE85, 0x3C6EF372, 0xA54FF53A, 0x510E527F, 0x9B05688C, 0x1F83D9AB, 0x5BE0CD19]
  h.flatMap (fun x => beBytes 4 x.toNat)

/-- SHA-384. -/
def sha384 (m : Bytes) : Bytes :=
  let p := shaPad 128 16 m
  let h := (chunks 128 (p.length / 128) p).foldl
    (shaBlock (fun x => x.rotateRight 28 ^^^ x.rotateRight 34 ^^^ x.rotateRight 39)
      (fun x => x.rotateRight 14 ^^^ x.rotateRight 18 ^^^ x.rotateRight 41)
      (fun x => x.rotateRight 1 ^^^ x.rotateRight 8 ^^^ x >>> 7)
      (fun x => x.rotateRight 19 ^^^ x.rotateRight 61 ^^^ x >>> 6) k512x)
    [0xCBBB9D5DC1059ED8,
  0x629A292A367CD507,
  0x9159015A3070DD17,
  0x152FECD8F70E5939,
  0x67332667FFC00B31,
  0x8EB44A8768581511,
  0xDB0C2E0D64F98FA7,
  0x47B5481DBEFA4FA4]
  (h.take 6).flatMap (fun x => beBytes 8 x.toNat)

/-! ### ECDSA over P-384 -/

def p384P : Nat := 0xfffffffffffffffffffffffffffffffffffffffffffffffffffffffffffffffeffffffff0000000000000000ffffffff
def p384N : Nat := 0xffffffffffffffffffffffffffffffffffffffffffffffffc7634d81f4372ddf581a0db248b0a77aecec196accc52973
def p384B : Nat := 0xb3312fa7e23ee7e4988e056be3f82d19181d9c6efe8141120314088f5013875ac656398d8a2ed19d2a85c8edd3ec2aef
def p384G : Nat × Nat := (0xaa87ca22be8b05378eb1c71ef320ad746e1d3b628ba79b9859f741e082542a385502f25dbf55296c3a545e3872760ab7, 0x3617de4a96262c6f5d9e98bf9292dc29f8f41dbd289a147ce9da3113b5f0b8c00a60b1ce1d7e819d7a431d7c90ea0e5f)

/-- `b ^ e` modulo `m`, over `f` bits of the exponent. -/
def powMod (m : Nat) : Nat → Nat → Nat → Nat
  | 0, _, _ => 1 % m
  | f + 1, b, e => let r := powMod m f (b * b % m) (e / 2); if e % 2 = 1 then r * b % m else r
def invMod (m a : Nat) : Nat := powMod m 384 (a % m) (m - 2)

/-- Sum of points in affine form, none the point at infinity. -/
def ecAdd : Option (Nat × Nat) → Option (Nat × Nat) → Option (Nat × Nat)
  | none, q => q
  | p, none => p
  | some (x1, y1), some (x2, y2) =>
    if x1 = x2 ∧ (y1 + y2) % p384P = 0 then none
    else
      let m := if x1 = x2 then (3 * x1 * x1 + (p384P - 3)) * invMod p384P (2 * y1) % p384P
        else (y2 + p384P - y1) * invMod p384P (x2 + p384P - x1) % p384P
      let x := (m * m + 2 * p384P - x1 - x2) % p384P
      some (x, (m * (x1 + p384P - x) + p384P - y1) % p384P)

def ecMul : Nat → Nat → Option (Nat × Nat) → Option (Nat × Nat)
  | 0, _, _ => none
  | f + 1, k, p => let r := ecMul f (k / 2) (ecAdd p p); if k % 2 = 1 then ecAdd r p else r

/-- The signature `r`, `s` over a SHA-384 digest verifies under the public key `x`, `y`, each 48 bytes, most significant
first. -/
def ecdsaVerify (key sig digest : Bytes) : Bool :=
  let x := beNat (slice key 0 48)
  let y := beNat (slice key 48 48)
  let r := beNat (slice sig 0 48)
  let sg := beNat (slice sig 48 48)
  let onCurve := decide (x < p384P) && decide (y < p384P) &&
    y * y % p384P == (x * x * x + (p384P - 3) * x + p384B) % p384P
  if !onCurve || r == 0 || sg == 0 || decide (p384N ≤ r) || decide (p384N ≤ sg) then false
  else
    let w := invMod p384N sg
    let z := beNat digest
    match ecAdd (ecMul 384 (z * w % p384N) (some p384G)) (ecMul 384 (r * w % p384N) (some (x, y))) with
    | some (px, _) => px % p384N == r
    | none => false

end Sys2Proof.Machine
end

