-- ==== Sys2Proof/Machine/Crc.lean ====
section
/-! DEFINITION. Cyclic redundancy checks: the CRC-32C of R53, the CRC-32 of the frame check sequence, CRCs of any width and
polynomial (R238), and the Toeplitz hash (R144). -/
namespace Sys2Proof.Machine
open Sys2Proof

/-- `n` steps of a reflected 32-bit CRC. -/
def crcBits (poly : Word) : Nat → Word → Word
  | 0, c => c
  | n + 1, c => crcBits poly n (if c.getLsbD 0 then (c >>> 1) ^^^ poly else c >>> 1)

/-- A reflected 32-bit CRC over bytes from an initial value, before the final XOR. -/
def crcRun (poly init : Word) (b : Bytes) : Word := b.foldl (fun c x => crcBits poly 8 (c ^^^ x.setWidth 32)) init

/-- CRC-32C with the parameters of R53. -/
def crc32c (b : Bytes) : Word := ~~~ crcRun 0x82F63B78 0xFFFFFFFF b
/-- CRC-32C from another initial value (R141). -/
def crc32cFrom (init : Word) (b : Bytes) : Word := ~~~ crcRun 0x82F63B78 init b
/-- CRC-32 of IEEE 802.3. -/
def crc32 (b : Bytes) : Word := ~~~ crcRun 0xEDB88320 0xFFFFFFFF b
/-- The frame check sequence of a frame's bytes before it, as its 4 bytes. -/
def fcsOf (b : Bytes) : Bytes := leBytes 4 (crc32 b).toNat
/-- The bits of a number in reverse order, over a width. -/
def reflect : Nat → Nat → Nat
  | 0, _ => 0
  | n + 1, v => v % 2 * 2 ^ n + reflect n (v / 2)

/-- `n` steps of an unreflected CRC of width `w`. -/
def crcNBits (w poly : Nat) : Nat → Nat → Nat
  | 0, c => c
  | n + 1, c =>
    let top := c / 2 ^ (w - 1) % 2
    let c' := c * 2 % 2 ^ w
    crcNBits w poly n (if top = 1 then (BitVec.ofNat 64 c' ^^^ BitVec.ofNat 64 (poly % 2 ^ w)).toNat else c')

/-- One byte fed to an unreflected CRC of width `w` (8 or more). -/
def crcNByte (w poly : Nat) (refin : Bool) (c : Nat) (b : Byte) : Nat :=
  let x := if refin then reflect 8 b.toNat else b.toNat
  crcNBits w poly 8 (BitVec.ofNat 64 c ^^^ BitVec.ofNat 64 (x * 2 ^ (w - 8))).toNat

/-- A CRC accumulator fed with bytes (R238). -/
def CrcAcc.feed (a : CrcAcc) (b : Bytes) : CrcAcc :=
  { a with value := w32 (b.foldl (crcNByte a.width a.poly.toNat a.refin) a.value.toNat) }

/-- The final value of an accumulator (R238). -/
def CrcAcc.final (a : CrcAcc) : Word :=
  let v := if a.refout then reflect a.width a.value.toNat else a.value.toNat
  w32 ((BitVec.ofNat 64 v ^^^ BitVec.ofNat 64 a.xor.toNat).toNat % 2 ^ a.width)

/-- A whole CRC of width `w`: polynomial, initial value, reflections, final XOR. -/
def crcN (w poly init : Nat) (refin refout : Bool) (xor : Nat) (b : Bytes) : Nat :=
  (CrcAcc.feed { value := w32 (init % 2 ^ w), alg := 0, width := w, poly := w32 poly, refin := refin, refout := refout
                 xor := w32 xor } b).final.toNat

/-- Toeplitz hash of 32-bit words under a key of 320 bits, bit 0 the most significant (R144). -/
def toeplitzBits (key : BitVec 320) : Nat → List Bool → Word
  | _, [] => 0
  | i, b :: r => (if b then w32 (key.toNat / 2 ^ (288 - i)) else 0) ^^^ toeplitzBits key (i + 1) r
/-- The bits of a word, most significant first. -/
def msbBits (w : Word) : List Bool := ((rangeFrom 0 32).map (fun i => w.getLsbD i)).reverse
def toeplitz (key : BitVec 320) (ws : List Word) : Word := toeplitzBits key 0 (ws.flatMap msbBits)

end Sys2Proof.Machine
end

