-- ==== Sys2Proof/WellFormed.lean ====
section
/-! DEFINITION. Which commands name units that the part has (R1, R6, R9-R11, R42). A meaning given an ill-formed command changes
nothing. -/
namespace Sys2Proof

/-- The requester exists; the loader is no sender of commands (R42, R75). -/
def reqOk (part : Part) : Requester → Bool
  | .core t => decide (t.toNat / 512 < Config.pistes part)
  | .loader => false
  | _ => true

/-- The piste is present. -/
def pisteOk (part : Part) (p : Nat) : Bool := decide (p < Config.pistes part)

/-- The thread exists: a packet-core thread of a present piste, or one of the eight Telemark threads (R9). -/
def tidOk (part : Part) (t : Tid) : Bool :=
  if t.toNat < 2048 then pisteOk part (t.toNat / 512) else decide (t.toNat < 2056)

/-- The logical port exists as a port of the lines, of management, of an instance, of the Telemark complex (R10). -/
def portOk (part : Part) (p : Port) : Bool :=
  let n := p.toNat
  decide (n < 8 * Config.fieldLanes part) || (decide (1024 ≤ n) && decide (n < 1024 + Config.trunkLanes part)) ||
    n == 1056 || n == 1057 || (decide (1088 ≤ n) && decide (n ≤ 1344))

/-- The lane exists: field lanes 0-127, trunk lanes 128-159, management lanes 160-161 (R11). -/
def laneOk (part : Part) (l : Lane) : Bool :=
  let n := l.toNat
  decide (n < Config.fieldLanes part) || (decide (128 ≤ n) && decide (n < 128 + Config.trunkLanes part)) ||
    n == 160 || n == 161

/-- The piste pair exists and has a cross-check unit (R11). -/
def pairOk (part : Part) (k : Nat) : Bool := decide (2 * k < Config.pistes part) && Config.hasSafe part

/-- The HBM stack exists. -/
def stackOk (part : Part) (k : Nat) : Bool := decide (k < Config.hbmStacks part)

/-- The command names present units only. -/
def Instr.wf (part : Part) : Instr → Bool
  | .powerApplied => true
  | .powerRemoved => true
  | .porstNAssert => true
  | .porstNRelease => true
  | .sysrstNAssert => true
  | .sysrstNRelease => true
  | .powerOnDetectorTrip _ => true
  | .pllLockLoss => true
  | .refClockLoss _ => true
  | .refClockReturn _ => true
  | .tamperEvent _ => true
  | .wipeDone _ _ => true
  | .zeroizeDone _ => true
  | .bootEntry => true
  | .hbmTrainingDone stack _ _ _ => stackOk part stack.toNat
  | .bootSelftestDone _ => true
  | .stagingRecheck => true
  | .slotHeaderRead => true
  | .imageStreamEnd _ => true
  | .recordWrite => true
  | .recordPayload => true
  | .recordGolden => true
  | .recordPoll => true
  | .pollTimeout => true
  | .recordEnd => true
  | .bootReady => true
  | .reqConfigure req _ => reqOk part req
  | .reqCommission req _ => reqOk part req
  | .reqOperate req _ => reqOk part req
  | .reqSafeOperate req _ => reqOk part req
  | .reqDegraded req _ => reqOk part req
  | .reqSafeState req _ => reqOk part req
  | .reqMaintenance req _ => reqOk part req
  | .reqZeroize req _ => reqOk part req
  | .warmRestart req _ => reqOk part req
  | .coldRestart req _ => reqOk part req
  | .modeTransition => true
  | .registerWrite req _ _ _ => reqOk part req
  | .reg64LowRead req _ _ => reqOk part req
  | .reg64LowWrite req _ _ _ => reqOk part req
  | .reg64HighWrite req _ _ _ => reqOk part req
  | .readClear req _ _ => reqOk part req
  | .timeNsRead req _ => reqOk part req
  | .softReset req _ => reqOk part req
  | .softResetDone _ => true
  | .errClr req _ => reqOk part req
  | .intStatusClear req _ _ => reqOk part req
  | .intForce req _ _ => reqOk part req
  | .memoryError _ _ _ _ _ => true
  | .cfgGoldenWrite req _ _ => reqOk part req
  | .cfgCheckPass _ => true
  | .cfgCompare => true
  | .goldenGraceExpiry _ => true
  | .flashRead req => reqOk part req
  | .flashProgram req => reqOk part req
  | .flashErase req => reqOk part req
  | .validate req _ => reqOk part req
  | .invalidate req _ => reqOk part req
  | .flashComplete _ => true
  | .linkUp port => portOk part port
  | .linkDown port _ => portOk part port
  | .anFail lane => laneOk part lane
  | .flLaneCfgWrite req lane _ => reqOk part req && decide (lane.toNat < Config.fieldLanes part)
  | .flFmxCfgWrite req lane _ => reqOk part req && decide (lane.toNat < Config.fieldLanes part)
  | .trLaneCfgWrite req lane _ => reqOk part req && decide (lane.toNat < Config.trunkLanes part)
  | .trGroupCfgWrite req _ _ => reqOk part req
  | .mgpCfgWrite req _ => reqOk part req
  | .fmxRoundTx lane => decide (lane.toNat < Config.fieldLanes part)
  | .fmxMarkerRx lane _ => decide (lane.toNat < Config.fieldLanes part)
  | .fmxSlotBlockRx lane _ _ _ => decide (lane.toNat < Config.fieldLanes part)
  | .frameArrival port _ => portOk part port
  | .fcsCheck _ _ => true
  | .parse _ => true
  | .classify _ => true
  | .liftAdmit piste => pisteOk part piste.toNat
  | .ruleWrite req => reqOk part req
  | .ruleRead req => reqOk part req
  | .ruleInvalidate req => reqOk part req
  | .flip req => reqOk part req
  | .clearHits req => reqOk part req
  | .classCfgWrite req _ => reqOk part req
  | .ruleScrub _ _ => true
  | .genDrainTimeout _ => true
  | .emInsert req => reqOk part req
  | .emDelete req => reqOk part req
  | .emFind req => reqOk part req
  | .emQuarantine req => reqOk part req
  | .emRelease req => reqOk part req
  | .indEntryWrite req _ _ => reqOk part req
  | .indCheckPass => true
  | .admitPkt _ => true
  | .spillReturn piste _ _ => pisteOk part piste.toNat
  | .bind piste _ => pisteOk part piste.toNat
  | .packetFirm t => tidOk part t
  | .gateRelease piste => pisteOk part piste.toNat
  | .gateTimeout _ => true
  | .snowploughExit piste _ => pisteOk part piste.toNat
  | .deadlockDeclaration piste => pisteOk part piste.toNat
  | .hangDeclaration piste => pisteOk part piste.toNat
  | .migrationRewrite pair => pairOk part pair.toNat
  | .migrationActivate pair => pairOk part pair.toNat
  | .threadTimerExpiry t => tidOk part t
  | .parkCompletion t _ => tidOk part t
  | .asyncCompletion t _ => tidOk part t
  | .mailboxDelivery t => tidOk part t
  | .mailboxPop t => tidOk part t
  | .icsWindowWrite req _ _ _ => reqOk part req
  | .icsCheckPass _ => true
  | .contextWindowWrite req _ _ _ => reqOk part req
  | .threadResume req piste => reqOk part req && pisteOk part piste.toNat
  | .threadRestart req piste => reqOk part req && pisteOk part piste.toNat
  | .threadReset req piste => reqOk part req && pisteOk part piste.toNat
  | .pstFaultPop req piste => reqOk part req && pisteOk part piste.toNat
  | .telFaultPop req => reqOk part req
  | .gateRecPop req piste => reqOk part req && pisteOk part piste.toNat
  | .add t _ _ _ => tidOk part t
  | .sub t _ _ _ => tidOk part t
  | .and t _ _ _ => tidOk part t
  | .or t _ _ _ => tidOk part t
  | .xor t _ _ _ => tidOk part t
  | .andn t _ _ _ => tidOk part t
  | .sll t _ _ _ => tidOk part t
  | .srl t _ _ _ => tidOk part t
  | .sra t _ _ _ => tidOk part t
  | .rotr t _ _ _ => tidOk part t
  | .slt t _ _ _ => tidOk part t
  | .sltu t _ _ _ => tidOk part t
  | .min t _ _ _ => tidOk part t
  | .max t _ _ _ => tidOk part t
  | .minu t _ _ _ => tidOk part t
  | .maxu t _ _ _ => tidOk part t
  | .mul t _ _ _ => tidOk part t
  | .mulh t _ _ _ => tidOk part t
  | .mulhu t _ _ _ => tidOk part t
  | .clz t _ _ _ => tidOk part t
  | .ctz t _ _ _ => tidOk part t
  | .popc t _ _ _ => tidOk part t
  | .bswap2 t _ _ _ => tidOk part t
  | .bswap4 t _ _ _ => tidOk part t
  | .bswap8 t _ _ _ => tidOk part t
  | .addw t _ _ _ => tidOk part t
  | .subw t _ _ _ => tidOk part t
  | .addi t _ _ _ => tidOk part t
  | .andi t _ _ _ => tidOk part t
  | .ori t _ _ _ => tidOk part t
  | .xori t _ _ _ => tidOk part t
  | .slti t _ _ _ => tidOk part t
  | .sltiu t _ _ _ => tidOk part t
  | .lui t _ _ _ => tidOk part t
  | .slli t _ _ _ => tidOk part t
  | .srli t _ _ _ => tidOk part t
  | .srai t _ _ _ => tidOk part t
  | .orih t _ _ _ => tidOk part t
  | .lb t _ _ _ => tidOk part t
  | .lbu t _ _ _ => tidOk part t
  | .lh t _ _ _ => tidOk part t
  | .lhu t _ _ _ => tidOk part t
  | .lw t _ _ _ => tidOk part t
  | .lwu t _ _ _ => tidOk part t
  | .ld t _ _ _ => tidOk part t
  | .lhs t _ _ _ => tidOk part t
  | .lws t _ _ _ => tidOk part t
  | .lds t _ _ _ => tidOk part t
  | .sb t _ _ _ => tidOk part t
  | .sh t _ _ _ => tidOk part t
  | .sw t _ _ _ => tidOk part t
  | .sd t _ _ _ => tidOk part t
  | .shs t _ _ _ => tidOk part t
  | .sws t _ _ _ => tidOk part t
  | .sds t _ _ _ => tidOk part t
  | .aaddW t _ _ _ => tidOk part t
  | .aaddD t _ _ _ => tidOk part t
  | .aswpW t _ _ _ => tidOk part t
  | .aswpD t _ _ _ => tidOk part t
  | .acasW t _ _ _ => tidOk part t
  | .acasD t _ _ _ => tidOk part t
  | .bfxu t _ _ _ _ => tidOk part t
  | .bfxs t _ _ _ _ => tidOk part t
  | .bfi t _ _ _ _ => tidOk part t
  | .bfc t _ _ _ _ => tidOk part t
  | .bfd t _ _ _ _ => tidOk part t
  | .beq t _ _ _ => tidOk part t
  | .bne t _ _ _ => tidOk part t
  | .blt t _ _ _ => tidOk part t
  | .bge t _ _ _ => tidOk part t
  | .bltu t _ _ _ => tidOk part t
  | .bgeu t _ _ _ => tidOk part t
  | .j t _ => tidOk part t
  | .jal t _ => tidOk part t
  | .jalr t _ _ _ => tidOk part t
  | .csrrd t _ _ _ => tidOk part t
  | .csrwr t _ _ _ => tidOk part t
  | .wait t _ _ _ => tidOk part t
  | .yield t _ _ _ => tidOk part t
  | .fence t _ _ _ => tidOk part t
  | .tstart t _ _ _ => tidOk part t
  | .tstop t _ _ _ => tidOk part t
  | .commit t _ _ _ => tidOk part t
  | .send t _ _ _ => tidOk part t
  | .cpsave t _ _ _ => tidOk part t
  | .cprestore t _ _ _ => tidOk part t
  | .stage t _ _ _ => tidOk part t
  | .trap t _ _ _ => tidOk part t
  | .coprocGet t _ _ _ _ _ => tidOk part t
  | .pktBufw t _ _ _ _ => tidOk part t
  | .pktOvr t _ _ _ _ => tidOk part t
  | .pktIns t _ _ _ _ => tidOk part t
  | .pktDel t _ _ _ _ => tidOk part t
  | .pktPush t _ _ _ _ => tidOk part t
  | .pktPop t _ _ _ _ => tidOk part t
  | .pktRd t _ _ _ _ => tidOk part t
  | .pktLen t _ _ _ _ => tidOk part t
  | .pktUndo t _ _ _ _ => tidOk part t
  | .crcInit t _ _ _ _ => tidOk part t
  | .crcUpd t _ _ _ _ => tidOk part t
  | .crcPrange t _ _ _ _ => tidOk part t
  | .crcFin t _ _ _ _ => tidOk part t
  | .crcCset t _ _ _ _ => tidOk part t
  | .crcCadd t _ _ _ _ => tidOk part t
  | .crcCrange t _ _ _ _ => tidOk part t
  | .crcCfin t _ _ _ _ => tidOk part t
  | .crcCinc t _ _ _ _ => tidOk part t
  | .lkpKeyw t _ _ _ _ => tidOk part t
  | .lkpFfind t _ _ _ _ => tidOk part t
  | .lkpFins t _ _ _ _ => tidOk part t
  | .lkpFdel t _ _ _ _ => tidOk part t
  | .lkpHfind t _ _ _ _ => tidOk part t
  | .lkpHins t _ _ _ _ => tidOk part t
  | .lkpHdel t _ _ _ _ => tidOk part t
  | .lkpRfind t _ _ _ _ => tidOk part t
  | .crySetp t _ _ _ _ => tidOk part t
  | .cryGcm t _ _ _ _ => tidOk part t
  | .cryCmac t _ _ _ _ => tidOk part t
  | .crySha t _ _ _ _ => tidOk part t
  | .cryPoll t _ _ _ _ => tidOk part t
  | .cryKload t _ _ _ _ => tidOk part t
  | .cryKzero t _ _ _ _ => tidOk part t
  | .sigRdin t _ _ _ _ => tidOk part t
  | .sigSetq t _ _ _ _ => tidOk part t
  | .sigWrout t _ _ _ _ => tidOk part t
  | .sigDone t _ _ _ _ => tidOk part t
  | .sigInfo t _ _ _ _ => tidOk part t
  | .timNow t _ _ _ _ => tidOk part t
  | .timArr t _ _ _ _ => tidOk part t
  | .timSched t _ _ _ _ => tidOk part t
  | .timTxts t _ _ _ _ => tidOk part t
  | .timCorr t _ _ _ _ => tidOk part t
  | .cycleStart piste _ => pisteOk part piste.toNat
  | .deadline piste _ => pisteOk part piste.toNat
  | .deadlineMarker piste _ => pisteOk part piste.toNat
  | .nodeFire piste _ => pisteOk part piste.toNat
  | .unpack piste => pisteOk part piste.toNat
  | .pack piste _ => pisteOk part piste.toNat
  | .seal piste _ => pisteOk part piste.toNat
  | .xchkCompare pair _ _ => pairOk part pair.toNat
  | .xchkMissing pair _ _ => pairOk part pair.toNat
  | .xchkSealCompare pair _ => pairOk part pair.toNat
  | .holdTimeout piste _ => pisteOk part piste.toNat
  | .load req piste => reqOk part req && pisteOk part piste.toNat
  | .unload req piste => reqOk part req && pisteOk part piste.toNat
  | .swap req piste => reqOk part req && pisteOk part piste.toNat
  | .force req piste => reqOk part req && pisteOk part piste.toNat
  | .unforce req piste => reqOk part req && pisteOk part piste.toNat
  | .sigeTblPass piste => pisteOk part piste.toNat
  | .xchkClear req pair => reqOk part req && pairOk part pair.toNat
  | .cellRequest _ _ => true
  | .chainFree _ _ => true
  | .bpmAlloc req => reqOk part req
  | .bpmFree req => reqOk part req
  | .bpmReclaim req => reqOk part req
  | .dynAlloc req _ => reqOk part req
  | .dynFree req _ => reqOk part req
  | .scratchpadScrub _ _ _ _ => true
  | .acquire t _ _ => tidOk part t
  | .acquireArm t _ _ => tidOk part t
  | .semaRelease t _ _ => tidOk part t
  | .semaState t _ _ => tidOk part t
  | .semaCmdAcquire req => reqOk part req
  | .semaCmdRelease req => reqOk part req
  | .semaReclaim req => reqOk part req
  | .retire req => reqOk part req
  | .semaCmdState req => reqOk part req
  | .semaCapWrite req _ _ => reqOk part req
  | .semaOrphPop req => reqOk part req
  | .hbmRequest _ _ _ _ => true
  | .hbmRequestComplete _ _ => true
  | .requestLate _ => true
  | .refreshDue _ => true
  | .refreshViolation _ => true
  | .hbmTempRead stack _ => stackOk part stack.toNat
  | .hbmTempFault stack => stackOk part stack.toNat
  | .hbmScrubPass _ _ => true
  | .flowFillComplete _ _ => true
  | .quarantineScan _ => true
  | .hbmFence req => reqOk part req
  | .writeContext req => reqOk part req
  | .readContext req => reqOk part req
  | .hbmQuarPop req => reqOk part req
  | .hbmFlowBaseWrite req _ => reqOk part req
  | .tmAdmit => true
  | .txStart port => portOk part port
  | .txComplete port => portOk part port
  | .telDelivery _ => true
  | .gclEntryEnd port => portOk part port
  | .configChange req => reqOk part req
  | .gclChangeTime port => portOk part port
  | .verifyResult port _ => portOk part port
  | .recoveryReset _ => true
  | .streamEntryWrite req _ _ _ => reqOk part req
  | .tmTblPass => true
  | .tsPop req piste => reqOk part req && pisteOk part piste.toNat
  | .set req => reqOk part req
  | .timeStep req => reqOk part req
  | .setAtPps req => reqOk part req
  | .timeAdjWrite req _ => reqOk part req
  | .ppsInEdge => true
  | .ppsOutRise => true
  | .ppsOutFall => true
  | .txDb _ _ _ => true
  | .rxDb _ _ _ => true
  | .evtDb _ => true
  | .descriptorFetch _ _ _ => true
  | .txRetry _ _ => true
  | .hostReadCompletion _ _ _ _ => true
  | .rxDelivery _ _ _ => true
  | .msixMessage _ _ => true
  | .instEnable req _ _ => reqOk part req
  | .instShareWrite req _ _ => reqOk part req
  | .instReset req _ => reqOk part req
  | .instDrainTimeout _ => true
  | .instResetComplete _ => true
  | .apply req => reqOk part req
  | .reject req => reqOk part req
  | .sync req => reqOk part req
  | .dirtyRestart req => reqOk part req
  | .toHbm req _ => reqOk part req
  | .fromHbm req => reqOk part req
  | .pcieLinkDown => true
  | .pcieLinkUp => true
  | .functionLevelReset => true
  | .safetyRecord => true
  | .scCompare _ => true
  | .clockWindow _ _ => true
  | .voltageDeparture _ _ => true
  | .dieTempRead _ _ => true
  | .xchkSelfcheck pair _ => pairOk part pair.toNat
  | .pstWdKick req piste _ => reqOk part req && pisteOk part piste.toNat
  | .safeWdKickTel req _ _ => reqOk part req
  | .watchdogExpiry _ => true
  | .safeInSample _ _ => true
  | .safeInDisc => true
  | .thermtrip => true
  | .pennantEdge => true
  | .stSlotStart piste => pisteOk part piste.toNat
  | .stCoreOffline piste => pisteOk part piste.toNat
  | .stTestDone piste _ _ => pisteOk part piste.toNat
  | .stIdleTimeout piste => pisteOk part piste.toNat
  | .injTokenFlip req => reqOk part req
  | .injTokenWithhold req => reqOk part req
  | .injLockstep req => reqOk part req
  | .injClock req => reqOk part req
  | .injRail req => reqOk part req
  | .injWatchdog req => reqOk part req
  | .injScState req => reqOk part req
  | .injXchkSelf req => reqOk part req
  | .safeRecPop req => reqOk part req
  | .keyProg req => reqOk part req
  | .keyRevoke req => reqOk part req
  | .provision req => reqOk part req
  | .toField req => reqOk part req
  | .nonce req => reqOk part req
  | .toReturn req => reqOk part req
  | .scrap req => reqOk part req
  | .debugUnlock req => reqOk part req
  | .logRdWrite req _ => reqOk part req
  | .append req => reqOk part req
  | .buntingSample => true
  | .histRead req => reqOk part req
  | .smbusBlockWrite _ _ _ => true
  | .smbusBlockRead => true
  | .halt req => reqOk part req
  | .dbgResume req => reqOk part req
  | .step req => reqOk part req
  | .stepTimeout t => tidOk part t
  | .abandon req => reqOk part req
  | .traceStart req => reqOk part req
  | .traceStop req => reqOk part req
  | .tapReset => true
  | .idcode => true
  | .bypass => true
  | .samplePreload _ => true
  | .extest => true
  | .clamp => true
  | .highz => true
  | .powerOnDetectorRelease _ => true
  | .completionTimeout _ => true
  | .fuseProgrammingDone => true
  | .bitmapRebuild _ _ => true
  | .deadlineMarkerTimeout piste _ => pisteOk part piste.toNat

end Sys2Proof
end

