-- ==== Sys2Proof/Machine/Pages.lean ====
section
/-! DEFINITION. What every page of the register window shares: rights, refusals, the lock, the configuration check, the
common header, and command interfaces (R40-R62, R72-R75). -/
namespace Sys2Proof.Machine
open Sys2Proof

/-- What a register's own rules answer a write: refused with a code, or carried out. -/
inductive WRes where
  | refuse (st : Status)
  | ok (s : State)

/-- The offset lies in the configuration set of its page (R51). -/
def isCfg (off : Nat) : Bool :=
  off == 0x10 || off == 0x24 || off == 0x2C || (decide (0x100 ≤ off) && decide (off < 0x8000))

/-- The modes in which a set lock is in force (R52). -/
def lockMode : Mode → Bool
  | .operate | .safeOperate | .degraded | .safeState => true
  | _ => false

/-- The page's lock is in force (R52). -/
def State.locked (s : State) (page : Nat) : Bool := bit (s.reg page 0x10) 2 && lockMode s.modeNow

/-- The debugger is open (R486, R490, R492). -/
def State.debuggerOpen (s : State) : Bool :=
  match s.life.state.toNat with
  | 0 | 1 | 3 => true
  | 2 => s.life.unlocked
  | _ => false

/-- Write rights by page (R43, R431, R537). An instance's own rights stand with the host interface. -/
def hasRight (s : State) (k : PageKind) : Requester → Bool
  | .loader => k != .dev
  | .inst _ => false
  | .pf => match k with
    | .dev | .safe | .life | .tel | .xchk _ => false
    | _ => true
  | .dbg => s.debuggerOpen && match k with
    | .dev | .safe | .life | .tel | .xchk _ => false
    | _ => true
  | .tel _ => k != .dev
  | .core t => match k with
    | .dev | .mode | .clk | .rst | .safe | .life | .tel | .xchk _ | .inst _ | .dbg => false
    | .pst p | .disp p | .gate p | .sige p | .clu p _ => p == tPiste t.toNat
    | _ => true

/-- What an instance may write: the ring table, INST_RXMAP and INST_CMD of its own page (R431). -/
def instRight (k : PageKind) (req : Requester) (off : Nat) : Bool :=
  match k, req with
  | .inst i, .inst j => i == j.toNat && (off == 0x8104 || (decide (0x9000 ≤ off) && decide (off < 0x9404)))
  | _, _ => false

/-- The pages whose configuration sets may be written in FALLBACK (R73). -/
def fallbackPage : PageKind → Bool
  | .mode | .clk | .mgp | .host | .iov => true
  | _ => false

/-- The present mode forbids the write (R45, R60, R73, R75). -/
def modeForbids (s : State) (k : PageKind) (req : Requester) (off : Nat) : Bool :=
  if req = .loader then false
  else match s.modeNow with
    | .boot => true
    | .zeroize => isCfg off || (off == 0x28 && !(match req with | .tel _ => true | _ => false))
    | m =>
      (m == .fallback && isCfg off && !fallbackPage k) ||
        (off == 0x28 && !(match req with | .tel _ => true | _ => false) &&
          !(m == .configure || m == .commission || m == .maintenance))

/-- The page belongs to a safety function: a STATE_REFUSED there is notified (R74). -/
def touchesSafety (k : PageKind) (off : Nat) : Bool :=
  off == 0x28 || match k with
    | .safe | .sige _ | .xchk _ => true
    | _ => false

/-- The common judgement of a write, before the register's own rules (R62). -/
def judge (s : State) (req : Requester) (k : PageKind) (page off : Nat) : List Status :=
  (if modeForbids s k req off then [.stateRefused] else []) ++ (if hasRight s k req || instRight k req off then [] else [.notOwner]) ++
    (if isCfg off && s.locked page then [.locked] else []) ++
    (if isCfg off && s.fabric.resetting.contains page then [.busy] else [])

/-- The order in which codes are reported (R62). -/
def Status.rank : Status → Nat
  | .absent => 0 | .stateRefused => 1 | .notOwner => 2 | .locked => 3 | .badArg => 4 | .busy => 5 | _ => 6

/-- The code reported first. -/
def firstStatus : List Status → Option Status
  | [] => none
  | a :: r => match firstStatus r with
    | none => some a
    | some b => some (if a.rank ≤ b.rank then a else b)

/-- The thread whose register access is refused stops (R44): cause REG_REFUSED, at the register's address. -/
def refuseThread (req : Requester) (page off : Nat) (s : State) : State :=
  match req with
  | .core t =>
    let th := s.thr t.toNat
    if th.st = .running ∨ th.st = .parked ∨ (th.st = .halted ∧ th.prev = .parked) then
      let w := match th.park with
        | some (_, w) => w
        | none => lo32 (Config.value s.free)
      faultThr t.toNat 0x0F w (0x2000000000 + page * 65536 + off) s
    else s
  | _ => s

/-- A refused write is recorded in its page (R44, R72, R74). -/
def refuse (req : Requester) (page off : Nat) (st : Status) (touches : Bool) (s : State) : State :=
  let s := setReg page 0x54 (w32 (reqForm req + off)) (bump page 0x50 s)
  let s := raiseBit page 3 (setRfld page 0x14 15 12 st.code s)
  let s := if st = .stateRefused then stateRefused req page off touches s else s
  refuseThread req page off s

/-- The configuration set of a page as bytes, in the order of R53. -/
def State.cfgBytes (s : State) (page : Nat) : Bytes :=
  wordsBytes ([s.reg page 0x10 &&& 5, s.reg page 0x24, s.reg page 0x2C] ++
    (rangeFrom 0x40 0x1FC0).map (fun i => s.reg page (4 * i)))
/-- CFG_CHECK as a finished pass leaves it (R53). -/
def State.cfgCrc (s : State) (page : Nat) : Word := crc32c (s.cfgBytes page)
/-- CFG_CHECK: the last finished pass, the reset configuration set's before any (R53). -/
def State.cfgCheck (s : State) (page : Nat) : Word :=
  match sfind s.regs (regKey page 0x60) with
  | some v => v
  | none => { s with regs := [] }.cfgCrc page
/-- CFG_GOLDEN; on DEV the device's own value (R56). -/
def State.cfgGolden (s : State) (page : Nat) : Word := if page = pDEV then s.cfgCrc pDEV else s.reg page 0x64

/-- GOLDEN_WAIT set by a change of the configuration set (R54). -/
def goldenWait (page : Nat) (s : State) : State := if page = pDEV then s else setRfld page 0x14 6 6 1 s

/-- A write of one register of a present page, judged and recorded; the value the register's own rules see stands in
`h`. Answers the state and the code, none where nothing is answered (R40-R45, R47, R52, R62). -/
def writeReg (req : Requester) (page off : Nat) (h : State → WRes) (s : State) : State × Option Status :=
  if !s.live then (s, none)
  else
    match pageKind s.part page with
    | none => (s, none)
    | some k =>
      let res := h s
      let own := match res with
        | .refuse st => [st]
        | .ok _ => []
      match firstStatus (judge s req k page off ++ own), res with
      | none, .ok s' =>
        if isCfg off && (s'.reg page off != s.reg page off || s'.reg page (off + 4) != s.reg page (off + 4)) then
          (goldenWait page s', some .ok)
        else (s', some .ok)
      | some st, _ => (refuse req page off st (touchesSafety k off) s, some st)
      | none, .refuse st => (refuse req page off st (touchesSafety k off) s, some st)

/-- A plain read/write register: the writable bits stored. -/
def store (page off : Nat) (mask v : Word) (s : State) : State := setReg page off (v &&& mask) s

/-- Store when a test holds, BAD_ARG otherwise. -/
def storeIf (ok : Bool) (page off : Nat) (mask v : Word) (s : State) : WRes :=
  if ok then .ok (store page off mask v s) else .refuse .badArg

/-- A command completes: DONE and STATUS in its status register, CMD_DONE in INT_STATUS (R61). -/
def cmdDone (page statusOff : Nat) (st : Status) (s : State) : State :=
  raiseBit page 4 (setReg page statusOff (w32 (0x80000000 + st.code)) s)

/-- A write of a command register (R61): refused while BUSY; the body answers the code, none while the command runs on. -/
def command (page statusOff : Nat) (body : State → Option Status × State) (s : State) : WRes :=
  if bit (s.reg page statusOff) 30 then .refuse .busy
  else match body s with
    | (some st, s') => .ok (cmdDone page statusOff st s')
    | (none, s') => .ok (setReg page statusOff 0x40000000 s')

/-- A command that the present mode forbids completes with STATE_REFUSED (R72). -/
def cmdState (req : Requester) (page off : Nat) (touches : Bool) (s : State) : Option Status × State :=
  (some .stateRefused, stateRefused req page off touches s)

/-- A command's code with nothing changed. -/
def cmdFail (st : Status) (s : State) : Option Status × State := (some st, s)

/-- A command row: a write of a command register that carries the row's code. -/
def cmdRow (req : Requester) (page off statusOff : Nat) (body : State → Option Status × State) (s : State) : State :=
  if reqOk s.part req then (writeReg req page off (command page statusOff body) s).1 else s

/-- A POP register: the head record removed, EMPTY on an empty queue (R174). -/
def popWrite (empty : State → Bool) (pop : State → State) (s : State) : WRes :=
  if empty s then .refuse .empty else .ok (pop s)

/-- A register row: a write of one register by a requester of the part. -/
def regRow (req : Requester) (page off : Nat) (h : State → WRes) (s : State) : State :=
  if reqOk s.part req then (writeReg req page off h s).1 else s

/-! ### The header's own rules (R48, R49, R58-R60) -/

/-- Causes that a write of 1 clears; a pending set that stays non-empty is notified again (R58). -/
def w1cInt (page : Nat) (mask : Word) (s : State) : State :=
  let was := s.reg page 0x20 &&& s.reg page 0x24
  let s := setReg page 0x20 (s.reg page 0x20 &&& ~~~mask) s
  if was ≠ 0 ∧ s.reg page 0x20 &&& s.reg page 0x24 ≠ 0 then notify page s else s

/-- INT_FORCE (R60): the causes are set and delivered; the safety controller's record carries FORCED. -/
def intForce (page : Nat) (mask : Word) (s : State) : State :=
  let m := mask &&& 0xFFFFFF3F
  let s := raise page m s
  let s := if bit m 1 then postF true 0x01 page (s.reg page 0x48).toNat (s.reg page 0x4C).toNat s else s
  if bit m 2 then postF true 0x02 page (s.cfgCheck page).toNat (s.cfgGolden page).toNat s else s

/-- The error captures of a page cleared (ERR_CLR). -/
def errClear (page : Nat) (s : State) : State :=
  setReg page 0x4C 0 (setReg page 0x48 0 (setReg page 0x44 0 (setReg page 0x40 0 s)))

/-- Every register of the configuration set back at its reset value (R49). -/
def cfgToReset (page : Nat) (s : State) : State :=
  { s with regs := sdrop (fun k => decide (k / 65536 = page) && isCfg (k % 65536)) s.regs }

/-- Soft reset begins: the configuration set returns to reset (R49). -/
def softReset (page : Nat) (s : State) : State :=
  let s := goldenWait page (cfgToReset page s)
  { s with fabric := { s.fabric with resetting := page :: s.fabric.resetting.filter (· != page) } }

/-- CFG_GOLDEN written: GOLDEN_WAIT clears, and the page is compared again after the next pass (R54). -/
def goldenWrite (page : Nat) (v : Word) (s : State) : State :=
  let s := setRfld page 0x14 6 6 0 (setReg page 0x64 v s)
  { s with fabric := { s.fabric with awaitPass := page :: s.fabric.awaitPass.filter (· != page) } }

/-- The pages whose PAGE_CTRL.EN is read-only 1 (R48). -/
def enFixed : PageKind → Bool
  | .dev | .mode | .clk | .rst | .safe | .life | .log | .tel => true
  | _ => false

/-- PAGE_STATUS (R48). -/
def State.pageStatus (s : State) (page : Nat) : Word :=
  (s.reg page 0x14 &&& 0xFFFFF0C0) ||| w32 (b2n (s.locked page) * 0x20 + b2n (s.fabric.resetting.contains page) * 0x10 +
    b2n (bit (s.reg page 0x10) 0))

end Sys2Proof.Machine
end

