-- ==== Sys2Proof/Machine/Access.lean ====
section
/-! DEFINITION. The memories as threads reach them: the address maps of Sugor and Sugor-M cores, the packet and context
windows, the message view, secure parts during a wipe, and HBM errors (R170, R180, R194-R201, R225, R345-R352, R386). -/
namespace Sys2Proof.Machine
open Sys2Proof

/-! ### HBM (R370, R371, R386) -/

/-- Pseudo-channel of an HBM offset (R371). -/
def hbmPc (part : Part) (a : Nat) : Nat :=
  if Config.hbmStacks part = 2 then (a / 256 % 64) ^^^ (a / 0x100000 % 64) else (a / 256 % 32) ^^^ (a / 0x100000 % 32)
/-- Stack of an HBM offset: pseudo-channels 32-63 are in stack 1 (R370). -/
def hbmStack (part : Part) (a : Nat) : Nat := hbmPc part a / 32

/-- An uncorrectable read of HBM through a port: counted, captured and logged (R386, R392). -/
def hbmUe (port a : Nat) (addrErr : Bool) (s : State) : State :=
  let st := hbmStack s.part a
  let pg := pHBMS st
  let n := s.reg pg 0x8030
  let lvl := n.toNat
  -- the ring's next place lies above the level, in the stored bits [31:8]
  let i := lvl / 256 % 16
  let s := setReg pg 0x8030 (w32 (min (lvl % 256 + 1) 16 + (i + 1) % 16 * 256)) s
  let s := setReg64 pg (0x8100 + 8 * i) (w64 (0x8000000000000000 + b2n addrErr * 0x1000000000 + port * 0x100000000 + a / 32)) s
  let s := if addrErr then bump pg 0x8020 s else s
  memError pg (hbmPc s.part a % 32) ((Config.errorInfo s.free).toNat % 65536) (a / 32) true { s with free := s.free + 1 }


/-! ### Secure parts (R350, R351) -/

/-- Accesses to the secure parts of a unit are blocked: a wipe runs, or has failed (units 0-31 clusters, 32 Telemark). -/
def State.wipeBlocked (s : State) (unit : Nat) : Bool :=
  let w := sget { running := false, done := false, fail := false } s.wipes unit
  w.running || w.fail

/-- The unit whose secure part a thread reaches. -/
def wipeUnit (t : Nat) : Nat := if isTel t then 32 else tCluster t

/-! ### Places -/

/-- Where an address leads. -/
inductive Place where
  /-- a memory: address, page that reports its errors, secure part, parking HBM access -/
  | mem (a page : Nat) (secure parks : Bool)
  | window (off : Nat)
  | ctx (off : Nat)
  | msg (off : Nat)
  /-- signal memory view, byte offset -/
  | signal (off : Nat)
  | sema (n off : Nat)
  | page (page off : Nat)
  /-- a fault with its cause -/
  | bad (cause : Nat)

/-- Signal memory bytes present (R281, R194). -/
def signalBytes (part : Part) : Nat := Config.signals part * 16

/-- A cause judged after the width: the first that holds. -/
def firstBad : List (Bool × Nat) → Option Nat
  | [] => none
  | (true, c) :: _ => some c
  | (false, _) :: r => firstBad r

/-- Bound of a thread's local slice: base and size in bytes (R170). -/
def State.slice (s : State) (t : Nat) : Nat × Nat :=
  let w := s.reg (pCLU (tCluster t)) (0x200 + t / 8 % 8 * 0x20 + t % 8 * 4)
  (fld w 4 0 * 1024, fld w 13 8 * 1024)

/-- The spaces common to both kinds of core from 0x01_0000_0000 up (R194, R199). -/
def highPlace (s : State) (a n : Nat) : Place :=
  if 0x100000000 ≤ a ∧ a + n ≤ 0x100000000 + signalBytes s.part then .signal (a - 0x100000000)
  else if 0x200000000 ≤ a ∧ a < 0x200010000 then .sema ((a - 0x200000000) / 16) (a % 16)
  else if 0x1000000000 ≤ a ∧ hbmOk s.part (a - 0x1000000000) n then
    .mem (hbmA (a - 0x1000000000)) (pHBMS (hbmStack s.part (a - 0x1000000000))) false true
  else if 0x2000000000 ≤ a ∧ a < 0x2004000000 then .page ((a - 0x2000000000) / 65536) (a % 65536)
  else .bad 0x06

/-- The place of an address of a packet core, before rights and bounds (R194). -/
def corePlace (s : State) (t a n : Nat) : Place :=
  if a < 0x8000 then .mem (localA (tCore t) ((s.slice t).1 + a)) (pCLU (tCluster t)) false false
  else if a < 0x10000 then .mem (localA (tCore t) (a - 0x8000)) (pCLU (tCluster t)) false false
  else if a < 0x11000 then .window (a - 0x10000)
  else if 0x20000 ≤ a ∧ a < 0x20100 then .ctx (a - 0x20000)
  else if 0x21000 ≤ a ∧ a < 0x21050 then .msg (a - 0x21000)
  else if 0x10000000 ≤ a ∧ a < 0x10100000 then
    .mem (clusterA (tCluster t) (a - 0x10000000)) (pCLU (tCluster t)) (decide (0x100F0000 ≤ a)) false
  else if 0x20000000 ≤ a ∧ a < 0x20080000 then .mem (icsA (tCluster t) (a - 0x20000000)) (pCLU (tCluster t)) false false
  else highPlace s a n

/-- The place of an address of a Sugor-M core (R199). -/
def telPlace (s : State) (a n : Nat) : Place :=
  if 0x21000 ≤ a ∧ a < 0x21050 then .msg (a - 0x21000)
  else if a < 0x40000 then .mem (telSecA a) pTEL true false
  else if 0x20000000 ≤ a ∧ a < 0x20080000 then .mem (telCodeA (a - 0x20000000)) pTEL false false
  else if 0x30000000 ≤ a ∧ a < 0x30010000 then .mem (telRomA (a - 0x30000000)) pTEL false false
  else highPlace s a n

/-- The space needs a region at PL0 (R194). -/
def needsRegion (a : Nat) : Bool :=
  (decide (0x10000000 ≤ a) && decide (a < 0x20080000)) || (decide (0x100000000 ≤ a) && decide (a < 0x2000000000))
/-- PL0 may not reach the space at all (R194). -/
def privSpace (a : Nat) : Bool :=
  (decide (0x8000 ≤ a) && decide (a < 0x10000)) || (decide (0x100F0000 ≤ a) && decide (a < 0x10100000)) ||
    (decide (0x2000000000 ≤ a) && decide (a < 0x2004000000))
/-- No store reaches the space (R194, R199). -/
def readOnlySpace (tel : Bool) (a : Nat) : Bool :=
  (decide (0x20000000 ≤ a) && decide (a < 0x20080000)) || (decide (0x100000000 ≤ a) && decide (a < 0x100800000)) ||
    (tel && decide (0x30000000 ≤ a) && decide (a < 0x30010000))

/-- The kinds of data access. -/
inductive AKind where
  | load | store | atomic
deriving DecidableEq, Repr

def AKind.isLoad : AKind → Bool
  | .store => false | _ => true
def AKind.isStore : AKind → Bool
  | .load => false | _ => true

/-- The width is permitted for the space (R194, R358). -/
def widthOk (a n : Nat) : Bool :=
  if (0x200000000 ≤ a ∧ a < 0x200010000) ∨ (0x2000000000 ≤ a ∧ a < 0x2004000000) then n == 4 else true

/-- The access lies in the packet window of a packet core, where any alignment is accepted (R196). -/
def inWindow (tel : Bool) (a : Nat) : Bool := !tel && decide (0x10000 ≤ a) && decide (a < 0x11000)

/-- The judgement of a whole data access: the fault of R225 or its place. -/
def locate (s : State) (t : Nat) (k : AKind) (ea : W64) (n : Nat) : Place :=
  let th := s.thr t
  let tel := isTel t
  let a := ea.toNat
  let pl := if tel then telPlace s a n else corePlace s t a n
  let item := th.item.isSome
  let heldPkt := (s.held t).isSome
  let win := inWindow tel a
  let ctx := !tel && decide (0x20000 ≤ a) && decide (a < 0x20100)
  let w := a - 0x10000
  let len := match s.held t with
    | some (_, p) => p.cur.length
    | none => 0
  let regionBad (perm cause : Nat) : Bool × Nat :=
    (th.pl == 0 && needsRegion a && !th.regionOk a n [perm], cause)
  match firstBad
    ([ (!win && a % n != 0 || !widthOk a n, 0x05),
       (decide (0x10000000000 ≤ a) || match pl with | .bad _ => true | _ => false, 0x06),
       (k == .atomic && !(!tel && decide (0x10000000 ≤ a) && decide (a < 0x100F0000)), 0x0D),
       (th.pl == 0 && privSpace a && !tel, 0x03),
       ((win || ctx) && !(item && heldPkt), 0x09),
       (ctx && !s.ctxValid t, 0x0A),
       (!tel && decide (a < 0x8000) && decide ((s.slice t).2 < a + n), 0x07),
       (win && (decide (0x280 ≤ w) || (decide (w < 0x200) && decide (0x200 < w + n)) || decide (0x280 < w + n) ||
          (k.isStore && decide (w < 0x200) && decide (len < w + n))), 0x08),
       (k.isStore && (readOnlySpace tel a || (win && decide (0x200 ≤ w))), 0x0C) ] ++
     (match pl with
      | .msg off => [(k.isStore && off != 0x48, 0x0C)]
      | .sema _ off => [(k.isStore && off != 8, 0x0C)]
      | _ => []) ++
     (if k.isLoad then [regionBad 62 0x0B] else []) ++ (if k.isStore then [regionBad 61 0x0C] else [])) with
  | some c => .bad c
  | none => pl

/-! ### Windows -/

/-- Bytes 0-27 of a packet's descriptor (R197). -/
def Packet.descHead (k : Packet) : Bytes :=
  let head := match k.cells with
    | c :: _ => c
    | [] => 0
  leBytes 4 (head + b2n k.gen * 0x80000 + k.prio.toNat * 0x100000 + k.cls.toNat * 0x1000000) ++
  leBytes 4 (k.len + k.order.toNat * 0x10000) ++
  leBytes 4 (k.seq.toNat + k.port.toNat * 0x100000) ++
  leBytes 4 (k.flow.toNat + k.instance_.toNat * 0x100000 + k.exc.toNat * 0x10000000 + b2n k.noFlow * 0x40000000 +
    b2n k.emMiss * 0x80000000) ++
  leBytes 4 k.ts.toNat ++
  leBytes 4 (b2n k.express + b2n (!k.tail) * 2 + k.liftPasses.toNat * 4) ++ leBytes 4 0
/-- The descriptor with its DCRC (R197). -/
def Packet.desc (k : Packet) : Bytes := k.descHead ++ leBytes 4 (crc32c k.descHead).toNat

/-- The packet window's 0x280 bytes (R195, R196). -/
def Packet.window (k : Packet) : Bytes :=
  slice k.cur 0 0x200 ++ k.desc ++ leBytes 4 (k.sugg.toNat + k.kind.toNat * 0x10000) ++ leBytes 4 k.replays.toNat ++
    leBytes 24 0 ++ slice k.parse 0 64

/-- ADD_MASK of a packet's class (R269, R280). -/
def State.addMask (s : State) (k : Packet) : Nat := fld (s.reg (pGATE k.tgt.toNat) (0x1000 + k.cls.toNat * 4)) 31 16

/-- A granule as the packet's thread sees it: shadow once written, snapshot before (R269). -/
def Packet.granule (k : Packet) (g : Nat) : W128 :=
  if bit k.wmask g then sget 0 k.shadow g else sget 0 k.snap g
/-- The 256 bytes of the context window (R198). -/
def Packet.context (k : Packet) : Bytes := (rangeFrom 0 16).flatMap (fun g => leBytes 16 (k.granule g).toNat)

/-- A load of `n` bytes of the context window sets read bits of granules that are not ADD granules (R269). -/
def Packet.readCtx (k : Packet) (addMask off : Nat) : Packet :=
  let g := off / 16
  if bit (w32 addMask) g then k else { k with rmask := setBit k.rmask g true }

/-- A store to the context window changes the shadow of its granule (R269). -/
def Packet.writeCtx (k : Packet) (off : Nat) (b : Bytes) : Packet :=
  let g := off / 16
  let old := leBytes 16 (k.granule g).toNat
  { k with shadow := sset k.shadow g (BitVec.ofNat 128 (leNat (splice old (off % 16) b))), wmask := setBit k.wmask g true }

/-- The message view: words 0-7, header, and the removal word, which reads zero (R180). -/
def msgView (th : Thread) : Bytes :=
  match th.mbox with
  | [] => leBytes 80 0
  | m :: _ => ((rangeFrom 0 8).flatMap (fun i => leBytes 8 (m.words.getD i 0).toNat)) ++
      leBytes 8 (0x80000000 + m.words.length * 0x10000 + m.sender % 2048) ++ leBytes 8 0

/-- What a load brings: a value's bytes with the state, a park, or a fault. -/
inductive Loaded where
  | got (b : Bytes) (s : State)
  | parks
  | bad (cause : Nat) (s : State)

/-- SOURCE and word of an address in a cluster's memories: local scratchpads 0-7, cluster scratchpad 8, instruction store
9 (R347). -/
def cluWord (a : Nat) : Option (Nat × Nat) :=
  if a / 0x1000000000000 = 1 then some (a % 0x40000 / 0x8000, a % 0x8000 / 8)
  else if a / 0x1000000000000 = 2 then some (8, a % 0x100000 / 8)
  else if a / 0x1000000000000 = 3 then some (9, a % 0x80000 / 8)
  else none

/-- Uncorrectable word of a page's memory: counted, and the access faults with MEM_UE (R347, R163). -/
def loadUe (page a port : Nat) (s : State) : State :=
  if a < 0x1000000000000 then hbmUe port a false s
  else match cluWord a with
  | some (src, w) => srcErr page src w true s
  | none => ueAt page (a % 0x1000000000000 / 8) s

/-- HBM port of a thread's loads and stores (R374). -/
def hbmPortOf (t : Nat) : Nat := if isTel t then 9 else 10 + tPiste t

/-- Bytes of the signal memory view, a record that fails its check read with quality BAD (R283). -/
def signalView (s : State) (off n : Nat) : Bytes :=
  let b := s.bytes (signalA 0 + off) n
  if s.sige.bad.contains (off / 16) ∧ off % 16 ≤ 8 ∧ 8 < off % 16 + n then splice b (8 - off % 16) [5] else b

/-- The packet's flow context is lost: its flow is QUARANTINED, or was when the snapshot was taken (R163, R388). -/
def State.ctxGone (s : State) (k : Packet) : Bool := k.ctxLost || s.hbm.quarantined.contains k.flow.toNat
/-- STATUS.CTX_LOST set by an access to a lost context. -/
def loseCtx (t : Nat) (p : PktId) (s : State) : State :=
  updThr t (fun th => { th with ctxLost := true }) (updPkt p (fun k => { k with ctxLost := true }) s)

/-- The load itself, of a place that was judged (R194, R201). -/
def loadAt (s : State) (t : Nat) (pl : Place) (n : Nat) : Loaded :=
  match pl with
  | .mem a page secure parks =>
    if parks then .parks
    else if secure && s.wipeBlocked (wipeUnit t) then .got (leBytes n 0) (bump page 0x8524 s)
    else if s.poisoned a n then .bad 0x0E (loadUe page a 0 s)
    else .got (s.bytes a n) s
  | .window off => match s.held t with
    | some (_, k) => .got (slice k.window off n) s
    | none => .bad 0x09 s
  | .ctx off => match s.held t with
    | some (p, k) =>
      if s.ctxGone k then .got (leBytes n 0) (loseCtx t p s)
      else if !k.hasSnap then .parks
      else .got (slice k.context off n) (setPkt p (k.readCtx (s.addMask k) off) s)
    | none => .bad 0x09 s
  | .msg off => .got (slice (msgView (s.thr t)) off n) s
  | .signal off =>
    if s.sige.bad.contains (off / 16) then
      .got (signalView s off n) (bump (pSIGE (tPiste t % 4)) 0x8024 (ueAt (pSIGE (tPiste t % 4)) (off / 16) s))
    else .got (signalView s off n) s
  | .sema _ _ => .parks
  | .page _ _ => .parks
  | .bad c => .bad c s

/-- What a store does. -/
inductive Stored where
  | done (s : State)
  | parks
  | bad (cause : Nat)

/-- Bytes stored in a memory of words with ECC: a narrower store leaves an uncorrectable word so (R347). -/
def storeMem (a : Nat) (b : Bytes) (s : State) : State := putBytes a b s

/-- The store itself, of a place that was judged. A store to a semaphore's RELEASE stands in Sema.lean. -/
def storeAt (s : State) (t : Nat) (pl : Place) (b : Bytes) : Stored :=
  match pl with
  | .mem a page secure parks =>
    if secure && s.wipeBlocked (wipeUnit t) then .done (bump page 0x8524 s)
    else .done (storeMem a b (if parks then hbmCount (hbmPortOf t) s else s))
  | .window off => match s.held t with
    | some (p, k) => .done (setPkt p { k with cur := splice k.cur off b, changed := true } s)
    | none => .bad 0x09
  | .ctx off => match s.held t with
    | some (p, k) =>
      if s.ctxGone k then .done (loseCtx t p s)
      else if !k.hasSnap then .parks
      else .done (setPkt p (k.writeCtx off b) s)
    | none => .bad 0x09
  | .msg _ => .done (updThr t (fun th => { th with mbox := th.mbox.drop 1 }) s)
  | .page _ _ => .parks
  | .sema _ _ => .done s
  | .signal _ => .bad 0x0C
  | .bad c => .bad c

/-- A CP3 command of the thread that writes the packet is not finished (R231, R243). -/
def Thread.pktBusy (th : Thread) : Bool :=
  match th.cry with
  | some c => c.func == 2 || (c.func == 3 && !bit (c.p.headD 0) 8)
  | none => false

/-- The held packet runs under Schuss (R189, R270). -/
def State.schussHeld (s : State) (t : Nat) : Bool :=
  match s.held t with
  | some (_, k) => k.schuss
  | none => false

/-- A place that a store or atomic firms the packet before (R270): cluster scratchpad, HBM, semaphores, register pages. -/
def firmsStore : Place → Bool
  | .mem a _ _ _ => decide (a < 0x1000000000000) || (decide (spaceBase 2 ≤ a) && decide (a < spaceBase 3))
  | .sema _ _ | .page _ _ => true
  | _ => false
/-- A place that a load firms the packet before: semaphores and register pages (R270). -/
def firmsLoad : Place → Bool
  | .sema _ _ | .page _ _ => true
  | _ => false

end Sys2Proof.Machine
end

