-- ==== Sys2Proof/Machine/Sema.lean ====
section
/-! DEFINITION. The semaphore unit: rights, acquire and release, arming and waking, the holder table and its orphans, the core
view and the command interface (R356-R369). -/
namespace Sys2Proof.Machine
open Sys2Proof

/-- AVAIL and RETIRED of a semaphore (R356). -/
def State.semAvail (s : State) (n : Nat) : Nat := (sget 0 s.sema.avail n).toNat
def State.semRetired (s : State) (n : Nat) : Nat := (sget 0 s.sema.retired n).toNat
/-- Live capacity: CAP less RETIRED. -/
def State.semLive (s : State) (n : Nat) : Nat := s.rfld pSEMA (0x1000 + 4 * n) 15 0 - s.semRetired n
def updSema (f : SemaState → SemaState) (s : State) : State := { s with sema := f s.sema }
def setAvail (n v : Nat) (s : State) : State := updSema (fun u => { u with avail := sset u.avail n (BitVec.ofNat 16 v) }) s

/-- Holder identity: KIND and ID (R364). -/
def holderOf : Requester → Nat × Nat
  | .core t => (0, t.toNat)
  | .tel n => (1, n.toNat)
  | .pf | .dbg | .loader => (2, 0)
  | .inst i => (3, i.toNat)

/-- The requester that a thread is. -/
def reqOfThread (t : Nat) : Requester := if isTel t then .tel (BitVec.ofNat 3 t) else .core (BitVec.ofNat 11 t)

/-- The group's rights permit the requester (R357); `pl0` for a packet thread at PL0. -/
def semaPermit (s : State) (n : Nat) (who : Requester) (pl0 : Bool) : Bool :=
  let w := s.reg pSEMA (0x100 + n / 64 * 8)
  match who with
  | .core t => bit w (tPiste t.toNat) && (!pl0 || bit w 8)
  | .tel _ | .loader => bit w 9
  | .pf | .dbg => bit w 10
  | .inst i => bit w 11 && fld w 23 16 == i.toNat

/-- The index of a holder's entry for a semaphore. -/
def findHolder (m : SMap (Option Holder)) (kind id n : Nat) : Option (Nat × Holder) :=
  match m.find? (fun e => match e.2 with
      | some h => h.kind.toNat == kind && h.id.toNat == id && h.sem.toNat == n
      | none => false) with
  | some (i, some h) => some (i, h)
  | _ => none

/-- The lowest index from `k` on that lists no entry. -/
def lowestFree : SMap (Option Holder) → Nat → Nat
  | [], k => k
  | (a, h) :: r, k => if k < a then k else if k = a then (if h.isNone then k else lowestFree r (k + 1)) else lowestFree r k

def setHolder (i : Nat) (h : Option Holder) (s : State) : State :=
  updSema (fun u => { u with holders := sset u.holders i h }) s

/-- The semaphore has orphaned units. -/
def State.semOrphans (s : State) (n : Nat) : Bool :=
  s.sema.holders.any (fun e => match e.2 with
    | some h => h.orphaned && h.sem.toNat == n
    | none => false)

/-- The thread's release event is armed for the semaphore (R362). -/
def State.semArmed (s : State) (t n : Nat) : Bool := sget 0 s.sema.arms t == n + 1

/-- The status word of R359. -/
def semaWord (s : State) (n : Nat) (armed : Bool) (st : Status) : Word :=
  w32 (s.semAvail n * 0x10000 + b2n (s.semOrphans n) * 0x20 + b2n armed * 0x10 + st.code)

/-- An acquire of one unit by a permitted requester (R359). -/
def acquire (who : Requester) (n : Nat) (s : State) : Status × State :=
  let (kind, id) := holderOf who
  if s.semAvail n = 0 then (.empty, s)
  else match findHolder s.sema.holders kind id n with
    | some (i, h) => (.ok, setHolder i (some { h with units := h.units + 1 }) (setAvail n (s.semAvail n - 1) s))
    | none =>
      let i := lowestFree s.sema.holders 0
      if i < 32768 then
        (.ok, setHolder i (some { kind := BitVec.ofNat 3 kind, id := BitVec.ofNat 11 id, units := 1, orphaned := false
                                  sem := BitVec.ofNat 12 n }) (setAvail n (s.semAvail n - 1) s))
      else (.holderFull, bump pSEMA 0x8004 s)

/-- The armed waiters of a semaphore woken and disarmed, and SEMA_WAKES counted once (R362). -/
def wakeArmed (n : Nat) (s : State) : State :=
  let ts := (s.sema.arms.filter (fun e => e.2 == n + 1)).map (·.1)
  let s := updSema (fun u => { u with arms := u.arms.map (fun e => if e.2 == n + 1 then (e.1, 0) else e) }) s
  bump64 pSEMA 0x8010 (ts.foldl (fun s t => setEvent t 3 s) s)

/-- A refused release (R360). -/
def relRefused (who : Requester) (n : Nat) (s : State) : State :=
  let (kind, id) := holderOf who
  raiseBit pSEMA 9 (setReg pSEMA 0x800C (w32 (n + kind * 0x1000 + id * 0x10000)) (bump pSEMA 0x8008 s))

/-- A release of units by a permitted requester (R360). -/
def releaseUnits (who : Requester) (n count : Nat) (s : State) : Status × State :=
  let (kind, id) := holderOf who
  match findHolder s.sema.holders kind id n with
  | none => (if count = 0 then .badArg else .notOwner, relRefused who n s)
  | some (i, h) =>
    if h.orphaned then (.notOwner, relRefused who n s)
    else if count = 0 ∨ h.units.toNat < count then (.badArg, relRefused who n s)
    else
      let left := h.units.toNat - count
      let s := setHolder i (if left = 0 then none else some { h with units := BitVec.ofNat 16 left }) s
      (.ok, wakeArmed n (setAvail n (s.semAvail n + count) s))

/-- A holder table entry as its 64 bits (R364). -/
def Holder.word (h : Holder) : Nat :=
  h.kind.toNat * 2 ^ 43 + h.id.toNat * 2 ^ 32 + h.units.toNat * 65536 + 32768 + b2n h.orphaned * 16384 + h.sem.toNat

/-- The entries of a holder become ORPHANED: a record and the ORPHAN cause for each (R364, R366). -/
def orphanHolder (kind id : Nat) (s : State) : State :=
  let mine := s.sema.holders.filterMap (fun e => match e.2 with
    | some h => if h.kind.toNat = kind ∧ h.id.toNat = id ∧ h.orphaned = false then some (e.1, h) else none
    | none => none)
  mine.foldl (fun s (e : Nat × Holder) =>
    let h := { e.2 with orphaned := true }
    let s := setHolder e.1 (some h) s
    let s := if s.sema.orphans.length < 64 then
        updSema (fun u => { u with orphans := u.orphans ++ [(h, e.1, s.time.ns)] }) s
      else bump pSEMA 0x9014 s
    raiseBit pSEMA 8 s) s

/-- A thread's arming ends (R362). -/
def disarm (t : Nat) (s : State) : State := updSema (fun u => { u with arms := sset u.arms t 0 }) s

/-! ### The core view (R358) -/

/-- A load of the semaphore view: the word returned (R358, R359). -/
def semaLoad (t n off : Nat) (s : State) : Word × State :=
  let who := reqOfThread t
  let ok := semaPermit s n who ((s.thr t).pl == 0)
  if off = 8 then (semaWord s n (s.semArmed t n) .badArg, s)
  else if !ok then (semaWord s n (s.semArmed t n) .notOwner, s)
  else if off = 12 then (w32 (s.semLive n * 0x10000 + s.semAvail n), s)
  else
    let (st, s) := acquire who n s
    let s := if off = 4 ∧ st = .empty then updSema (fun u => { u with arms := sset u.arms t (n + 1) }) s else s
    (semaWord s n (s.semArmed t n) st, s)

/-- A store to RELEASE (R358, R360). -/
def semaStore (t n : Nat) (v : Word) (s : State) : State :=
  let who := reqOfThread t
  if !semaPermit s n who ((s.thr t).pl == 0) then s
  else if fld v 31 16 ≠ 0 then relRefused who n s
  else (releaseUnits who n (fld v 15 0) s).2

/-- A grant that RESET discards (R368): the unit goes back. -/
def ungrant (t n : Nat) (s : State) : State :=
  let (kind, id) := holderOf (reqOfThread t)
  match findHolder s.sema.holders kind id n with
  | some (i, h) =>
    setAvail n (s.semAvail n + 1)
      (setHolder i (if h.units.toNat ≤ 1 then none else some { h with units := h.units - 1 }) s)
  | none => s

/-- The address of a semaphore's register in the core view. -/
def semaAddr (sem : BitVec 12) (off : Nat) : W64 := w64 (0x200000000 + sem.toNat * 16 + off)

/-- A semaphore access row's instruction: a load or store whose word the row does not give, so the word is a free value. -/
def runAccess (t : Nat) (body : Thread → State → Body) (s : State) : State :=
  if s.canRun t then runInsn (lo32 (Config.value s.free)) t body { s with free := s.free + 1 } else s

/-- The body of a semaphore access row: judged as any access, firming first (R270, R358). -/
def semaBody (t : Nat) (rd : Reg) (sem : BitVec 12) (off : Nat) (s : State) : Body :=
  match locate s t .load (semaAddr sem off) 4 with
  | .bad c => .fault c (semaAddr sem off).toNat
  | _ =>
    if s.schussHeld t then .stall
    else
      let (w, s) := semaLoad t sem.toNat off s
      .park (.value rd (w.setWidth 64) (semaAddr sem off).toNat) s

def execAcquire (t : Tid) (rd : Reg) (sem : BitVec 12) (s : State) : Outcome :=
  .next (runAccess t.toNat (fun _ s => semaBody t.toNat rd sem 0 s) s)
def execAcquireArm (t : Tid) (rd : Reg) (sem : BitVec 12) (s : State) : Outcome :=
  .next (runAccess t.toNat (fun _ s => semaBody t.toNat rd sem 4 s) s)
def execSemaState (t : Tid) (rd : Reg) (sem : BitVec 12) (s : State) : Outcome :=
  .next (runAccess t.toNat (fun _ s => semaBody t.toNat rd sem 12 s) s)
/-- A store of rt to RELEASE; it does not park (R361). -/
def execSemaRelease (t : Tid) (rt : Reg) (sem : BitVec 12) (s : State) : Outcome :=
  .next (runAccess t.toNat (fun th s =>
    match locate s t.toNat .store (semaAddr sem 8) 4 with
    | .bad c => .fault c (semaAddr sem 8).toNat
    | _ =>
      if s.schussHeld t.toNat then .stall
      else .access false true (semaAddr sem 8).toNat 4 (semaStore t.toNat sem.toNat (lo32 (th.rg rt)) s)) s)

/-! ### The command interface (R365, R367) -/

/-- The modes in which SEMA commands complete with STATE_REFUSED: ZEROIZE; in BOOT the write itself is refused (R75). -/
def semaMode (s : State) : Bool := s.modeNow == .boot || s.modeNow == .zeroize

def semaAcquireBody (req : Requester) (s : State) : Option Status × State :=
  let n := (s.reg pSEMA 0x8100).toNat
  if 4096 ≤ n then cmdFail .absent s
  else if semaMode s then cmdState req pSEMA 0x8108 false s
  else if !semaPermit s n req false then
    (some .notOwner, setReg pSEMA 0x8110 (semaWord s n false .notOwner) s)
  else
    let (st, s) := acquire req n s
    (some st, setReg pSEMA 0x8110 (semaWord s n false st) s)

def semaReleaseBody (req : Requester) (s : State) : Option Status × State :=
  let n := (s.reg pSEMA 0x8100).toNat
  if 4096 ≤ n then cmdFail .absent s
  else if semaMode s then cmdState req pSEMA 0x8108 false s
  else if !semaPermit s n req false then cmdFail .notOwner s
  else
    let (st, s) := releaseUnits req n (s.rfld pSEMA 0x8104 15 0) s
    (some st, s)

/-- The requester may resolve the orphans of a group: its supervisor thread, and the Telemark complex (R365). -/
def semaSupervises (s : State) (n : Nat) (req : Requester) : Bool :=
  let w := s.reg pSEMA (0x104 + n / 64 * 8)
  match req with
  | .tel _ | .loader => true
  | .core t => !bit w 31 && fld w 10 0 == t.toNat && !s.lost (tPiste t.toNat)
  | _ => false

/-- RECLAIM or RETIRE of the entry that SEMA_ARG0 names (R365). -/
def semaResolve (reclaim : Bool) (req : Requester) (s : State) : Option Status × State :=
  let i := s.rfld pSEMA 0x8100 14 0
  match sget none s.sema.holders i with
  | none => cmdFail .absent s
  | some h =>
    let n := h.sem.toNat
    if semaMode s then cmdState req pSEMA 0x8108 false s
    else if !semaSupervises s n req then cmdFail .notOwner s
    else if !h.orphaned then cmdFail .badArg s
    else
      let s := setHolder i none s
      if reclaim then (some .ok, wakeArmed n (setAvail n (s.semAvail n + h.units.toNat) s))
      else (some .ok, updSema (fun u =>
        { u with retired := sset u.retired n (BitVec.ofNat 16 (s.semRetired n + h.units.toNat)) }) s)

def semaStateBody (req : Requester) (s : State) : Option Status × State :=
  let n := (s.reg pSEMA 0x8100).toNat
  if 4096 ≤ n then cmdFail .absent s
  else if semaMode s then cmdState req pSEMA 0x8108 false s
  else if !semaPermit s n req false then cmdFail .notOwner s
  else (some .ok, setReg pSEMA 0x8110 (w32 (s.semLive n * 0x10000 + s.semAvail n)) s)

/-- A write of SEMA_CMD by its code (R367). -/
def semaCmd (req : Requester) (v : Word) (s : State) : WRes :=
  command pSEMA 0x810C (fun s => match fld v 3 0 with
    | 1 => semaAcquireBody req s
    | 2 => semaReleaseBody req s
    | 3 => semaResolve true req s
    | 4 => semaResolve false req s
    | 5 => semaStateBody req s
    | _ => cmdFail .badArg s) s

def execSemaCmdAcquire (req : Requester) (s : State) : Outcome :=
  .next (cmdRow req pSEMA 0x8108 0x810C (semaAcquireBody req) s)
def execSemaCmdRelease (req : Requester) (s : State) : Outcome :=
  .next (cmdRow req pSEMA 0x8108 0x810C (semaReleaseBody req) s)
def execSemaReclaim (req : Requester) (s : State) : Outcome :=
  .next (cmdRow req pSEMA 0x8108 0x810C (semaResolve true req) s)
def execRetire (req : Requester) (s : State) : Outcome :=
  .next (cmdRow req pSEMA 0x8108 0x810C (semaResolve false req) s)
def execSemaCmdState (req : Requester) (s : State) : Outcome :=
  .next (cmdRow req pSEMA 0x8108 0x810C (semaStateBody req) s)

/-- A write of SEMA_CAP(n): AVAIL := CAP, RETIRED := 0; BUSY while an entry for n is held (R356). -/
def semaCapWrite (n : Nat) (v : Word) (s : State) : WRes :=
  if s.sema.holders.any (fun e => match e.2 with
      | some h => h.sem.toNat == n
      | none => false) then .refuse .busy
  else
    let cap := fld v 15 0
    .ok (setReg pSEMA (0x1000 + 4 * n) (w32 cap) (setAvail n cap
      (updSema (fun u => { u with retired := sset u.retired n 0 }) s)))

def execSemaCapWrite (req : Requester) (sem : BitVec 12) (value : Word) (s : State) : Outcome :=
  .next (regRow req pSEMA (0x1000 + 4 * sem.toNat) (semaCapWrite sem.toNat value) s)

/-- A write of SEMA_ORPH_POP (R366). -/
def semaOrphPop : State → WRes :=
  popWrite (fun s => s.sema.orphans.isEmpty) (updSema (fun u => { u with orphans := u.orphans.drop 1 }))

def execSemaOrphPop (req : Requester) (s : State) : Outcome := .next (regRow req pSEMA 0x9010 semaOrphPop s)

/-- The SEMA page's writes (R369). -/
def semaWrite (req : Requester) (off : Nat) (v mask : Word) (s : State) : WRes :=
  if off = 0x8108 then semaCmd req v s
  else if off = 0x9010 then semaOrphPop s
  else if 0x1000 ≤ off ∧ off < 0x5000 then semaCapWrite ((off - 0x1000) / 4) v s
  else if 0x100 ≤ off ∧ off < 0x300 ∧ off % 8 = 0 then
    if (rangeFrom 0 4).any (fun p => bit v p && decide (Config.pistes s.part ≤ p)) then .refuse .absent
    else .ok (store pSEMA off mask v s)
  else .ok (store pSEMA off mask v s)

/-- The SEMA page's computed reads (R364, R366, R369). -/
def semaRead (s : State) (off : Nat) : Option Word :=
  let held := s.sema.holders.filterMap (·.2)
  if off = 0x8000 then some (w32 held.length)
  else if off = 0x8018 then some (w32 (held.filter (·.orphaned)).length)
  else if off = 0x9018 then some (w32 s.sema.orphans.length)
  else if 0x9000 ≤ off ∧ off < 0x9010 then
    match s.sema.orphans with
    | [] => some 0
    | (h, i, t) :: _ => some (w32 (leNat (slice (leBytes 8 h.word ++ leBytes 4 i ++ leBytes 4 t.toNat) (off - 0x9000) 4)))
  else if 0xB000 ≤ off ∧ off < 0xC000 then
    let i := s.rfld pSEMA 0xA000 5 0 * 512 + (off - 0xB000) / 8
    match sget none s.sema.holders i with
    | some h => some (w32 (if off % 8 = 0 then h.word else h.word / 0x100000000))
    | none => some 0
  else none

end Sys2Proof.Machine
end

