-- ==== Sys2Proof/Machine/Mem.lean ====
section
/-! DEFINITION. Loads, stores and atomics of the Sugor cores (R154, R162, R194-R201, R208-R210, R269-R271). -/
namespace Sys2Proof.Machine
open Sys2Proof

/-- The register value of loaded bytes: lowest address most significant or least, sign- or zero-extended (R201, R208). -/
def loadVal (sign swap : Bool) (b : Bytes) : W64 :=
  let v := if swap then beNat b else leNat b
  if sign then sext (8 * b.length) v else w64 v

/-- The bytes a store writes: the low `n` of the register (R208). -/
def storeVal (n : Nat) (swap : Bool) (v : W64) : Bytes := if swap then beBytes n v.toNat else leBytes n v.toNat

/-- The effective address of a load or store (R208). -/
def effAddr (th : Thread) (rs : Reg) (imm : BitVec 16) : W64 := th.rg rs + immS imm

/-- The body of a load. -/
def loadBody (t : Nat) (rd rs : Reg) (imm : BitVec 16) (n : Nat) (sign swap : Bool) (th : Thread) (s : State) : Body :=
  let ea := effAddr th rs imm
  let a := ea.toNat
  match locate s t .load ea n with
  | .bad c => .fault c a
  | pl =>
    if (s.schussHeld t && firmsLoad pl) || (th.pktBusy && inWindow (isTel t) a) then .stall
    else match pl with
    | .sema k off =>
      let (w, s) := semaLoad t k off s
      .park (.value rd (loadVal sign swap (leBytes 4 w.toNat)) a) s
    | .page p off => .park (.pageLoad rd a p off sign swap) s
    | pl => match loadAt s t pl n, pl with
      | .got b s, _ => .access true false a n (setReg' t rd (loadVal sign swap b) s)
      | .bad c s, _ => .faultIn s c a
      | .parks, .mem m _ _ _ => .park (.load rd a m n sign swap) (hbmCount (hbmPortOf t) s)
      | .parks, .ctx off => .park (.ctxLoad rd a off n sign swap) s
      | .parks, _ => .stall

/-- The body of a store. -/
def storeBody (t : Nat) (rt rs : Reg) (imm : BitVec 16) (n : Nat) (swap : Bool) (th : Thread) (s : State) : Body :=
  let ea := effAddr th rs imm
  let a := ea.toNat
  let b := storeVal n swap (th.rg rt)
  match locate s t .store ea n with
  | .bad c => .fault c a
  | pl =>
    if (s.schussHeld t && firmsStore pl) || (th.pktBusy && inWindow (isTel t) a) then .stall
    else match pl with
    | .sema k _ => .access false true a n (semaStore t k (w32 (leNat b)) s)
    | .page p off => .park (.pageStore a p off (w32 (leNat b))) s
    | pl => match storeAt s t pl b, pl with
      | .done s, _ => .access false true a n s
      | .bad c, _ => .fault c a
      | .parks, .ctx off => .park (.ctxStore a off b) s
      | .parks, _ => .stall

/-- The body of an atomic: the new value of the old one, the operand and the expected value (R209, R210). -/
def amoBody (t : Nat) (rd rs rt : Reg) (n : Nat) (f : Nat → Nat → Nat → Nat) (th : Thread) (s : State) : Body :=
  let ea := th.rg rs
  let a := ea.toNat
  let m := 256 ^ n
  match locate s t .atomic ea n with
  | .mem p page _ _ =>
    if s.schussHeld t then .stall
    else if s.poisoned p n then .faultIn (loadUe page p 0 s) 0x0E a
    else
      let old := s.num p n
      .access true true a n (setReg' t rd (w64 old)
        (putNum p n (f old ((th.rg rt).toNat % m) ((th.rg rd).toNat % m) % m) s))
  | .bad c => .fault c a
  | _ => .fault 0x0D a

def amoAdd (old rt _ : Nat) : Nat := old + rt
def amoSwap (_ rt _ : Nat) : Nat := rt
def amoCas (old rt rd : Nat) : Nat := if old = rd then rt else old

/-! ### Loads (R208) -/

def execLb (t : Tid) (rd rs : Reg) (imm : BitVec 16) (s : State) : Outcome :=
  .next (runInsn (fmtI 0x10 rd rs imm) t.toNat (loadBody t.toNat rd rs imm 1 true false) s)
def execLbu (t : Tid) (rd rs : Reg) (imm : BitVec 16) (s : State) : Outcome :=
  .next (runInsn (fmtI 0x11 rd rs imm) t.toNat (loadBody t.toNat rd rs imm 1 false false) s)
def execLh (t : Tid) (rd rs : Reg) (imm : BitVec 16) (s : State) : Outcome :=
  .next (runInsn (fmtI 0x12 rd rs imm) t.toNat (loadBody t.toNat rd rs imm 2 true false) s)
def execLhu (t : Tid) (rd rs : Reg) (imm : BitVec 16) (s : State) : Outcome :=
  .next (runInsn (fmtI 0x13 rd rs imm) t.toNat (loadBody t.toNat rd rs imm 2 false false) s)
def execLw (t : Tid) (rd rs : Reg) (imm : BitVec 16) (s : State) : Outcome :=
  .next (runInsn (fmtI 0x14 rd rs imm) t.toNat (loadBody t.toNat rd rs imm 4 true false) s)
def execLwu (t : Tid) (rd rs : Reg) (imm : BitVec 16) (s : State) : Outcome :=
  .next (runInsn (fmtI 0x15 rd rs imm) t.toNat (loadBody t.toNat rd rs imm 4 false false) s)
def execLd (t : Tid) (rd rs : Reg) (imm : BitVec 16) (s : State) : Outcome :=
  .next (runInsn (fmtI 0x16 rd rs imm) t.toNat (loadBody t.toNat rd rs imm 8 false false) s)
def execLhs (t : Tid) (rd rs : Reg) (imm : BitVec 16) (s : State) : Outcome :=
  .next (runInsn (fmtI 0x18 rd rs imm) t.toNat (loadBody t.toNat rd rs imm 2 false true) s)
def execLws (t : Tid) (rd rs : Reg) (imm : BitVec 16) (s : State) : Outcome :=
  .next (runInsn (fmtI 0x19 rd rs imm) t.toNat (loadBody t.toNat rd rs imm 4 false true) s)
def execLds (t : Tid) (rd rs : Reg) (imm : BitVec 16) (s : State) : Outcome :=
  .next (runInsn (fmtI 0x1A rd rs imm) t.toNat (loadBody t.toNat rd rs imm 8 false true) s)

/-! ### Stores (R208) -/

def execSb (t : Tid) (rt rs : Reg) (imm : BitVec 16) (s : State) : Outcome :=
  .next (runInsn (fmtI 0x1B rt rs imm) t.toNat (storeBody t.toNat rt rs imm 1 false) s)
def execSh (t : Tid) (rt rs : Reg) (imm : BitVec 16) (s : State) : Outcome :=
  .next (runInsn (fmtI 0x1C rt rs imm) t.toNat (storeBody t.toNat rt rs imm 2 false) s)
def execSw (t : Tid) (rt rs : Reg) (imm : BitVec 16) (s : State) : Outcome :=
  .next (runInsn (fmtI 0x1D rt rs imm) t.toNat (storeBody t.toNat rt rs imm 4 false) s)
def execSd (t : Tid) (rt rs : Reg) (imm : BitVec 16) (s : State) : Outcome :=
  .next (runInsn (fmtI 0x1E rt rs imm) t.toNat (storeBody t.toNat rt rs imm 8 false) s)
def execShs (t : Tid) (rt rs : Reg) (imm : BitVec 16) (s : State) : Outcome :=
  .next (runInsn (fmtI 0x1F rt rs imm) t.toNat (storeBody t.toNat rt rs imm 2 true) s)
def execSws (t : Tid) (rt rs : Reg) (imm : BitVec 16) (s : State) : Outcome :=
  .next (runInsn (fmtI 0x20 rt rs imm) t.toNat (storeBody t.toNat rt rs imm 4 true) s)
def execSds (t : Tid) (rt rs : Reg) (imm : BitVec 16) (s : State) : Outcome :=
  .next (runInsn (fmtI 0x21 rt rs imm) t.toNat (storeBody t.toNat rt rs imm 8 true) s)

/-! ### Atomics (R209) -/

def execAaddW (t : Tid) (rd rs rt : Reg) (s : State) : Outcome :=
  .next (runInsn (fmtA 0x22 rd rs rt 0) t.toNat (amoBody t.toNat rd rs rt 4 amoAdd) s)
def execAaddD (t : Tid) (rd rs rt : Reg) (s : State) : Outcome :=
  .next (runInsn (fmtA 0x22 rd rs rt 1) t.toNat (amoBody t.toNat rd rs rt 8 amoAdd) s)
def execAswpW (t : Tid) (rd rs rt : Reg) (s : State) : Outcome :=
  .next (runInsn (fmtA 0x22 rd rs rt 2) t.toNat (amoBody t.toNat rd rs rt 4 amoSwap) s)
def execAswpD (t : Tid) (rd rs rt : Reg) (s : State) : Outcome :=
  .next (runInsn (fmtA 0x22 rd rs rt 3) t.toNat (amoBody t.toNat rd rs rt 8 amoSwap) s)
def execAcasW (t : Tid) (rd rs rt : Reg) (s : State) : Outcome :=
  .next (runInsn (fmtA 0x22 rd rs rt 4) t.toNat (amoBody t.toNat rd rs rt 4 amoCas) s)
def execAcasD (t : Tid) (rd rs rt : Reg) (s : State) : Outcome :=
  .next (runInsn (fmtA 0x22 rd rs rt 5) t.toNat (amoBody t.toNat rd rs rt 8 amoCas) s)

end Sys2Proof.Machine
end

