-- ==== Sys2Proof/Machine/Control.lean ====
section
/-! DEFINITION. Branches and jumps with the branch target buffer, the control registers, waiting, and thread control
(R158, R166-R168, R186-R193, R201, R212-R217, R220, R221). -/
namespace Sys2Proof.Machine
open Sys2Proof

/-! ### Branches (R158, R212) -/

/-- The address the branch target buffer predicts after a branch at `pc` (R158). -/
def State.predict (s : State) (t : Nat) (pc : Nat) : Nat :=
  let e := sget none s.btb (tCore t * 512 + pc / 4 % 512)
  if !bit (s.reg (pCLU (tCluster t)) (0x100 + t / 8 % 8 * 0x20)) 16 then pc + 4
  else match e with
  | some e => if e.tag.toNat = pc / 2048 ∧ 2 ≤ e.ctr.toNat then e.target.toNat else pc + 4
  | none => pc + 4

/-- A branch at `pc` resolves: its entry is updated and a misprediction counted (R158, R184). -/
def btbResolve (t pc next : Nat) (taken : Bool) (s : State) : State :=
  if isTel t then s
  else
    let i := tCore t * 512 + pc / 4 % 512
    let s' := if s.predict t pc = next then s else bump (pCLU (tCluster t)) (0x8004 + t / 8 % 8 * 0x10) s
    let tag := BitVec.ofNat 29 (pc / 2048)
    match sget none s.btb i with
    | some e =>
      if e.tag = tag then
        let e := if taken then { e with target := BitVec.ofNat 40 next, ctr := if e.ctr = 3 then 3 else e.ctr + 1 }
          else { e with ctr := if e.ctr = 0 then 0 else e.ctr - 1 }
        { s' with btb := sset s'.btb i (some e) }
      else if taken then { s' with btb := sset s'.btb i (some { tag := tag, target := BitVec.ofNat 40 next, ctr := 2 }) }
      else s'
    | none =>
      if taken then { s' with btb := sset s'.btb i (some { tag := tag, target := BitVec.ofNat 40 next, ctr := 2 }) } else s'

/-- A branch or jump to `tgt`, taken or not: a misaligned target faults (R201). -/
def branchBody (t : Nat) (taken : Bool) (tgt : W64) (th : Thread) (s : State) : Body :=
  let pc := th.pc.toNat
  if taken then
    if tgt.toNat % 4 ≠ 0 then .fault 0x05 tgt.toNat
    else
      let n := tgt.toNat % 2 ^ 40
      .jump n (btbResolve t pc n true s)
  else .jump (pc + 4) (btbResolve t pc (pc + 4) false s)

/-- A conditional branch (R212). -/
def brInsn (op : Nat) (t : Tid) (rs rt : Reg) (off : BitVec 16) (c : W64 → W64 → Bool) (s : State) : Outcome :=
  .next (runInsn (fmtI op rs rt off) t.toNat
    (fun th s => branchBody t.toNat (c (th.rg rs) (th.rg rt)) (target th.pc 16 off.toNat) th s) s)

def execBeq (t : Tid) (rs rt : Reg) (off : BitVec 16) (s : State) : Outcome := brInsn 0x28 t rs rt off (fun a b => a == b) s
def execBne (t : Tid) (rs rt : Reg) (off : BitVec 16) (s : State) : Outcome := brInsn 0x29 t rs rt off (fun a b => a != b) s
def execBlt (t : Tid) (rs rt : Reg) (off : BitVec 16) (s : State) : Outcome := brInsn 0x2A t rs rt off (fun a b => a.slt b) s
def execBge (t : Tid) (rs rt : Reg) (off : BitVec 16) (s : State) : Outcome := brInsn 0x2B t rs rt off (fun a b => !a.slt b) s
def execBltu (t : Tid) (rs rt : Reg) (off : BitVec 16) (s : State) : Outcome := brInsn 0x2C t rs rt off (fun a b => a.ult b) s
def execBgeu (t : Tid) (rs rt : Reg) (off : BitVec 16) (s : State) : Outcome := brInsn 0x2D t rs rt off (fun a b => !a.ult b) s

def execJ (t : Tid) (off : BitVec 26) (s : State) : Outcome :=
  .next (runInsn (fmtJ 0x30 off) t.toNat (fun th s => branchBody t.toNat true (target th.pc 26 off.toNat) th s) s)
def execJal (t : Tid) (off : BitVec 26) (s : State) : Outcome :=
  .next (runInsn (fmtJ 0x31 off) t.toNat (fun th s =>
    branchBody t.toNat true (target th.pc 26 off.toNat) th (setReg' t.toNat 31 (w64 (th.pc.toNat + 4)) s)) s)
def execJalr (t : Tid) (rd rs : Reg) (imm : BitVec 16) (s : State) : Outcome :=
  .next (runInsn (fmtI 0x32 rd rs imm) t.toNat (fun th s =>
    branchBody t.toNat true (effAddr th rs imm) th (setReg' t.toNat rd (w64 (th.pc.toNat + 4)) s)) s)

/-! ### Control registers (R187-R192, R213) -/

/-- TID (R188). -/
def tidWord (t : Nat) : W64 :=
  if isTel t then w64 (0x80000000 + (t - 2048)) else w64 (tCore t * 0x10000 + t)

/-- Bits of CPEN that exist for a thread (R191). -/
def cpenMask (part : Part) (t : Nat) : Nat :=
  let units := if isTel t then (if Config.hasCry part then 0x2A else 0x22)
    else 0x27 + (if Config.hasCry part then 8 else 0) + (if Config.hasSige part then 16 else 0)
  units * 0x010101

/-- Bits of a REGION register that hold a value (R200). -/
def regionMask : W64 := w64 0xF03F00FFFFFFF000

/-- A control register by number, none where the number is undefined (R187). -/
def State.csr (s : State) (t n : Nat) : Option W64 :=
  let th := s.thr t
  if n = 0 then some (tidWord t)
  else if n = 1 then some (th.pl.setWidth 64)
  else if n = 2 then some ((s.status t).setWidth 64)
  else if n = 3 then some (th.epc.setWidth 64)
  else if n = 4 then some (th.cause.setWidth 64)
  else if n = 5 then some (th.evmask.setWidth 64)
  else if n = 6 then some ((s.evpend t).setWidth 64)
  else if n = 7 then some (th.cpen.setWidth 64)
  else if n = 8 then some th.timer
  else if n = 9 then some (th.startPc.setWidth 64)
  else if n = 10 then some s.time.cycle
  else if 0x10 ≤ n ∧ n < 0x18 then some (sget 0 th.region (n - 0x10))
  else none

/-- The thread may write the control register at its level (R187). -/
def csrWritable (pl : BitVec 2) (n : Nat) : Bool :=
  n == 5 || n == 6 || n == 8 || (pl != 0 && (n == 7 || (decide (0x10 ≤ n) && decide (n < 0x18))))

/-- Latched events, which a CSRWR of 1 clears (R190). -/
def latchedMask : Word := 0x77C

/-- The effect of a CSRWR on the thread (R188-R192, R200). -/
def csrWrite (part : Part) (t n : Nat) (v : W64) (th : Thread) : Thread :=
  if n = 5 then { th with evmask := lo32 v &&& 0x7FF }
  else if n = 6 then { th with evlatch := th.evlatch &&& ~~~(lo32 v &&& latchedMask) }
  else if n = 7 then
    let m := w32 (cpenMask part t % (if th.pl.toNat < 2 then 0x10000 else 0x1000000))
    { th with cpen := (th.cpen &&& ~~~m) ||| (lo32 v &&& m) }
  else if n = 8 then { th with timer := v }
  else { th with region := sset th.region (n - 0x10) (v &&& regionMask) }

def execCsrrd (t : Tid) (rd rs : Reg) (imm : BitVec 16) (s : State) : Outcome :=
  .next (runInsn (fmtI 2 rd rs imm) t.toNat (fun _ s =>
    if rs ≠ 0 ∨ 0x1000 ≤ imm.toNat then .fault 0x01 0
    else match s.csr t.toNat imm.toNat with
    | some v => .retire (setReg' t.toNat rd v s)
    | none => .fault 0x01 0) s)

def execCsrwr (t : Tid) (rd rs : Reg) (imm : BitVec 16) (s : State) : Outcome :=
  .next (runInsn (fmtI 3 rd rs imm) t.toNat (fun th s =>
    if 0x1000 ≤ imm.toNat then .fault 0x01 0
    else match s.csr t.toNat imm.toNat with
    | some v =>
      if csrWritable th.pl imm.toNat then
        .retire (updThr t.toNat (fun x => (csrWrite s.part t.toNat imm.toNat (th.rg rs) x).setRg rd v) s)
      else .fault 0x02 0
    | none => .fault 0x01 0) s)

/-! ### Waiting and ordering (R214, R215, R220, R221) -/

def execWait (t : Tid) (rd rs rt : Reg) (s : State) : Outcome :=
  .next (runInsn (fmtA 1 rd rs rt 0x10) t.toNat (fun th s =>
    if rs ≠ 0 ∨ rt ≠ 0 then .fault 0x01 0
    else if th.evmask = 0 then .fault 0x14 0
    else
      let ev := s.evpend t.toNat &&& th.evmask
      if ev ≠ 0 then .retire (setReg' t.toNat rd (w64 ev.toNat) s) else .wait rd s) s)

/-- YIELD only gives up issue slots (R215). -/
def execYield (t : Tid) (rd rs rt : Reg) (s : State) : Outcome :=
  .next (runInsn (fmtA 1 rd rs rt 0x11) t.toNat (fun _ s =>
    if rd ≠ 0 ∨ rs ≠ 0 ∨ rt ≠ 0 then .fault 0x01 0 else .retire s) s)
/-- FENCE: in this model a thread's accesses have taken effect when its next instruction runs (R154, R220). -/
def execFence (t : Tid) (rd rs rt : Reg) (s : State) : Outcome :=
  .next (runInsn (fmtA 1 rd rs rt 0x12) t.toNat (fun _ s =>
    if rd ≠ 0 ∨ rs ≠ 0 ∨ rt ≠ 0 then .fault 0x01 0 else .retire s) s)
def execTrap (t : Tid) (rd rs : Reg) (imm : BitVec 16) (s : State) : Outcome :=
  .next (runInsn (fmtI 0x27 rd rs imm) t.toNat (fun _ _ =>
    if rd ≠ 0 ∨ rs ≠ 0 then .fault 0x01 0 else .fault 0x13 0) s)

/-! ### Starting and stopping (R166-R168, R177, R216) -/

/-- The thread that an address names to an issuer: a Telemark issuer names Telemark threads (R216). None: absent. -/
def targetThread (part : Part) (t a : Nat) : Option Nat :=
  if isTel t then (if a < 8 then some (2048 + a) else none)
  else if a / 512 < Config.pistes part then some a else none

/-- Right of a thread to start or stop another (R168). -/
def threadRight (stop : Bool) (t u : Nat) : Bool :=
  isTel t || (t % 8 == 0 && tCore t == tCore u) || (isSup t && tPiste t == tPiste u && !isSup u) || (stop && t == u)

/-- A TSTART judged: its status, and the target where it starts one (R167, R216). -/
def tstartJudge (s : State) (t : Nat) (a pc : W64) : Status × Option Nat :=
  if 2048 ≤ a.toNat then (.badArg, none)
  else match targetThread s.part t a.toNat with
  | none => (.absent, none)
  | some u =>
    if !threadRight false t u then (.notOwner, none)
    else if pc.toNat % 4 ≠ 0 ∨ pc.toNat < 0x20000000 ∨ 0x20080000 ≤ pc.toNat then (.badArg, none)
    else if (s.thr u).st ≠ .stopped ∨ (!isTel u && s.lost (tPiste u)) then (.busy, none)
    else if (s.thr t).pl.toNat < (s.thr u).pl.toNat then (.badArg, none)
    else (.ok, some u)

/-- A stopped thread starts at an address (R167). -/
def startThr (u pc : Nat) (s : State) : State :=
  updThr u (fun th =>
    { th with st := .running, startPc := BitVec.ofNat 40 pc, pc := BitVec.ofNat 40 pc, stopPending := false }) s

def execTstart (t : Tid) (rd rs rt : Reg) (s : State) : Outcome :=
  .next (runInsn (fmtA 1 rd rs rt 0x13) t.toNat (fun th s =>
    if s.schussHeld t.toNat then .stall
    else
      let (st, u) := tstartJudge s t.toNat (th.rg rs) (th.rg rt)
      let s := setReg' t.toNat rd (w64 st.code) s
      .retire (match u with
        | some u => startThr u (th.rg rt).toNat s
        | none => s)) s)

/-- A TSTOP judged and carried out (R167). -/
def tstop (t : Nat) (a : W64) (s : State) : Status × State :=
  if 2048 ≤ a.toNat then (.badArg, s)
  else match targetThread s.part t a.toNat with
  | none => (.absent, s)
  | some u =>
    if !threadRight true t u then (.notOwner, s)
    else
      let th := s.thr u
      match th.st with
      | .stopped => (.ok, s)
      | .faulted | .halted | .offline => (.busy, s)
      | .parked => (.ok, setThr u { th with stopPending := true } s)
      | .running | .waiting =>
        if u = t then (.ok, setThr u { th with stopPending := true } s)
        else (.ok, setThr u { th with st := .stopped, park := none } s)

def execTstop (t : Tid) (rd rs rt : Reg) (s : State) : Outcome :=
  .next (stopIfPending t.toNat (runInsn (fmtA 1 rd rs rt 0x14) t.toNat (fun th s =>
    if rt ≠ 0 then .fault 0x01 0
    else if s.schussHeld t.toNat then .stall
    else
      let (st, s) := tstop t.toNat (th.rg rs) s
      .retire (setReg' t.toNat rd (w64 st.code) s)) s))

/-! ### Staging (R178, R217) -/

def execStage (t : Tid) (rd rs : Reg) (imm : BitVec 16) (s : State) : Outcome :=
  .next (runInsn (fmtI 0x26 rd rs imm) t.toNat (fun th s =>
    if rd ≠ 0 ∨ 8 ≤ imm.toNat then .fault 0x01 0
    else .retire (updThr t.toNat (fun x =>
      { x with stage := sset x.stage imm.toNat (th.rg rs), stageLen := max x.stageLen (imm.toNat + 1) }) s)) s)

end Sys2Proof.Machine
end

