-- ==== Sys2Proof/Machine/Bpm.lean ====
section
/-! DEFINITION. The Buffer Pool Manager, cells and chains, dynamic scratchpad blocks, the scratchpad scrub and the secure
wipe (R330-R355). -/
namespace Sys2Proof.Machine
open Sys2Proof

/-! ### Cells (R330, R331) -/

/-- Number of cells (R330). -/
def cellCount : Nat := 393216
def State.cellCtl (s : State) (c : Nat) : W64 := sget 0 s.cells c
def setCellCtl (c : Nat) (w : W64) (s : State) : State := { s with cells := sset s.cells c w }
def ctlRefs (w : W64) : Nat := fld w 40 36
def ctlReq (w : W64) : Nat := fld w 58 48
/-- Owner tag of a control word: KEY * 2,048 + REQ (R335). -/
def ctlTag (w : W64) : Nat := fld w 63 59 * 2048 + ctlReq w
/-- A control word from its fields (R330). -/
def mkCtl (key req refs fill start : Nat) (last : Bool) (next : Nat) : W64 :=
  w64 (key * 2 ^ 59 + req * 2 ^ 48 + refs * 2 ^ 36 + fill * 2 ^ 28 + start * 2 ^ 20 + b2n last * 2 ^ 19 + next)
/-- The control word of a cell reads with an uncorrectable error (R333). -/
def State.ctlBad (s : State) (c : Nat) : Bool := s.poisoned (spaceBase 15 + c * 8) 8

/-- The cells of a chain from its head, by fuel (R331): up to the last, or to a control word that cannot be read. -/
def chainCells (s : State) : Nat → Nat → List Nat
  | 0, _ => []
  | f + 1, c =>
    if s.ctlBad c then []
    else
      let w := s.cellCtl c
      if bit w 19 then [c] else c :: chainCells s f (fld w 18 0)
/-- The chain from a head cell: at most 64 cells (R331). -/
def State.chain (s : State) (head : Nat) : List Nat := chainCells s 64 head

/-- The valid bytes of a cell (R331). -/
def State.cellBytes (s : State) (c : Nat) : Bytes :=
  let w := s.cellCtl c
  s.bytes (cellA c + fld w 27 20) (fld w 35 28 + 1)
/-- A packet's bytes in its cells (R331). -/
def State.chainBytes (s : State) (cells : List Nat) : Bytes := cells.flatMap s.cellBytes
/-- Some byte or control word of the cells reads with an uncorrectable error (R333). -/
def State.cellsBad (s : State) (cells : List Nat) : Bool := cells.any (fun c => s.ctlBad c || s.poisoned (cellA c) 256)

/-- A cell's words sound again: its data and its control word are written anew at every allocation (R333). -/
def soundCell (c : Nat) (s : State) : State :=
  { s with poison := s.poison.filter (fun w => w != (spaceBase 15 + c * 8) / 8 &&
      !(decide (cellA c ≤ w * 8) && decide (w * 8 < cellA c + 256))) }
/-- An uncorrectable error of a cell's control word or data, reported on the PBUF page with its word (R333, R354). -/
def cellUe (ctl : Bool) (word : Nat) (s : State) : State :=
  bump pPBUF (if ctl then 0x8004 else 0x8000) (srcErr pPBUF (b2n ctl) word true s)
/-- The first of some cells that cannot be read is reported; nothing where all are sound (R333). -/
def reportCells (cells : List Nat) (s : State) : State :=
  match cells.find? (fun c => s.cellsBad [c]) with
  | some c => if s.ctlBad c then cellUe true c s else cellUe false (c * 32) s
  | none => s

/-- Bytes written to cells in order, each filled from byte 0 and full except the last, and the cells chained (R331). -/
def fillCells : List Nat → Bytes → State → State
  | [], _, s => s
  | c :: r, b, s =>
    let n := min b.length 256
    let w := s.cellCtl c
    let w := setFld (setFld w 35 28 (n - 1)) 27 20 0
    let w := setFld (setFld w 19 19 (b2n r.isEmpty)) 18 0 (r.headD 0)
    fillCells r (b.drop 256) (putBytes (cellA c) (b.take 256) (setCellCtl c w (soundCell c s)))

/-! ### Pools and requesters (R334-R337) -/

/-- The number names a requester (R335). -/
def isRequester (r : Nat) : Bool :=
  decide (r < 1058) || (decide (1088 ≤ r) && decide (r < 1345)) || (decide (1348 ≤ r) && decide (r < 1352))
/-- The requester is present on the part (R335). -/
def reqPresent (part : Part) (r : Nat) : Bool :=
  if r < 1024 then decide (r / 8 < Config.fieldLanes part)
  else if r < 1056 then decide (r - 1024 < Config.trunkLanes part)
  else if 1348 ≤ r then decide (r - 1348 < Config.pistes part)
  else isRequester r

def State.reqCfg (s : State) (r : Nat) : Word := s.reg pBPM (0x1000 + r * 8)
def State.reqPool (s : State) (r : Nat) : Nat := fld (s.reqCfg r) 29 24
def State.reqReserve (s : State) (r : Nat) : Nat := fld (s.reqCfg r) 18 0
def State.reqCeil (s : State) (r : Nat) : Nat := s.rfld pBPM (0x1004 + r * 8) 18 0
/-- Cells a requester holds (R336). -/
def State.used (s : State) (r : Nat) : Nat := (s.cells.filter (fun e => ctlRefs e.2 != 0 && ctlReq e.2 == r)).length

/-- POOL_CFG as enable, first cell, number of cells (R334). -/
def poolOf (w : Word) : Bool × Nat × Nat := (bit w 31, fld w 28 16 * 64, fld w 12 0 * 64)
def State.pool (s : State) (p : Nat) : Bool × Nat × Nat := poolOf (s.reg pBPM (0x200 + 4 * p))

/-- Allocated cells of a range, those of a bad bitmap word included (R339). -/
def State.heldIn (s : State) (base n : Nat) : Nat :=
  let real := (s.cells.filter (fun e => decide (base ≤ e.1) && decide (e.1 < base + n) && ctlRefs e.2 != 0 &&
    !s.badBitmap.contains (e.1 / 64))).length
  real + 64 * (s.badBitmap.filter (fun w => decide (base ≤ w * 64) && decide (w * 64 < base + n))).length
/-- Free cells of a pool. -/
def State.poolFree (s : State) (p : Nat) : Nat := let (_, b, n) := s.pool p; n - s.heldIn b n

/-- The requesters with a reserve, from the registers written (an unwritten one has none). -/
def State.reservers (s : State) : List Nat :=
  (s.regs.filter (fun e => decide (regKey pBPM 0x1000 ≤ e.1) && decide (e.1 < regKey pBPM 0x4000) && e.1 % 8 == 0)).map
    (fun e => (e.1 - regKey pBPM 0x1000) / 8)
/-- owed(p) of R336. -/
def State.owed (s : State) (p : Nat) : Nat :=
  ((s.reservers.filter (fun r => s.reqPool r == p)).map (fun r => s.reqReserve r - s.used r)).sum
/-- Sum of RESERVE over the requesters bound to a pool. -/
def State.reserveSum (s : State) (p : Nat) : Nat :=
  ((s.reservers.filter (fun r => s.reqPool r == p)).map s.reqReserve).sum

/-- The lowest free cell from `k` on below `e`, by fuel. -/
def findFree (s : State) (e : Nat) : Nat → Nat → Option Nat
  | 0, _ => none
  | f + 1, k =>
    if e ≤ k then none
    else if s.badBitmap.contains (k / 64) then findFree s e f ((k / 64 + 1) * 64)
    else if ctlRefs (s.cellCtl k) = 0 then some k else findFree s e f (k + 1)

/-- A request for one cell (R336): the status, the cell granted, and the state. -/
def requestCell (r key : Nat) (s : State) : Status × Nat × State :=
  let p := s.reqPool r
  let (en, base, n) := s.pool p
  if !en then (.absent, 0, s)
  else
    let free := s.poolFree p
    if (s.used r < s.reqReserve r ∧ 1 ≤ free) ∨ (s.used r < s.reqCeil r ∧ s.owed p < free) then
      match findFree s (base + n) (s.cells.length + s.badBitmap.length + 1) base with
      | some c => (.ok, c, setCellCtl c (mkCtl (key % 32) r 1 255 0 true 0) s)
      | none => (.empty, 0, bump pBPM (0x9008 + p * 0x10) s)
    else if free = 0 then (.empty, 0, bump pBPM (0x9008 + p * 0x10) s)
    else (.quota, 0, bump pBPM (0x900C + p * 0x10) s)

/-- Cells whose REFS is lowered by one; those that reach 0 are free (R340). -/
def dropRefs (cells : List Nat) (s : State) : State :=
  cells.foldl (fun s c => let w := s.cellCtl c; setCellCtl c (setFld w 40 36 (ctlRefs w - 1)) s) s
/-- A reference added to every cell of a chain, none where a cell would pass 31 (R332). -/
def addRefs (cells : List Nat) (s : State) : Option State :=
  if cells.any (fun c => 31 ≤ ctlRefs (s.cellCtl c)) then none
  else some (cells.foldl (fun s c => let w := s.cellCtl c; setCellCtl c (setFld w 40 36 (ctlRefs w + 1)) s) s)

/-- A free rejected: counted, captured, raised and recorded (R341). -/
def rejectFree (double : Bool) (cell lane tag : Nat) (s : State) : State :=
  let s := bump pBPM (if double then 0x8004 else 0x8008) s
  let s := setReg pBPM 0x8010 (w32 (cell % 0x80000 + b2n (!double) * 0x100000 + lane * 0x1000000)) s
  let s := setReg pBPM 0x8014 (w32 (tag % 0x10000 + ctlTag (s.cellCtl cell) * 0x10000)) s
  let s := post 0x03 pBPM (s.reg pBPM 0x8010).toNat (s.reg pBPM 0x8014).toNat s
  raiseBit pBPM 8 s

/-- The first cell of a chain that rejects a free: with REFS 0, or with another owner (R340). -/
def firstReject (s : State) (tag : Option Nat) : List Nat → Option (Status × Nat)
  | [] => none
  | c :: r =>
    let w := s.cellCtl c
    if ctlRefs w = 0 then some (.doubleFree, c)
    else match tag with
      | some g => if ctlTag w = g then firstReject s tag r else some (.notOwner, c)
      | none => firstReject s tag r

/-- A free of a chain on a lane under an owner tag; none for RECLAIM, which is not checked (R340, R343). -/
def freeChain (lane head : Nat) (tag : Option Nat) (s : State) : Status × State :=
  let cells := s.chain head
  match firstReject s tag cells with
  | some (st, c) => (st, rejectFree (st == .doubleFree) c lane (tag.getD 0) s)
  | none => (.ok, dropRefs cells s)

/-- Cells for a frame of `n` cells, requested one at a time; a partial frame is freed at once (R336). -/
def requestCells (lane r key : Nat) : Nat → List Nat → State → Option (List Nat) × State
  | 0, got, s => (some got.reverse, s)
  | n + 1, got, s => match requestCell r key s with
    | (.ok, c, s) => requestCells lane r key n (c :: got) s
    | (_, _, s) => (none, dropRefs got s)

/-- KEY of a time: bits [15:11] of its nanoseconds (R335). -/
def keyOf (ns : Word) : Nat := fld ns 15 11

/-- A unit's own request for one cell (R336). -/
def execCellRequest (requester : BitVec 12) (key : BitVec 5) (s : State) : Outcome :=
  .next (if s.live && isRequester requester.toNat && reqPresent s.part requester.toNat then
    (requestCell requester.toNat key.toNat s).2.2 else s)

/-- A unit's own free of a chain (R340); which lane it comes on is a free value. -/
def execChainFree (cell : CellId) (tag : BitVec 17) (s : State) : Outcome :=
  .next (if s.live && decide (cell.toNat < cellCount) then
    (freeChain ((Config.errorInfo s.free).toNat % 14) cell.toNat (some (tag.toNat % 65536)) { s with free := s.free + 1 }).2
    else s)

/-- A bitmap word is rebuilt (R339). -/
def execBitmapRebuild (pool : BitVec 6) (word : BitVec 14) (s : State) : Outcome :=
  let (_, base, _) := s.pool pool.toNat
  .next (if s.live then { s with badBitmap := s.badBitmap.filter (· != base / 64 + word.toNat) } else s)

/-! ### The command interface (R343, R344) -/

def bpmAlloc (_ : Requester) (s : State) : Option Status × State :=
  let r := s.rfld pBPM 0x8100 10 0
  if !isRequester r then cmdFail .badArg s
  else if !reqPresent s.part r then cmdFail .absent s
  else
    let key := keyOf s.time.ns
    match requestCell r key s with
    | (.ok, c, s) => (some .ok, setReg pBPM 0x8110 (w32 (c + key * 0x80000)) s)
    | (st, _, s) => (some st, s)

def bpmFree (_ : Requester) (s : State) : Option Status × State :=
  let c := s.rfld pBPM 0x8100 18 0
  if cellCount ≤ c then cmdFail .badArg s
  else
    let (st, s) := freeChain 13 c (some (s.rfld pBPM 0x8104 15 0)) s
    (some st, s)

def bpmReclaim (req : Requester) (s : State) : Option Status × State :=
  let c := s.rfld pBPM 0x8100 18 0
  match req with
  | .tel _ | .loader =>
    if cellCount ≤ c then cmdFail .badArg s
    else
      let before := s.cells.length - (s.cells.filter (fun e => ctlRefs e.2 != 0)).length
      let (st, s) := freeChain 13 c none s
      let after := s.cells.length - (s.cells.filter (fun e => ctlRefs e.2 != 0)).length
      (some st, if st = .ok then bumpBy pBPM 0x800C (after - before) s else s)
  | _ => cmdFail .notOwner s

def bpmCmd (req : Requester) (v : Word) : State → WRes :=
  command pBPM 0x810C (fun s => match fld v 3 0 with
    | 1 => bpmAlloc req s
    | 2 => bpmFree req s
    | 3 => bpmReclaim req s
    | _ => cmdFail .badArg s)

def execBpmAlloc (req : Requester) (s : State) : Outcome := .next (cmdRow req pBPM 0x8108 0x810C (bpmAlloc req) s)
def execBpmFree (req : Requester) (s : State) : Outcome := .next (cmdRow req pBPM 0x8108 0x810C (bpmFree req) s)
def execBpmReclaim (req : Requester) (s : State) : Outcome := .next (cmdRow req pBPM 0x8108 0x810C (bpmReclaim req) s)

/-! ### Configuration writes (R334, R336, R337, R353) -/

/-- Two pools overlap. -/
def poolsOverlap (a b : Bool × Nat × Nat) : Bool :=
  a.1 && b.1 && decide (a.2.1 < b.2.1 + b.2.2) && decide (b.2.1 < a.2.1 + a.2.2)

/-- A write of POOL_CFG (R334). -/
def poolWrite (p : Nat) (v : Word) (s : State) : WRes :=
  let w := v &&& 0x9FFF1FFF
  let new := poolOf w
  let (_, ob, on) := s.pool p
  if cellCount < new.2.1 + new.2.2 then .refuse .badArg
  else if new.1 && (new.2.2 == 0 || decide (new.2.2 < s.reserveSum p) ||
      (rangeFrom 0 64).any (fun q => q != p && poolsOverlap new (s.pool q))) then .refuse .badArg
  else if ((ob, on) != (new.2.1, new.2.2)) && (s.cells.any (fun e =>
      decide (ob ≤ e.1) && decide (e.1 < ob + on) && ctlRefs e.2 != 0)) then .refuse .busy
  else .ok (setReg pBPM (0x200 + 4 * p) w s)

/-- A write of REQ_CFG (R335-R337). -/
def reqCfgWrite (r : Nat) (v : Word) (s : State) : WRes :=
  if !reqPresent s.part r then .refuse .absent
  else
    let w := v &&& 0x3F07FFFF
    let s' := setReg pBPM (0x1000 + r * 8) w s
    let p := fld w 29 24
    let (_, _, n) := s.pool p
    if s.reqCeil r < fld w 18 0 ∨ n < s'.reserveSum p then .refuse .badArg
    else if p ≠ s.reqPool r ∧ s.used r ≠ 0 then .refuse .busy
    else .ok s'

/-- A write of REQ_CEIL (R336). -/
def reqCeilWrite (r : Nat) (v : Word) (s : State) : WRes :=
  if !reqPresent s.part r then .refuse .absent
  else if fld v 18 0 < s.reqReserve r then .refuse .badArg
  else .ok (setReg pBPM (0x1004 + r * 8) (v &&& 0x7FFFF) s)

def bpmWrite (req : Requester) (off : Nat) (v mask : Word) (s : State) : WRes :=
  if off = 0x8108 then bpmCmd req v s
  else if 0x200 ≤ off ∧ off < 0x300 then poolWrite ((off - 0x200) / 4) v s
  else if 0x1000 ≤ off ∧ off < 0x4000 then
    let r := (off - 0x1000) / 8
    if !isRequester r then .ok s
    else if off % 8 = 0 then reqCfgWrite r v s else reqCeilWrite r v s
  else .ok (store pBPM off mask v s)

def bpmRead (s : State) (off : Nat) : Option Word :=
  if off = 0x8000 then some (w32 (s.heldIn 0 cellCount))
  else if 0x9000 ≤ off ∧ off < 0x9400 ∧ off % 16 = 0 then some (w32 (s.poolFree ((off - 0x9000) / 16)))
  else if 0x9000 ≤ off ∧ off < 0x9400 ∧ off % 16 = 4 then some (w32 (s.owed ((off - 0x9000) / 16)))
  else if 0xA000 ≤ off ∧ off < 0xC000 then
    let r := (off - 0xA000) / 4
    if isRequester r && reqPresent s.part r then
      some (w32 (s.used r + b2n (decide (s.reqCeil r < s.used r)) * 0x80000000)) else some 0
  else if 0x1000 ≤ off ∧ off < 0x4000 ∧ !(isRequester ((off - 0x1000) / 8) && reqPresent s.part ((off - 0x1000) / 8)) then some 0
  else none

/-- The cells freed by SOFT_RESET of the page in CONFIGURE (R353). -/
def bpmSoftReset (s : State) : State := { s with cells := s.cells.map (fun e => (e.1, setFld e.2 40 36 0)) }

def pbufRead (s : State) (off : Nat) : Option Word :=
  let c := (s.reg pPBUF 0x8100).toNat
  if off = 0x8108 then some (lo32 (s.cellCtl c))
  else if off = 0x810C then some (hi32 (s.cellCtl c))
  else if 0xF000 ≤ off ∧ off < 0xF100 then some (w32 (s.num (cellA c + (off - 0xF000)) 4))
  else none

/-! ### Dynamic scratchpad blocks (R348, R355) -/

/-- The cluster of a CLU page: its number with the piste in [4:3]. -/
def cluOf (page : Nat) : Nat := (page - 0x80) / 0x20 * 8 + (page - 0x80) % 0x20 - 8

/-- Blocks of the dynamic region. -/
def State.dynBlocks (s : State) (cl : Nat) : Nat := s.rfld (pCLU cl) 0x600 11 8 * 16
def State.dynOwner (s : State) (cl b : Nat) : Nat := sget 0 s.dyn (cl * 256 + b)

/-- Right to act for a thread (R348). -/
def dynRight (req : Requester) (t : Nat) : Bool :=
  match req with
  | .tel _ | .loader => true
  | .core u => (u.toNat % 8 == 0 && tCore u.toNat == tCore t) || (isSup u.toNat && tPiste u.toNat == tPiste t)
  | _ => false

def dynAlloc (cl : Nat) (req : Requester) (s : State) : Option Status × State :=
  let t := s.rfld (pCLU cl) 0x8500 10 0
  if Config.pistes s.part ≤ t / 512 then cmdFail .absent s
  else if !dynRight req t then cmdFail .notOwner s
  else
    let held := ((rangeFrom 0 (s.dynBlocks cl)).filter (fun b => s.dynOwner cl b == t + 1)).length
    match (rangeFrom 0 (s.dynBlocks cl)).find? (fun b => s.dynOwner cl b == 0) with
    | none => cmdFail .empty s
    | some b =>
      if s.rfld (pCLU cl) 0x600 23 16 ≤ held then cmdFail .quota s
      else (some .ok, setReg (pCLU cl) 0x850C (w32 b) { s with dyn := sset s.dyn (cl * 256 + b) (t + 1) })

def dynFree (cl : Nat) (req : Requester) (s : State) : Option Status × State :=
  let t := s.rfld (pCLU cl) 0x8500 10 0
  let b := s.rfld (pCLU cl) 0x8500 23 16
  if Config.pistes s.part ≤ t / 512 then cmdFail .absent s
  else if !dynRight req t then cmdFail .notOwner s
  else if s.dynBlocks cl ≤ b then cmdFail .badArg s
  else if s.dynOwner cl b = 0 then cmdFail .doubleFree s
  else if s.dynOwner cl b ≠ t + 1 then cmdFail .notOwner s
  else (some .ok, { s with dyn := sset s.dyn (cl * 256 + b) 0 })

def dynCmd (cl : Nat) (req : Requester) (v : Word) : State → WRes :=
  command (pCLU cl) 0x8508 (fun s => match fld v 3 0 with
    | 1 => dynAlloc cl req s
    | 2 => dynFree cl req s
    | _ => cmdFail .badArg s)

/-- A write of CLU_DYN_CFG (R355). -/
def dynCfgWrite (cl : Nat) (v : Word) (s : State) : WRes :=
  let held := (rangeFrom 0 240).any (fun b => s.dynOwner cl b != 0)
  let old := s.reg (pCLU cl) 0x600
  if 15 < fld v 3 0 + fld v 11 8 ∨ 240 < fld v 23 16 then .refuse .badArg
  else if held && (fld old 3 0 != fld v 3 0 || fld old 11 8 != fld v 11 8) then .refuse .busy
  else .ok (setReg (pCLU cl) 0x600 (v &&& 0x00FF0F0F) s)

/-- The blocks of a thread returned (R171). -/
def dynReturn (t : Nat) (s : State) : State := { s with dyn := s.dyn.map (fun e => if e.2 = t + 1 then (e.1, 0) else e) }

/-- A dynamic-block command row on a CLU page. -/
def dynRow (req : Requester) (page : Page) (body : Nat → Requester → State → Option Status × State) (s : State) : State :=
  match pageKind s.part page.toNat with
  | some (.clu p c) => cmdRow req page.toNat 0x8504 0x8508 (body (p * 8 + c) req) s
  | _ => s

def execDynAlloc (req : Requester) (page : Page) (s : State) : Outcome := .next (dynRow req page dynAlloc s)
def execDynFree (req : Requester) (page : Page) (s : State) : Outcome := .next (dynRow req page dynFree s)

/-- Flat address of a word of a cluster's memories, by SOURCE (R347). -/
def cluWordAddr (cl source addr : Nat) : Nat :=
  if source < 8 then localA (cl * 8 + source) (addr % 4096 * 8)
  else if source = 8 then clusterA cl (addr % 131072 * 8) else icsA cl (addr % 65536 * 8)

/-- The scrub meets an error: a correctable one is corrected, the word of an uncorrectable one is marked (R347). -/
def execScratchpadScrub (page : Page) (source : BitVec 8) (addr : Word) (ue : Bool) (s : State) : Outcome :=
  .next (match pageKind s.part page.toNat with
  | some (.clu p c) =>
    if !s.live || decide (9 ≤ source.toNat) then s
    else
      let s := srcErr page.toNat source.toNat addr.toNat ue s
      if ue then poisonMem (cluWordAddr (p * 8 + c) source.toNat addr.toNat) 8 s else s
  | _ => s)

/-! ### The secure wipe (R350-R352) -/

/-- A wipe of every secure part is triggered: accesses are blocked and every key slot loses VALID; CP3 commands under way end
with ABSENT, their packets unchanged (R351). FAIL stays until a restart (R352). -/
def startWipe (s : State) : State :=
  let units := (rangeFrom 0 (Config.pistes s.part * 8)) ++ [32]
  let was (s : State) (u : Nat) : Bool := (sget { running := false, done := false, fail := false : WipeState } s.wipes u).fail
  let s := units.foldl (fun s u => { s with wipes := sset s.wipes u { running := true, done := false, fail := was s u } }) s
  let s := { s with keyStores := [] }
  (s.threads.filter (fun e => e.2.cry.isSome)).foldl (fun s e =>
    let orphan := match e.2.cry with
      | some c => c.orphan
      | none => true
    let s := updThr e.1 (fun th => { th with cry := none, cryDone := true, cryAuth := false, cryStatus := 2 }) s
    if orphan then s else setEvent e.1 4 s) s

/-- CLU_WIPE_STATUS or TEL_WIPE_STATUS of a unit (R355). -/
def State.wipeStatus (s : State) (unit : Nat) : Word :=
  let w := sget { running := false, done := false, fail := false } s.wipes unit
  w32 (b2n w.done + b2n w.fail * 2 + b2n w.running * 4)

/-- The secure words of a unit written to zero (R351). -/
def zeroSecure (unit : Nat) (s : State) : State :=
  if unit = 32 then clearMem (telSecA 0) 0x40000 s else clearMem (clusterA unit 0xF0000) 0x10000 s

end Sys2Proof.Machine
end

