-- ==== Sys2Proof/Machine/Ports.lean ====
section
/-! DEFINITION. Logical ports: presence, states and statistics; the ingress writer and the frame check; packets' cells and
their release; what the classifier and the Gate hand to the traffic manager (R10-R14, R20, R96, R97, R110-R115, R332, R393, R412,
R419, R552, R553). -/
namespace Sys2Proof.Machine
open Sys2Proof

/-! ### Ports (R10, R12, R96, R110, R114) -/

/-- Page of a line or management port. -/
def portPage (p : Nat) : Nat := if p < 1024 then pFLG (p / 64) else if p < 1056 then pTRG ((p - 1024) / 4) else pMGP
/-- Offset of a port's statistics slot (R114). -/
def statBase (p : Nat) : Nat :=
  0xA000 + (if p < 1024 then p % 64 else if p < 1056 then (p - 1024) % 4 else p - 1056) * 0x80
/-- The port is a line or management port. -/
def isLine (p : Nat) : Bool := decide (p < 1058)
/-- A 32-bit statistics counter of a port raised. -/
def stat (p off : Nat) (s : State) : State := if isLine p then bump (portPage p) (statBase p + off) s else s

/-- FL_LANE_CFG of a field lane. -/
def State.flCfg (s : State) (lane : Nat) : Word := s.reg (pFLG (lane / 8)) (0x100 + lane % 8 * 0x40)
def State.flFmx (s : State) (lane : Nat) : Word := s.reg (pFLG (lane / 8)) (0x104 + lane % 8 * 0x40)
/-- The lane runs the Field Multiplex (R92). -/
def State.isFmxLane (s : State) (lane : Nat) : Bool := fld (s.flCfg lane) 2 0 == 3
/-- First lanes of the ports that a trunk group forms, with their number of lanes (R95). -/
def trunkPorts (cfg : Word) : List (Nat × Nat) :=
  if bit cfg 2 then [(0, 4)]
  else (if bit cfg 0 then [(0, 2)] else [(0, 1), (1, 1)]) ++ (if bit cfg 1 then [(2, 2)] else [(2, 1), (3, 1)])
/-- Number of lanes of a trunk port, 0 where the group forms no port with that number (R95). -/
def State.trunkLanesOf (s : State) (p : Nat) : Nat :=
  match (trunkPorts (s.reg (pTRG ((p - 1024) / 4)) 0x200)).find? (fun e => e.1 == (p - 1024) % 4) with
  | some e => e.2
  | none => 0

/-- The number is a port's that frames may be sent to; other numbers name no such port (R10). -/
def egressRange (p : Nat) : Bool := decide (p ≤ 1057) || (decide (1088 ≤ p) && decide (p ≤ 1344))
/-- The port is present on the part under the lane configuration (R96). -/
def State.portPresent (s : State) (p : Nat) : Bool :=
  if p < 1024 then
    decide (p / 8 < Config.fieldLanes s.part) &&
      (match fld (s.flCfg (p / 8)) 2 0 with
       | 1 | 2 => p % 8 == 0
       | 3 => true
       | _ => false)
  else if p < 1056 then decide (p - 1024 < Config.trunkLanes s.part) && s.trunkLanesOf p != 0
  else p == 1056 || p == 1057 || (decide (1088 ≤ p) && decide (p ≤ 1344))

/-- A port is an FMX sub-port (R98). -/
def State.isFmxPort (s : State) (p : Nat) : Bool := decide (p < 1024) && s.isFmxLane (p / 8)

/-- A line or management port's piste (R12, R13). -/
def State.portPiste (s : State) (p : Nat) : Nat :=
  if p < 1024 then p / 256 else if p < 1056 then (p - 1024) / 8
  else if p = 1056 then s.rfld pMGP 0x100 1 0 else s.rfld pMGP 0x100 3 2

def GclRun.reset : GclRun :=
  { list := 0x100000, cycle := 1000000, ext := 0, baseSec := 0, baseNs := 0, entry := 0, gates := 0xFF, running := false
    hold := false, endAt := 0, cycleEnd := 0, gap := false, mark := none, pendingChange := false }
def PortState.reset : PortState :=
  { state := 1, rx := none, queues := [], tx := none, held := none, credit := [], creditAt := 0, gcl := .reset
    verified := false }
def FmxLane.reset : FmxLane :=
  { lock := false, good := 0, bad := 0, hold := 0, link := 0, rate := 0, remoteFault := false, lastRound := none
    ownRound := 0, settle := 0, settled := 0, mismatch := 0, abortDue := 0 }
def State.port (s : State) (p : Nat) : PortState := sget .reset s.ports p
def updPort (p : Nat) (f : PortState → PortState) (s : State) : State := { s with ports := sset s.ports p (f (s.port p)) }
def State.fmxLane (s : State) (l : Nat) : FmxLane := sget .reset s.fmx l
def updFmx (l : Nat) (f : FmxLane → FmxLane) (s : State) : State := { s with fmx := sset s.fmx l (f (s.fmxLane l)) }

/-- The port is enabled by its lane, sub-port or page (R110). -/
def State.portEnabled (s : State) (p : Nat) : Bool :=
  bit (s.reg (portPage p) 0x10) 0 &&
    (if p < 1024 then
      (match fld (s.flCfg (p / 8)) 2 0 with
       | 1 | 2 => true
       | 3 => bit (s.flFmx (p / 8)) (p % 8)
       | _ => false)
     else if p < 1056 then bit (s.reg (portPage p) (0x100 + (p - 1024) % 4 * 0x40)) 0
     else bit (s.reg pMGP 0x100) (16 + (p - 1056)))

/-- The mode lets field and trunk lanes, or management ports, run their links (R112). -/
def linkMode (m : Mode) (p : Nat) : Bool :=
  match m with
  | .off | .reset | .boot | .zeroize => false
  | .fallback => decide (1056 ≤ p)
  | _ => true

/-- The reference input of a port's lanes, numbered as in CLK_REF_STATUS (R517, R518). -/
def refInput (p : Nat) : Nat := if p < 1024 then p / 64 else if p < 1056 then 16 + (p - 1024) / 4 else 24
/-- The reference input is present, in frequency, and its receiver on (R518, R534). -/
def State.refUp (s : State) (p : Nat) : Bool := bit s.refOk (refInput p) && bit (s.reg pCLK 0x100) (refInput p)

/-- The link state of a line or management port (R104, R110, R112, R518). -/
def State.portState (s : State) (p : Nat) : Nat :=
  if !s.portEnabled p then 0
  else if s.lost (s.portPiste p) || !linkMode s.modeNow p then 7
  else if !s.refUp p then 1
  else if s.isFmxPort p then
    let l := s.fmxLane (p / 8)
    let k := p % 8
    if l.remoteFault then 6
    else if l.lock && bit l.link k && !bit (l.settle ||| l.settled) k && bit l.rate k == bit (s.flFmx (p / 8)) (8 + k) then 4 else 1
  else (s.port p).state.toNat
/-- The port is UP. Instances and the Telemark complex have no link of their own. -/
def State.portUp (s : State) (p : Nat) : Bool := if isLine p then s.portPresent p && s.portState p == 4 else true

/-- Maximum frame length of a port (R97). -/
def State.maxFrame (s : State) (p : Nat) : Nat :=
  if p < 1024 then s.rfld (portPage p) (0x108 + p / 8 % 8 * 0x40) 13 0
  else if p < 1056 then s.rfld (portPage p) (0x210 + (p - 1024) % 4 * 4) 13 0
  else s.rfld pMGP 0x104 13 0

/-! ### Traffic by mode (R63, R553) -/

/-- The mode whose traffic rules hold: that of a transition whose cause has arisen (R553). -/
def State.trafficMode (s : State) : Mode :=
  match s.mode.trans with
  | some t => match t.target with
    | .configure | .safeState | .maintenance => t.target
    | _ => s.modeNow
  | none => s.modeNow
/-- The mode carries no traffic (R553). -/
def State.noTraffic (s : State) : Bool :=
  match s.trafficMode with
  | .configure => true
  | .safeState => !bit (s.reg pMODE 0x100) 0
  | _ => false
/-- The mode carries non-safety classes only (R553). -/
def State.nonSafetyOnly (s : State) : Bool :=
  match s.trafficMode with
  | .maintenance => true
  | .safeState => bit (s.reg pMODE 0x100) 0
  | _ => false

/-! ### Time of arrival (R197, R246, R419) -/

/-- The time base in nanoseconds. -/
def State.totalNs (s : State) : Nat := s.time.sec.toNat * 1000000000 + s.time.ns.toNat
/-- TS_RX_ADJ and TS_TX_ADJ of a port, signed nanoseconds (R419, R426). -/
def State.rxAdj (s : State) (p : Nat) : Int := ((s.regK (tmKey p 0x8204)).setWidth 16).toInt
def State.txAdj (s : State) (p : Nat) : Int := ((s.regK (tmKey p 0x8208)).setWidth 16).toInt
/-- Low 32 bits of an arrival instant on a port. -/
def State.stamp (s : State) (p : Nat) : Word := BitVec.ofInt 32 (Int.ofNat s.totalNs + s.rxAdj p)

/-! ### Packets -/

/-- A packet just arrived: its cells hold its bytes. -/
def Packet.new (port : Port) (src : Nat) (cells : List Nat) (owner len : Nat) (ts : Word) : Packet :=
  { st := .arrived, port := port, src := BitVec.ofNat 2 src, tgt := BitVec.ofNat 2 src, cells := cells
    owner := BitVec.ofNat 17 owner, len := len, tail := false, fail := none, plEnd := 0, lateLen := false, ts := ts
    parse := [], gen := false, prio := 0, cls := 0, order := 0, seq := 0, flow := 0, instance_ := 0, exc := 0
    noFlow := true, emMiss := false, express := false, liftPasses := 0, liftType := none, kind := 0, sugg := 0x7FF
    profile := 0, replays := 0, inflight := false, admitted := 0, cur := [], changed := false, edits := 0
    hdrs := [], rmask := 0, wmask := 0, snap := [], snapVer := [], shadow := [], hasSnap := false, schuss := false
    firm := false, ctxLost := false, held := [], sched := none, txts := none, corr := none, disp := 0, holder := none
    abandoned := false, timedOut := false, waited := false }

/-- The packet numbered, in the table. -/
def addPkt (k : Packet) (s : State) : State :=
  { setPkt s.nextPkt k s with nextPkt := s.nextPkt + 1 }

/-- The packet's cells freed on a lane; an incomplete frame keeps them until its last cell is written (R262, R340). -/
def freePkt (lane : Nat) (p : PktId) (s : State) : State :=
  match s.pkt p with
  | some k => match k.cells with
    | [] => s
    | c :: _ =>
      if k.tail then (freeChain lane c (some (k.owner.toNat % 65536)) (setPkt p { k with cells := [] } s)).2 else s
  | none => s

/-- The packet leaves the in-flight count of its bank (R138). -/
def leaveBank (p : PktId) (s : State) : State :=
  match s.pkt p with
  | some k =>
    if !k.inflight then s
    else
      let s := setPkt p { k with inflight := false } s
      let c := s.cls
      let settle (b : BankState) (n : Nat) : BankState :=
        match b with
        | .draining | .expired => if n = 0 then .idle else b
        | b => b
      if k.gen then { s with cls := { c with inflight1 := c.inflight1 - 1, bank1 := settle c.bank1 (c.inflight1 - 1) } }
      else { s with cls := { c with inflight0 := c.inflight0 - 1, bank0 := settle c.bank0 (c.inflight0 - 1) } }
  | none => s

/-- The packet is dropped: it leaves processing and its cells are freed (R129, R138, R262). -/
def dropPkt (lane : Nat) (p : PktId) (s : State) : State :=
  freePkt lane p (updPkt p (fun k => { k with st := .gone }) (leaveBank p s))

/-- The bank of the packet's generation is EXPIRED (R139). -/
def State.bankExpired (s : State) (k : Packet) : Bool :=
  if k.gen then s.cls.bank1 == .expired else s.cls.bank0 == .expired
/-- A packet dropped for an expired bank (R139). -/
def dropExpired (lane : Nat) (p : PktId) (s : State) : State := dropPkt lane p (bump pCLS 0x8010 s)

/-! ### The traffic manager's inbox (R393, R412) -/

/-- A copy of a packet for an egress port and queue. -/
def TmCopy.ofPkt (p : PktId) (k : Packet) (egress : Port) (queue : Nat) : TmCopy :=
  { pkt := some p, cells := k.cells, owner := k.owner, egress := egress, queue := BitVec.ofNat 3 queue, handle := none
    sched := none, trunc := 0, mirror := none, newFcs := false, txts := none, corr := none, piste := k.tgt, seqGen := none
    yellow := false, deep := none, express := k.express, inPort := k.port, ts := k.ts, desc := k.desc }
/-- The stream handle of a frame from the egress channel, PACK or SEAL (R395). -/
def State.queueHandle (s : State) (port queue : Nat) : Option (BitVec 16) :=
  let w := s.regK (tmKey port (0xA018 + queue * 0x10))
  if bit w 31 then some (w.setWidth 16) else none
/-- A copy handed to the traffic manager. -/
def tmOffer (c : TmCopy) (s : State) : State := { s with tmInbox := s.tmInbox ++ [c] }
/-- MIR_CFG of a session (R426). -/
def State.mirCfg (s : State) (m : Nat) : Word := s.reg (pTSN 6) (0x100 + 4 * m)
/-- The copy of one mirror session, as the packet arrived (R412). -/
def mirrorOne (p : PktId) (k : Packet) (s : State) (m : Nat) : State :=
  let w := s.mirCfg m
  if !bit w 31 then s
  else match addRefs k.cells s with
  | some s =>
    let c := TmCopy.ofPkt p k (BitVec.ofNat 11 (fld w 10 0)) (fld w 14 12)
    bump (pTSN 6) (0x8000 + 8 * m) (tmOffer { c with trunc := fld w 27 16, mirror := some m, express := false } s)
  | none => bump (pTSN 6) (0x8004 + 8 * m) s
/-- The copies that a MIRROR mask asks for (R129, R412). -/
def mirrorAll (p : PktId) (k : Packet) (mask : Nat) (s : State) : State :=
  ((rangeFrom 0 16).filter (fun m => mask / 2 ^ m % 2 == 1)).foldl (mirrorOne p k) s
/-- The packet's own reference handed on to the traffic manager. -/
def handOver (p : PktId) (c : TmCopy) (s : State) : State :=
  tmOffer c (updPkt p (fun k => { k with st := .gone, cells := [] }) s)

/-! ### The ingress writer (R14, R97, R336) -/

/-- The frame check sequence of a whole frame is good. -/
def fcsGood (b : Bytes) : Bool := fcsOf (b.take (b.length - 4)) == b.drop (b.length - 4)

/-- A good frame counted in RX_FRAMES and RX_OCTETS (R115). -/
def rxGood (port len : Nat) (s : State) : State :=
  if isLine port then
    let pg := portPage port
    let b := statBase port
    let s := setReg64 pg (b + 8) (w64 ((s.reg64 pg (b + 8)).toNat + 1 &&& 0xFFFFFFFFFFFF)) s
    bump64By pg b len s
  else s

/-- What a frame that the ingress writer drops counts as on its port: runt, oversize, bad, or good (R97, R115, R552). -/
def rxOutcome (port : Nat) (data : Bytes) (s : State) : State :=
  if data.length < 64 then stat port 0x18 s
  else if (if isLine port then s.maxFrame port else 9216) < data.length then stat port 0x20 s
  else if fcsGood data then rxGood port data.length s
  else stat port 0x10 s
/-- A frame received where the mode carries no traffic (R553). -/
def notAdmitted (port : Nat) (data : Bytes) (s : State) : State := rxOutcome port data (stat port 0x30 s)
/-- A frame arrives on a port: its cells are taken and written, and its head becomes visible to the parser. -/
def arrive (port src : Nat) (data : Bytes) (s : State) : State :=
  let limit := if isLine port then s.maxFrame port else 9216
  if data.length < 64 then stat port 0x18 s
  else
    let ts := s.stamp port
    let kept := data.take limit
    match requestCells (2 * src) port (keyOf ts) (ceilDiv kept.length 256) [] s with
    | (none, s) => rxOutcome port data (stat port 0x28 s)
    | (some cells, s) =>
      let k := Packet.new (BitVec.ofNat 11 port) src cells (keyOf ts * 2048 + port) data.length ts
      let k := if limit < data.length then { k with fail := some .oversize }
        else if fcsGood data then k else { k with fail := some .fcs }
      addPkt k (fillCells cells kept s)

/-- A frame arrives on a line or management port, or from the Telemark complex on port 1344, whose SEND names the piste
that takes it: a free value here (R13). -/
def execFrameArrival (port : Port) (data : Bytes) (s : State) : Outcome :=
  let p := port.toNat
  .next (
    if !s.live then s
    else if p = 1344 then
      arrive p ((Config.value s.free).toNat % Config.pistes s.part) data { s with free := s.free + 1 }
    else if !isLine p || !s.portUp p then s
    else if s.noTraffic then notAdmitted p data s
    else arrive p (s.portPiste p) data s)

/-- The last cell is written and the frame checked: the first failure of abort, length and FCS, counted once (R552). -/
def fcsCheck (pkt : PktId) (aborted : Bool) (s : State) : State :=
  match s.pkt pkt with
  | some k =>
    if k.tail then s
    else
      let p := k.port.toNat
      let fail := if aborted then some FrameFail.abort else k.fail
      let late := decide (k.len - 4 < k.plEnd)
      let s := match fail with
        | none => rxGood p k.len s
        | some .abort => stat p 0x38 s
        | some .oversize => stat p 0x20 s
        | some .fcs => stat p 0x10 s
        | some .runt => stat p 0x18 s
      let s := if late then bump pPARSE (0x8010 + k.src.toNat * 0x40) s else s
      let s := setPkt pkt { k with tail := true, fail := fail, lateLen := late } s
      if k.st = .gone then freePkt (2 * k.src.toNat) pkt s else s
  | none => s
def execFcsCheck (pkt : PktId) (aborted : Bool) (s : State) : Outcome :=
  .next (if s.live then fcsCheck pkt aborted s else s)

end Sys2Proof.Machine
end

