-- ==== Sys2Proof/Machine/Rings.lean ====
section
/-! DEFINITION. Host instances as the rest of the device meets them: their states and rings, DMA writes with windows and the
dirty log, ring interrupts, messages, and the admission queue (R430-R441, R444-R447, R452). -/
namespace Sys2Proof.Machine
open Sys2Proof

def Instance.reset : Instance :=
  { st := .disabled, txHead := [], txTail := [], rxHead := [], rxTail := [], xfers := [], admitQ := []
    irqWait := [], overShare := false, medLast := 0, drained := 0, squashed := 0, byCmd := false, lateReads := 0, spillMark := [] }
def State.inst (s : State) (i : Nat) : Instance := sget Instance.reset s.host.insts i
def updInst (i : Nat) (f : Instance → Instance) (s : State) : State :=
  { s with host := { s.host with insts := sset s.host.insts i (f (s.inst i)) } }
def updHost (f : HostState → HostState) (s : State) : State := { s with host := f s.host }

/-- INST_CFG.MODE (R430, R452). -/
def State.mediated (s : State) (i : Nat) : Bool := bit (s.reg (pINST i) 0x100) 0
/-- CFG of a ring: 0-15 transmit, 16-31 receive (R433). -/
def ringOff (ring : Nat) : Nat := if ring < 16 then 0x9000 + ring * 0x20 else 0x9200 + (ring - 16) * 0x20
def State.ringCfg (s : State) (i ring : Nat) : Word := s.reg (pINST i) (ringOff ring + 8)
def State.ringOn (s : State) (i ring : Nat) : Bool := bit (s.ringCfg i ring) 31
def State.ringBase (s : State) (i ring : Nat) : Nat := (s.reg64 (pINST i) (ringOff ring)).toNat
def State.ringSize (s : State) (i ring : Nat) : Nat := 2 ^ fld (s.ringCfg i ring) 4 0
def Instance.head (x : Instance) (ring : Nat) : Nat := if ring < 16 then sget 0 x.txHead ring else sget 0 x.rxHead (ring - 16)
def Instance.tail (x : Instance) (ring : Nat) : Nat := if ring < 16 then sget 0 x.txTail ring else sget 0 x.rxTail (ring - 16)
def setHead (i ring v : Nat) (s : State) : State :=
  updInst i (fun x => if ring < 16 then { x with txHead := sset x.txHead ring v }
    else { x with rxHead := sset x.rxHead (ring - 16) v }) s
def setTail (i ring v : Nat) (s : State) : State :=
  updInst i (fun x => if ring < 16 then { x with txTail := sset x.txTail ring v }
    else { x with rxTail := sset x.rxTail (ring - 16) v }) s
/-- Entries that the host has posted and the device has not taken. -/
def State.posted (s : State) (i ring : Nat) : Nat :=
  let x := s.inst i
  (x.tail ring + s.ringSize i ring - x.head ring) % s.ringSize i ring

/-! ### DMA writes (R445-R447) -/

/-- The host addresses of an access lie in one enabled window of a mediated instance (R445). -/
def State.windowOk (s : State) (i a n : Nat) : Bool :=
  !s.mediated i || (rangeFrom 0 8).any (fun w =>
    let c := s.reg (pINST i) (0x208 + w * 0x10)
    let b := (s.reg64 (pINST i) (0x200 + w * 0x10)).toNat
    bit c 31 && decide (b ≤ a) && decide (a + n ≤ b + 2 ^ fld c 5 0))
/-- An address outside every window: the instance enters ERROR (R445). -/
def windowViolation (i : Nat) (s : State) : State :=
  raiseBit (pINST i) 10 (bump (pINST i) 0x8040 (updInst i (fun x => { x with st := .error }) s))

/-- One page of a logged write (R446, R447). -/
def dirtyPage (i : Nat) (s : State) (page : Nat) : State :=
  if s.host.filter.contains (i, page) then s
  else
    let n := s.reg pIOV 0x8000
    if 65536 ≤ (n - s.reg pIOV 0x8004).toNat then bump pIOV 0x8010 (setReg pIOV 0x800C 1 s)
    else
      let log := leBytes 8 (page % 2 ^ 52 + i * 2 ^ 52)
      let s := emit (.hostWrite (w64 ((s.reg64 pIOV 0x108).toNat + n.toNat % 65536 * 8)) log) s
      let s := bumpWrap pIOV 0x8000 (bump64By pHOST 0x8018 8 s)
      updHost (fun h => { h with filter := (if h.filter.length < 4096 then h.filter else h.filter.drop 1) ++ [(i, page)] }) s
/-- A DMA write into an instance's memory, logged first where logging is on (R446). -/
def dmaWrite (i a : Nat) (data : Bytes) (s : State) : State :=
  let s := if bit (s.reg pIOV 0x110) 0 && bit (s.reg (pINST i) 0x100) 1 && !data.isEmpty then
      (rangeFrom (a / 4096) ((a + data.length - 1) / 4096 - a / 4096 + 1)).foldl (dirtyPage i) s
    else s
  bump64By pHOST 0x8018 data.length (emit (.hostWrite (w64 a) data) s)
/-- A DMA read asked for. -/
def dmaRead (a n : Nat) (s : State) : State := emit (.hostRead (w64 a) n) s

/-! ### Interrupts and heads (R434, R439) -/

/-- The vector of a ring. -/
def State.ringVec (s : State) (i ring : Nat) : Nat := (s.rfld (pINST i) 0x10C 10 0 + fld (s.ringCfg i ring) 26 16) % 2048
/-- A ring signals its interrupt: at once without moderation, else it waits for its interval. -/
def ringIrq (i ring : Nat) (s : State) : State :=
  let c := s.ringCfg i ring
  if !bit c 27 then s
  else if fld c 15 8 = 0 then emit (.msix (.inst (BitVec.ofNat 8 i)) (s.ringVec i ring)) s
  else updInst i (fun x => { x with irqWait := ring :: x.irqWait.filter (· != ring) }) s
/-- HEAD of a transmit ring advances: written back, and its interrupt signalled; no write-back starts in a reset. -/
def advanceTx (i ring head : Nat) (s : State) : State :=
  let s := setHead i ring (head % s.ringSize i ring) s
  if (s.inst i).st ≠ .active then s
  else
    let wb := (s.reg64 (pINST i) (ringOff ring + 0x10)).toNat
    if !s.windowOk i wb 4 then windowViolation i s
    else ringIrq i ring (dmaWrite i wb (leBytes 4 (head % s.ringSize i ring)) s)

/-! ### Completions and messages (R436, R437) -/

/-- The 16 bytes of a completion. -/
def completion (w0 w1 : Nat) (time : Word) (len kind : Nat) (more : Bool) (words status : Nat) : Bytes :=
  leBytes 4 w0 ++ leBytes 4 w1 ++ leBytes 4 time.toNat ++
    leBytes 4 (len + kind * 0x10000 + b2n more * 0x40000 + words * 0x100000 + status * 0x1000000 + 0x80000000)

/-- A message to a host ring: its status, and the write and completion of the next posted entry, whose ADDR the host memory
holds and is a free value here (R437). -/
def ringMessage (sender i r : Nat) (words : List W64) (s : State) : Status × State :=
  let ring := 16 + r
  let x := s.inst i
  if x.st = .disabled ∨ !s.ringOn i ring then (.absent, s)
  else if x.st ≠ .active ∨ s.posted i ring = 0 then (.busy, s)
  else
    let head := x.head ring
    let entry := s.ringBase i ring + head * 32
    let addr := (Config.value s.free).toNat
    let data := words.flatMap (fun w => leBytes 8 w.toNat)
    let s := bump64By pHOST 0x8010 32 (dmaRead entry 32 { s with free := s.free + 1 })
    if !s.windowOk i addr data.length || !s.windowOk i entry 32 then (.ok, windowViolation i s)
    else
      let s := dmaWrite i addr data s
      let s := dmaWrite i (entry + 16)
        (completion (sender % 2048) 0 s.time.ns data.length 1 false words.length 0) s
      (.ok, ringIrq i ring (setHead i ring ((head + 1) % s.ringSize i ring) s))

/-! ### The admission queue (R435, R441) -/

/-- The admission store, which every instance shares, has room for another frame (R435). -/
def State.admitRoom (s : State) : Bool := decide ((s.host.insts.map (fun e => e.2.admitQ.length)).sum < 8192)
def State.ceiling (s : State) (i : Nat) : Nat := s.rfld (pINST i) 0x108 29 16
/-- A frame of an instance is admitted by its parser. -/
def leaveAdmit (p : PktId) (k : Packet) (s : State) : State :=
  if 1088 ≤ k.port.toNat ∧ k.port.toNat < 1344 ∧ k.liftType.isNone then
    let i := k.port.toNat - 1088
    let s := updInst i (fun x => { x with admitQ := x.admitQ.filter (· != p) }) s
    let s := bump64 (pINST i) 0x8010 s
    if (s.inst i).admitQ.length < s.ceiling i then updInst i (fun x => { x with overShare := false }) s else s
  else s

end Sys2Proof.Machine
end

