-- ==== Sys2Proof/Machine/Parser.lean ====
section
/-! DEFINITION. The parser: header types, the parse graph, the parse result, the Lift's admissions, and the PARSE page
(R18, R116-R124, R147, R148). -/
namespace Sys2Proof.Machine
open Sys2Proof

/-- HT_CFG, HT_LEN, HT_NEXT and HT_PLEN of a type. -/
def State.ht (s : State) (t i : Nat) : Word := s.reg pPARSE (0x1000 + t * 0x10 + 4 * i)

/-- How a field window reads. -/
inductive Win where
  | ok (v : Nat)
  | conflict
  | depth

/-- The 16-bit big-endian window at a byte of the frame, bound as R120 says. -/
def window (data : Bytes) (fdl o : Nat) : Win :=
  if fdl < o + 2 then .conflict else if 256 < o + 2 then .depth else .ok (beNat (slice data o 2))
/-- A field of a window: SHIFT [15:12], WIDTH_M1 [11:8] of its register (R119). -/
def winField (w : Word) (v : Nat) : Nat := v / 2 ^ fld w 15 12 % 2 ^ (fld w 11 8 + 1)

/-- What a parse has recorded: headers as type and offset, status 0-2, UNDEF, payload end left to check, END_OFFSET. -/
structure ParseOut where
  hdrs : List (Nat × Nat)
  status : Nat
  undef : Bool
  pend : Nat
  stop : Nat
deriving DecidableEq, Repr

/-- The next type after a header of type `t` with value `v`: the lowest matching transition, else DEFAULT (R120). -/
def nextType (s : State) (t v : Nat) : Nat :=
  match (rangeFrom 0 512).find? (fun n =>
      let m := s.reg pPARSE (0x3000 + n * 8)
      let c := s.reg pPARSE (0x3004 + n * 8)
      bit c 31 && fld c 21 16 == t && (w32 v &&& w32 (fld m 31 16)) == (w32 (fld m 15 0) &&& w32 (fld m 31 16))) with
  | some n => s.rfld pPARSE (0x3004 + n * 8) 6 0
  | none => fld (s.ht t 2) 6 0

/-- The procedure of R120, by fuel: the headers recorded so far, newest first. -/
def parseGo (s : State) (data : Bytes) (fdl : Nat) (ended : Bool) : Nat → Nat → Nat → List (Nat × Nat) → Nat → ParseOut
  | 0, off, _, hs, pend => { hdrs := hs.reverse, status := 1, undef := false, pend := pend, stop := off }
  | f + 1, off, t, hs, pend =>
    let out (st : Nat) (undef : Bool) : ParseOut :=
      { hdrs := hs.reverse, status := st, undef := undef, pend := pend, stop := off }
    if t = 64 then out 0 false
    else
      let cfg := s.ht t 0
      if !bit cfg 31 then out 0 true
      else if hs.length = 16 then out 1 false
      else
        let hl := s.ht t 1
        let lenW : Win := if bit cfg 30 then window data fdl (off + fld hl 31 24) else .ok 0
        match lenW with
        | .conflict => out 2 false
        | .depth => out 1 false
        | .ok v =>
          let len := if bit cfg 30 then winField hl v * 2 ^ fld hl 1 0 + fld hl 23 16 else fld cfg 7 0
          if fdl < off + len then out 2 false
          else if 256 < off + len then out 1 false
          else if bit cfg 30 && decide (len < max (fld cfg 23 16) 1) then out 2 false
          else
            let pl := s.ht t 3
            let plW : Win := if bit pl 16 then window data fdl (off + fld pl 31 24) else .ok 0
            match plW with
            | .conflict => out 2 false
            | .depth => out 1 false
            | .ok pv =>
              let plEnd := (if bit pl 17 then off + len else off) + pv
              if bit pl 16 && (decide (plEnd < off + len) || (ended && decide (fdl < plEnd))) then out 2 false
              else
                let pend := if bit pl 16 && !ended then max pend plEnd else pend
                let hs := (t, off) :: hs
                let nx := s.ht t 2
                if !bit nx 16 then parseGo s data fdl ended f (off + len) (fld nx 6 0) hs pend
                else
                  let fin (st : Nat) : ParseOut :=
                    { hdrs := hs.reverse, status := st, undef := false, pend := pend, stop := off + len }
                  match window data fdl (off + fld nx 31 24) with
                  | .conflict => fin 2
                  | .depth => fin 1
                  | .ok v => parseGo s data fdl ended f (off + len) (nextType s t (winField nx v)) hs pend

/-- SOURCE of a packet (R124): 0 line, 1 management, 2 host, 3 Telemark, 4 Lift. -/
def Packet.source (k : Packet) : Nat :=
  if k.liftType.isSome then 4
  else
    let p := k.port.toNat
    if p < 1056 then 0 else if p < 1058 then 1 else if p < 1344 then 2 else 3

/-- The first header type of a packet (R116). -/
def State.startType (s : State) (k : Packet) : Nat :=
  match k.liftType with
  | some t => t.toNat
  | none =>
    let c := s.reg pPARSE 0x100
    if k.source = 0 then fld c 5 0 else if k.source = 1 then fld c 11 6 else if k.source = 2 then fld c 17 12 else fld c 23 18

/-- The parse result's 64 bytes (R124). -/
def parseBytes (start source passes : Nat) (o : ParseOut) : Bytes :=
  let hdr := o.hdrs.flatMap (fun h => leBytes 2 (0x8000 + h.1 * 256 + h.2 % 256))
  let present := o.hdrs.foldl (fun (w : W64) h => w ||| w64 (2 ^ h.1)) 0
  slice hdr 0 32 ++
  leBytes 4 (o.hdrs.length + o.status * 256 + b2n (decide (0 < o.pend)) * 1024 + b2n o.undef * 2048 + o.stop * 65536) ++
  leBytes 4 (start + source * 256 + passes * 4096) ++ leBytes 8 present.toNat ++ leBytes 16 0

/-- The recorded headers of a parse result as type and offset. -/
def parseHdrs (b : Bytes) : List (Nat × Nat) :=
  (rangeFrom 0 (leNat (slice b 32 1) % 32)).map (fun i =>
    let w := leNat (slice b (2 * i) 2)
    (w / 256 % 64, w % 256))
def parseStatus (b : Bytes) : Nat := leNat (slice b 33 1) % 4
def parseStop (b : Bytes) : Nat := leNat (slice b 34 2) % 512
def parseUndef (b : Bytes) : Bool := leNat (slice b 33 1) / 8 % 2 == 1

/-- The recorded headers as offset and parsed length: each ends where the next begins (R120, R236). -/
def hdrSpans (b : Bytes) : List (Option (Nat × Nat)) :=
  let hs := (parseHdrs b).map (·.2)
  let ends := hs.drop 1 ++ [parseStop b]
  List.zipWith (fun o e => some (o, e - o)) hs ends

/-- A parser parses a packet in its input (R120-R124, R139, R553). -/
def execParse (pkt : PktId) (s : State) : Outcome :=
  .next (match s.pkt pkt with
  | some k =>
    if !s.live || k.st != .arrived then s
    else
      let p := k.src.toNat
      let lane := 2 * p
      let base := p * 0x40
      let s := leaveAdmit pkt k s
      if s.lost p then dropPkt lane pkt s
      else if s.noTraffic && !(k.source == 0 || k.source == 1) then dropPkt lane pkt (bump pPARSE (0x8024 + base) s)
      else if s.poisoned (cellA (k.cells.headD 0)) 128 then
        let s := cellUe false (k.cells.headD 0 * 32) s
        dropPkt lane pkt (bump pPARSE (0x8018 + base) s)
      else
        let data := s.chainBytes k.cells
        let start := s.startType k
        let o := parseGo s data (data.length - 4) k.tail 18 0 start [] 0
        let s := bump64 pPARSE (0x8000 + base) s
        let s := if o.status = 1 then bump pPARSE (0x8008 + base) s
          else if o.status = 2 then bump pPARSE (0x800C + base) s else s
        let s := if o.undef then bump pPARSE (0x8014 + base) s else s
        setPkt pkt { k with st := .parsed, parse := parseBytes start k.source k.liftPasses.toNat o, plEnd := o.pend } s
  | none => s)

/-- The parser of a piste admits the Lift packet that waits longest (R18, R139, R147, R553). -/
def execLiftAdmit (piste : BitVec 2) (s : State) : Outcome :=
  let p := piste.toNat
  .next (
    if !s.live || !s.pisteUp p then s
    else match (s.piste p).liftQ with
    | [] => s
    | q :: r =>
      let s := updPiste p (fun x => { x with liftQ := r }) s
      match s.pkt q with
      | none => s
      | some k =>
        if s.bankExpired k then dropExpired (8 + p) q s
        else if s.noTraffic then dropPkt (8 + p) q (bump pPARSE (0x8024 + p * 0x40) s)
        else
          let now := s.time.ticks
          let s := updPiste p (fun x => { x with liftTimes := x.liftTimes.filter (fun t => now < t + 1000) ++ [now] }) s
          bump64 pPARSE (0x8028 + p * 0x40)
            (setPkt q { k with st := .arrived, src := piste, liftPasses := k.liftPasses + 1 } s))

/-- Writes of the PARSE page (R148). -/
def parseWrite (_ : Requester) (off : Nat) (v mask : Word) (s : State) : WRes :=
  if off = 0x100 then storeIf (fld v 25 24 != 0) pPARSE off mask v s
  else if 0x1000 ≤ off ∧ off < 0x1400 then
    if off % 16 = 0 then storeIf (!(bit v 31 && !bit v 30 && fld v 7 0 == 0)) pPARSE off mask v s
    else if off % 16 = 8 then storeIf (decide (fld v 6 0 ≤ 64)) pPARSE off mask v s
    else .ok (store pPARSE off mask v s)
  else if 0x3000 ≤ off ∧ off < 0x4000 ∧ off % 8 = 4 then storeIf (decide (fld v 6 0 ≤ 64)) pPARSE off mask v s
  else .ok (store pPARSE off mask v s)

end Sys2Proof.Machine
end

