-- ==== Sys2Proof/Machine/Classifier.lean ====
section
/-! DEFINITION. The classifier: keys, the rule table and its generations, exact-match lookup and its insert engine, load
spreading, and the CLASS pages (R118, R121, R125-R147, R149-R151, R553). -/
namespace Sys2Proof.Machine
open Sys2Proof

/-! ### Keys (R118, R125, R126) -/

/-- Base of a key segment of KIND 1 (R126). -/
def segBase (hs : List (Nat × Nat)) (sel ty : Nat) : Option Nat :=
  match sel with
  | 0 => (hs.find? (fun h => h.1 == ty)).map (·.2)
  | 1 => (hs.reverse.find? (fun h => h.1 == ty)).map (·.2)
  | 2 => (hs[ty]?).map (·.2)
  | _ => some 0

/-- The packet bytes of a segment, none where it is not present; `lim` bounds the bytes that count. -/
def segBytes (data : Bytes) (hs : List (Nat × Nat)) (fdl lim : Nat) (seg : Word) : Option Bytes :=
  if fld seg 31 30 ≠ 1 then none
  else match segBase hs (fld seg 29 28) (fld seg 21 16) with
  | some b =>
    let o := b + fld seg 7 0
    if o + 4 ≤ fdl ∧ o + 4 ≤ lim then some (slice data o 4) else none
  | none => none

def State.profSeg (s : State) (p i : Nat) : Word := s.reg pCLS (0x1000 + p * 0x80 + i * 4)

/-- Metadata words 0 to 3 of a packet; word 4 is SEG_PRESENT (R126). -/
def Packet.meta (k : Packet) : Nat → Word
  | 0 => w32 (k.port.toNat + k.source * 0x1000 + b2n k.liftType.isSome * 0x8000 + parseStatus k.parse * 0x10000 +
      b2n (parseUndef k.parse) * 0x40000 + (parseHdrs k.parse).length * 0x80000)
  | 1 => w32 (k.instance_.toNat + leNat (slice k.parse 36 1) % 64 * 0x100 + k.src.toNat * 0x4000)
  | 2 => w32 (leNat (slice k.parse 40 4))
  | _ => w32 (leNat (slice k.parse 44 4))

/-- The key profile of a packet (R125). -/
def State.profileOf (s : State) (k : Packet) : Nat :=
  match (parseHdrs k.parse).getLast? with
  | some (t, _) => leNat (Machine.slice (leBytes 4 (s.reg pCLS (0x200 + t / 4 * 4)).toNat) (t % 4) 1) % 64
  | none => s.rfld pCLS 0x100 13 8

/-- The 20 key words of a packet (R118, R126). -/
def State.keyWords (s : State) (k : Packet) (prof : Nat) : List Word :=
  let data := s.chainBytes k.cells
  let hs := parseHdrs k.parse
  let window := bit (s.reg64 pCLS 0x118) prof && decide (parseStop k.parse ≤ 128)
  let lim := if window then 128 else 256
  let fdl := k.len - 4
  let got := (rangeFrom 0 20).map (fun i => segBytes data hs fdl lim (s.profSeg prof i))
  let present := ((rangeFrom 0 20).zip got).foldl (fun w e => if e.2.isSome then w + 2 ^ e.1 else w) 0
  ((rangeFrom 0 20).zip got).map (fun e =>
    let seg := s.profSeg prof e.1
    match e.2 with
    | some b => w32 (beNat b)
    | none =>
      if fld seg 31 30 = 2 then (if fld seg 7 0 = 4 then w32 present else k.meta (fld seg 7 0)) else 0)

/-- The words of a key that a mask selects, in ascending order. -/
def pickWords (mask : Nat) (ws : List Word) : List Word :=
  ((rangeFrom 0 20).zip ws).filterMap (fun e => if mask / 2 ^ e.1 % 2 = 1 then some e.2 else none)
/-- Words as one number, word 0 lowest. -/
def joinWords : List Word → Nat
  | [] => 0
  | w :: r => w.toNat + 0x100000000 * joinWords r

/-! ### Rules (R127, R136) -/

/-- GEN_MODE (R136). -/
def State.genMode (s : State) : Bool := bit (s.reg pCLS 0x100) 0
/-- First entry and number of entries of a bank. -/
def State.bankRange (s : State) (gen : Bool) : Nat × Nat := if s.genMode then (b2n gen * 32768, 32768) else (0, 65536)
def ruleNone : Rule := { valid := false, profile := 0, key := 0, mask := 0, action := 0, hits := 0 }
def State.rule (s : State) (i : Nat) : Rule := sget ruleNone s.cls.rules i
def updCls (f : ClassState → ClassState) (s : State) : State := { s with cls := f s.cls }
def setRule (i : Nat) (r : Rule) (s : State) : State := updCls (fun c => { c with rules := sset c.rules i r }) s
/-- The lowest matching entry of the bank searched. -/
def State.lookupRule (s : State) (gen : Bool) (prof : Nat) (key : BitVec 640) : Option (Nat × Rule) :=
  let (base, n) := s.bankRange gen
  s.cls.rules.find? (fun e => decide (base ≤ e.1) && decide (e.1 < base + n) && e.2.valid && e.2.profile.toNat == prof &&
    (key &&& e.2.mask) == (e.2.key &&& e.2.mask))

/-! ### Exact match (R141-R143) -/

/-- The bytes hashed for a key of 5 words and a profile. -/
def emBytes (key : List Word) (prof : Nat) : Bytes := key.flatMap (fun w => beBytes 4 w.toNat) ++ [BitVec.ofNat 8 prof]
/-- The two buckets of a key (R141). -/
def emBuckets (key : List Word) (prof : Nat) : Nat × Nat :=
  let b := emBytes key prof
  let h1 := (crc32c b).toNat % 32768
  let h2 := (crc32cFrom 0x5A5A5A5A b).toNat % 32768
  (h1, if h2 = h1 then (if h2 % 2 = 0 then h2 + 1 else h2 - 1) else h2)
def emNone : EmEntry := { valid := false, profile := 0, key := 0, flow := 0, quarantine := false }
def State.emSlot (s : State) (i : Nat) : EmEntry := sget emNone s.cls.em i
def setEm (i : Nat) (e : EmEntry) (s : State) : State := updCls (fun c => { c with em := sset c.em i e }) s
/-- The key words of an entry. -/
def EmEntry.words (e : EmEntry) : List Word := (rangeFrom 0 5).map (fun i => w32 (e.key.toNat / 2 ^ (32 * i)))
/-- Slot of a key's entry. -/
def State.emFind (s : State) (key : List Word) (prof : Nat) : Option Nat :=
  let (h1, h2) := emBuckets key prof
  (rangeFrom (h1 * 8) 8 ++ rangeFrom (h2 * 8) 8).find? (fun i =>
    let e := s.emSlot i
    e.valid && e.profile.toNat == prof && e.key.toNat == joinWords key)
/-- A free slot of a bucket. -/
def State.emFree (s : State) (b : Nat) : Option Nat := (rangeFrom (b * 8) 8).find? (fun i => !(s.emSlot i).valid)
/-- The other bucket of the entry in a slot. -/
def State.emOther (s : State) (i : Nat) : Nat :=
  let e := s.emSlot i
  let (h1, h2) := emBuckets e.words e.profile.toNat
  if i / 8 = h1 then h2 else h1
/-- One level of the search for a path: partial paths, newest slot first; a path found ends in a free slot. -/
def emSearch (s : State) : Nat → List (List Nat) → Option (List Nat)
  | 0, _ => none
  | f + 1, paths =>
    match paths.findSome? (fun p => match p with
        | i :: _ => (s.emFree (s.emOther i)).map (fun j => j :: p)
        | [] => none) with
    | some p => some p
    | none => emSearch s f (paths.flatMap (fun p => match p with
        | i :: _ => ((rangeFrom (s.emOther i * 8) 8).filter (fun j => !p.contains j)).map (fun j => j :: p)
        | [] => []))
/-- The entries along a path moved one place on, the free end first; the path's last slot is left for the new entry. -/
def emShift : List Nat → State → State
  | a :: b :: r, s => emShift (b :: r) (setEm a (s.emSlot b) s)
  | _, s => s
/-- A new entry placed (R142): none where no place is found. -/
def emPlace (key : List Word) (prof : Nat) (flow : BitVec 20) (s : State) : Option State :=
  let (h1, h2) := emBuckets key prof
  let e : EmEntry := { valid := true, profile := BitVec.ofNat 6 prof, key := BitVec.ofNat 160 (joinWords key), flow := flow
                       quarantine := s.hbm.quarantined.contains flow.toNat }
  match s.emFree h1, s.emFree h2 with
  | some i, _ => some (setEm i e s)
  | none, some i => some (setEm i e s)
  | none, none =>
    match emSearch s 8 ((rangeFrom (h1 * 8) 8 ++ rangeFrom (h2 * 8) 8).map (fun i => [i])) with
    | some p => some (setEm (p.getLast?.getD 0) e (emShift p s))
    | none => none

/-- INSERT of a flow entry by the insert engine (R142). -/
def emInsertKey (key : List Word) (prof : Nat) (flow : BitVec 20) (s : State) : Status × State :=
  if Config.flows s.part ≤ flow.toNat then (.absent, s)
  else if (s.emFind key prof).isSome then (.badArg, s)
  else match emPlace key prof flow s with
  | some s' => (.ok, s')
  | none => (.empty, bump pEM 0x8004 s)
/-- DELETE of a flow entry (R142). -/
def emDeleteKey (key : List Word) (prof : Nat) (s : State) : Status × State :=
  match s.emFind key prof with
  | some i => (.ok, setEm i emNone s)
  | none => (.absent, s)

/-- The QUARANTINE bit of an entry set; EM_QUARANTINED counts the marks. -/
def emMark (i : Nat) (s : State) : State :=
  let e := s.emSlot i
  bump pEM 0x8008 (setEm i { e with quarantine := true } s)

/-! ### Load spreading (R144-R146) -/

/-- The 32-bit hash of a packet's key words (R144). -/
def State.spreadHash (s : State) (prof : Nat) (ws : List Word) : Word :=
  let cfg := s.reg pHASH (0x200 + 4 * prof)
  let sel := pickWords (fld cfg 19 0) ws
  if bit cfg 31 then
    toeplitz ((rangeFrom 0 10).foldl (fun k i => BitVec.ofNat 320 (k.toNat * 0x100000000 + (s.reg pHASH (0x100 + 4 * i)).toNat)) 0) sel
  else crc32c (sel.flatMap (fun w => beBytes 4 w.toNat))

/-- An indirection entry (R145). -/
def State.indEntry (s : State) (t i : Nat) : Word := sget 0 s.cls.ind (t * 512 + i)

/-! ### One packet (R127-R131, R137-R139, R145, R146) -/

/-- An action word's fields (R128). -/
def actPrimary (a : W64) : Nat := fld a 1 0
def actPrio (a : W64) : Nat := fld a 5 3
def actEgress (a : W64) : Nat := fld a 40 30
def actMirror (a : W64) : Nat := fld a 63 48

/-- An action word that a command or CLASS_MISS refuses (R128). -/
def actBad (a : W64) : Bool :=
  actPrimary a == 3 || (actPrimary a == 2 && !(decide (1088 ≤ actEgress a) && decide (actEgress a ≤ 1344)))

/-- A packet copied to a processor, with an exception reason, 0 for none. -/
def toProcessor (p : PktId) (k : Packet) (tgt queue exc : Nat) (s : State) : State :=
  let s := leaveBank p s
  let k' := { k with exc := BitVec.ofNat 2 exc, inflight := false }
  handOver p (TmCopy.ofPkt p k' (BitVec.ofNat 11 tgt) queue) (updPkt p (fun x => { x with exc := BitVec.ofNat 2 exc }) s)

/-- The action of CLASS_EXCn on a packet (R131). -/
def excAction (p : PktId) (k : Packet) (lane n : Nat) (s : State) : State :=
  let w := s.reg pCLS (0x120 + (n - 1) * 4)
  if bit w 0 then toProcessor p k (fld w 26 16) 0 n s else dropPkt lane p s

/-- The packet counts in its bank from its first PROCESS (R138). -/
def joinBank (p : PktId) (gen : Bool) (s : State) : State :=
  updCls (fun c => if gen then { c with inflight1 := c.inflight1 + 1 } else { c with inflight0 := c.inflight0 + 1 })
    (updPkt p (fun k => { k with inflight := true }) s)

/-- PROCESS: the descriptor fields of R130, then the indirection entry of R145 and R146. -/
def processPkt (p : PktId) (k : Packet) (lane : Nat) (first : Bool) (a : W64) (hash : Word) (s : State) : State :=
  let s := if first then joinBank p k.gen s else s
  let k := { k with inflight := true }
  let e := s.indEntry (fld a 47 42) (hash.toNat % 512)
  let t := fld e 9 8
  let src := k.src.toNat
  let s := setPkt p k s
  if !bit e 31 then dropPkt lane p (bump pHASH (0x8000 + src * 0x10) s)
  else if s.lost t then dropPkt lane p (bump pHASH (0x8004 + src * 0x10) s)
  else
    let kind := fld e 2 0
    let k := { k with st := .offered, tgt := BitVec.ofNat 2 t, kind := BitVec.ofNat 3 kind
                      express := s.rfld (pDISP t) (0x200 + 4 * kind) 1 0 == 1 }
    updPiste t (fun q => { q with offers := q.offers ++ [p] }) (setPkt p k s)

/-- The exact-match lookup of a packet: the entry hit. -/
def State.flowHit (s : State) (ws : List Word) (prof : Nat) : Option EmEntry :=
  let key := pickWords (s.rfld pEM (0x1000 + 4 * prof) 19 0) ws
  (s.emFind (key ++ List.replicate (5 - key.length) 0) prof).map s.emSlot

/-- The descriptor of a packet after its lookup (R130, R137, R141). -/
def classified (k : Packet) (gen : Bool) (prof : Nat) (a : W64) (hit : Option EmEntry) : Packet :=
  { k with gen := gen, profile := BitVec.ofNat 6 prof, cls := BitVec.ofNat 8 (fld a 13 6)
           order := BitVec.ofNat 16 (fld a 29 14), prio := BitVec.ofNat 3 (actPrio a), sugg := BitVec.ofNat 11 (actEgress a)
           exc := 0
           flow := match hit with
             | some e => e.flow
             | none => 0
           noFlow := hit.isNone, emMiss := bit a 41 && hit.isNone }

/-- The classifier takes one packet. -/
def classifyPkt (p : PktId) (k : Packet) (s : State) : State :=
  let src := k.src.toNat
  let lane := 2 * src
  let first := k.liftType.isNone
  if s.lost src then dropPkt lane p s
  else if !first && s.bankExpired k then dropExpired lane p s
  else
    let gen := if first then s.cls.activeBank else k.gen
    let prof := s.profileOf k
    let ws := s.keyWords k prof
    let s := bump64 pCLS (0x8020 + src * 0x10) s
    let (a, s) := match s.lookupRule gen prof (BitVec.ofNat 640 (joinWords ws)) with
      | some (i, r) => (r.action, setRule i { r with hits := r.hits + 1 } s)
      | none => (s.reg64 pCLS 0x108, bump pCLS (0x8028 + src * 0x10) s)
    if s.nonSafetyOnly && bit (s.reg64 pCLS 0x110) prof then
      let s := if isLine k.port.toNat then stat k.port.toNat 0x30 s else bump pPARSE (0x8024 + src * 0x40) s
      dropPkt lane p s
    else
      let hit := if bit a 41 then s.flowHit ws prof else none
      let k := classified k gen prof a hit
      let s := mirrorAll p k (actMirror a) (setPkt p k s)
      let quar := match hit with
        | some e => e.quarantine
        | none => false
      if parseStatus k.parse = 1 then excAction p k lane 1 s
      else if parseStatus k.parse = 2 then excAction p k lane 2 s
      else if quar then excAction p k lane 3 s
      else if actPrimary a = 1 then processPkt p k lane first a (s.spreadHash prof ws) s
      else if actPrimary a = 2 then toProcessor p k (actEgress a) (actPrio a) 0 s
      else dropPkt lane p s

def execClassify (pkt : PktId) (s : State) : Outcome :=
  .next (match s.pkt pkt with
  | some k => if s.live && k.st == .parsed then classifyPkt pkt k s else s
  | none => s)

/-! ### Rule commands (R132-R136, R149) -/

/-- The modes in which commands of the CLASS pages complete with STATE_REFUSED (R73, R133). -/
def clsMode (s : State) : Bool := s.modeNow == .boot || s.modeNow == .fallback || s.modeNow == .zeroize
/-- The bank that an entry lies in. -/
def State.bankOf (s : State) (i : Nat) : Bool := s.genMode && decide (32768 ≤ i)
def State.bankState (s : State) (b : Bool) : BankState := if b then s.cls.bank1 else s.cls.bank0
/-- A safety profile of CLASS_PROF_SAFE (R134). -/
def State.safeProf (s : State) (p : Nat) : Bool := bit (s.reg64 pCLS 0x110) p
def BankState.code : BankState → Nat
  | .idle => 0 | .active => 1 | .draining => 2 | .expired => 3

/-- The rule command's frame: mode, then the codes of its own checks in the order of R62. -/
def ruleBody (req : Requester) (checks : State → List Status) (act : State → State) (s : State) : Option Status × State :=
  if clsMode s && req != .loader then cmdState req pCLS 0x8104 false s
  else match firstStatus (checks s) with
  | some st => cmdFail st s
  | none => (some .ok, act s)

def State.ruleIndex (s : State) : Nat := s.rfld pCLS 0x8100 15 0
def State.stagedProf (s : State) : Nat := s.rfld pCLS 0x8308 5 0
/-- The staged entry (R132). -/
def State.stagedRule (s : State) : Rule :=
  { valid := bit (s.reg pCLS 0x8308) 31, profile := BitVec.ofNat 6 s.stagedProf
    key := BitVec.ofNat 640 (joinWords ((rangeFrom 0 20).map (fun i => s.reg pCLS (0x8200 + 4 * i))))
    mask := BitVec.ofNat 640 (joinWords ((rangeFrom 0 20).map (fun i => s.reg pCLS (0x8280 + 4 * i))))
    action := s.reg64 pCLS 0x8300, hits := 0 }

def ruleWriteBody (req : Requester) : State → Option Status × State :=
  ruleBody req
    (fun s =>
      let i := s.ruleIndex
      (if s.locked pCLS && (s.safeProf (s.rule i).profile.toNat || s.safeProf s.stagedProf) then [.locked] else []) ++
      (if actBad (s.reg64 pCLS 0x8300) then [.badArg] else []) ++
      (if s.bankState (s.bankOf i) = .draining then [.busy] else []))
    (fun s => setRule s.ruleIndex s.stagedRule s)

def ruleReadBody (req : Requester) : State → Option Status × State :=
  ruleBody req (fun _ => []) (fun s =>
    let r := s.rule s.ruleIndex
    let s := (rangeFrom 0 20).foldl (fun s i =>
      setReg pCLS (0x8280 + 4 * i) (w32 (r.mask.toNat / 2 ^ (32 * i)))
        (setReg pCLS (0x8200 + 4 * i) (w32 (r.key.toNat / 2 ^ (32 * i))) s)) s
    setReg64 pCLS 0x8310 (w64 r.hits.toNat) (setReg pCLS 0x8308 (w32 (b2n r.valid * 0x80000000 + r.profile.toNat))
      (setReg64 pCLS 0x8300 r.action s)))

def ruleInvalidateBody (req : Requester) : State → Option Status × State :=
  ruleBody req
    (fun s =>
      (if s.locked pCLS && s.safeProf (s.rule s.ruleIndex).profile.toNat then [.locked] else []) ++
      (if s.bankState (s.bankOf s.ruleIndex) = .draining then [.busy] else []))
    (fun s => setRule s.ruleIndex { s.rule s.ruleIndex with valid := false, hits := 0 } s)

/-- FLIP (R136): the inactive bank becomes ACTIVE, the active one DRAINING, at once IDLE with nothing in flight. -/
def flipBanks (s : State) : State :=
  bump pCLS 0x8014 (updCls (fun c =>
    if c.activeBank then
      { c with activeBank := false, bank0 := .active, bank1 := if c.inflight1 = 0 then .idle else .draining }
    else { c with activeBank := true, bank1 := .active, bank0 := if c.inflight0 = 0 then .idle else .draining }) s)

def flipBody (req : Requester) : State → Option Status × State :=
  ruleBody req
    (fun s =>
      (if s.locked pCLS && s.reg64 pCLS 0x110 != 0 then [.locked] else []) ++ (if s.genMode then [] else [.badArg]) ++
      (if s.bankState (!s.cls.activeBank) = .idle then [] else [.busy]))
    flipBanks

def clearHitsBody (req : Requester) : State → Option Status × State :=
  ruleBody req (fun s => if s.bankState (s.bankOf s.ruleIndex) = .draining then [.busy] else [])
    (fun s => setRule s.ruleIndex { s.rule s.ruleIndex with hits := 0 } s)

def ruleCmd (req : Requester) (v : Word) : State → WRes :=
  command pCLS 0x8108 (fun s => match fld v 3 0 with
    | 1 => ruleWriteBody req s
    | 2 => ruleReadBody req s
    | 3 => ruleInvalidateBody req s
    | 4 => flipBody req s
    | 5 => clearHitsBody req s
    | _ => cmdFail .badArg s)

def execRuleWrite (req : Requester) (s : State) : Outcome := .next (cmdRow req pCLS 0x8104 0x8108 (ruleWriteBody req) s)
def execRuleRead (req : Requester) (s : State) : Outcome := .next (cmdRow req pCLS 0x8104 0x8108 (ruleReadBody req) s)
def execRuleInvalidate (req : Requester) (s : State) : Outcome :=
  .next (cmdRow req pCLS 0x8104 0x8108 (ruleInvalidateBody req) s)
def execFlip (req : Requester) (s : State) : Outcome := .next (cmdRow req pCLS 0x8104 0x8108 (flipBody req) s)
def execClearHits (req : Requester) (s : State) : Outcome := .next (cmdRow req pCLS 0x8104 0x8108 (clearHitsBody req) s)

/-- A write of CLASS_CFG (R135, R136): a change of GEN_MODE resets the banks; RULE_LOST clears. -/
def classCfgWrite (req : Requester) (v : Word) (s : State) : WRes :=
  let change := bit v 0 != s.genMode
  if change && !(s.modeNow == .configure || req == .loader) then .refuse .stateRefused
  else if change && (s.cls.inflight0 != 0 || s.cls.inflight1 != 0) then .refuse .busy
  else
    let s := if change then updCls (fun c => { c with activeBank := false, bank0 := .active, bank1 := .idle }) s else s
    .ok (setRfld pCLS 0x14 16 16 0 (setReg pCLS 0x100 (v &&& 0x3F01) s))
def execClassCfgWrite (req : Requester) (value : Word) (s : State) : Outcome :=
  .next (regRow req pCLS 0x100 (classCfgWrite req value) s)

/-- The scrub meets an error in an entry: an uncorrectable one invalidates it (R135). -/
def execRuleScrub (index : BitVec 16) (ue : Bool) (s : State) : Outcome :=
  let i := index.toNat
  .next (
    if !s.live then s
    else if ue then setRfld pCLS 0x14 16 16 1 (ueAt pCLS i (setRule i { s.rule i with valid := false, hits := 0 } s))
    else ceAt pCLS i s)

/-- A DRAINING bank reaches its drain deadline (R139). -/
def execGenDrainTimeout (bank : BitVec 1) (s : State) : Outcome :=
  .next (
    if !s.live then s
    else if bank = 0 then
      (if s.cls.bank0 = .draining ∧ s.cls.inflight0 ≠ 0 then updCls (fun c => { c with bank0 := .expired }) s else s)
    else if s.cls.bank1 = .draining ∧ s.cls.inflight1 ≠ 0 then updCls (fun c => { c with bank1 := .expired }) s else s)

/-! ### Exact-match commands (R142, R143, R150) -/

def State.emKey (s : State) : List Word := (rangeFrom 0 5).map (fun i => s.reg pEM (0x8200 + 4 * i))
def State.emProf (s : State) : Nat := s.rfld pEM 0x8214 5 0

/-- EM_FLOW written by a FIND that completes with OK or ABSENT. -/
def emFlowOut (hit : Option EmEntry) (s : State) : State :=
  setReg pEM 0x8218 (match hit with
    | some e => w32 (0x80000000 + b2n e.quarantine * 0x40000000 + e.flow.toNat)
    | none => 0) s

/-- An EM command that changes the table, refused in BOOT, FALLBACK and ZEROIZE (R73). -/
def emBody (req : Requester) (act : State → Status × State) (s : State) : Option Status × State :=
  if clsMode s && req != .loader then cmdState req pEM 0x8104 false s
  else
    let (st, s) := act s
    (some st, s)

def emInsertBody (req : Requester) : State → Option Status × State :=
  emBody req (fun s => emInsertKey s.emKey s.emProf (BitVec.ofNat 20 (s.rfld pEM 0x8218 19 0)) s)
def emDeleteBody (req : Requester) : State → Option Status × State :=
  emBody req (fun s => emDeleteKey s.emKey s.emProf s)
def emFindBody (req : Requester) (s : State) : Option Status × State :=
  if s.modeNow == .boot && req != .loader then cmdState req pEM 0x8104 false s
  else match s.emFind s.emKey s.emProf with
  | some i => (some .ok, emFlowOut (some (s.emSlot i)) s)
  | none => (some .absent, emFlowOut none s)
def emQuarantineBody (req : Requester) : State → Option Status × State :=
  emBody req (fun s => match s.emFind s.emKey s.emProf with
    | some i => (.ok, emMark i s)
    | none => (.absent, s))
def emReleaseBody (req : Requester) : State → Option Status × State :=
  emBody req (fun s => match s.emFind s.emKey s.emProf with
    | some i => (.ok, setEm i { s.emSlot i with quarantine := false } s)
    | none => (.absent, s))

def emCmd (req : Requester) (v : Word) : State → WRes :=
  command pEM 0x8108 (fun s => match fld v 3 0 with
    | 1 => emInsertBody req s
    | 2 => emDeleteBody req s
    | 3 => emFindBody req s
    | 4 => emQuarantineBody req s
    | 5 => emReleaseBody req s
    | _ => cmdFail .badArg s)

def execEmInsert (req : Requester) (s : State) : Outcome := .next (cmdRow req pEM 0x8104 0x8108 (emInsertBody req) s)
def execEmDelete (req : Requester) (s : State) : Outcome := .next (cmdRow req pEM 0x8104 0x8108 (emDeleteBody req) s)
def execEmFind (req : Requester) (s : State) : Outcome := .next (cmdRow req pEM 0x8104 0x8108 (emFindBody req) s)
def execEmQuarantine (req : Requester) (s : State) : Outcome :=
  .next (cmdRow req pEM 0x8104 0x8108 (emQuarantineBody req) s)
def execEmRelease (req : Requester) (s : State) : Outcome := .next (cmdRow req pEM 0x8104 0x8108 (emReleaseBody req) s)

/-! ### Indirection (R146, R151) -/

/-- A write of an indirection entry (R73, R146). -/
def indWrite (req : Requester) (i : Nat) (v : Word) (s : State) : WRes :=
  if (s.modeNow == .fallback || s.modeNow == .zeroize) && req != .loader then .refuse .stateRefused
  else if Config.pistes s.part ≤ fld v 9 8 then .refuse .absent
  else .ok (updCls (fun c => { c with ind := sset c.ind i (v &&& 0x80000307) }) s)
/-- The row writes entry `index`, table by table, through the window of its table. -/
def execIndEntryWrite (req : Requester) (index : BitVec 15) (value : Word) (s : State) : Outcome :=
  .next (regRow req pHASH (0xE000 + index.toNat % 512 * 4) (indWrite req index.toNat value) s)
/-- A pass of IND_CHECK (R151). -/
def execIndCheckPass (s : State) : Outcome :=
  .next (if s.live then
    setReg pHASH 0x8040 (crc32c (wordsBytes ((rangeFrom 0 32768).map (fun i => sget 0 s.cls.ind i)))) s else s)

/-! ### The pages (R149-R151) -/

def bitCount (v : Nat) : Nat := ((rangeFrom 0 32).filter (fun i => v / 2 ^ i % 2 == 1)).length

def clsWrite (req : Requester) (off : Nat) (v mask : Word) (s : State) : WRes :=
  if off = 0x100 then classCfgWrite req v s
  else if off = 0x104 then storeIf (decide (100 ≤ fld v 23 0) && decide (fld v 23 0 ≤ 1000000)) pCLS off mask v s
  else if 0x120 ≤ off ∧ off < 0x12C then
    storeIf (!bit v 0 || (decide (1088 ≤ fld v 26 16) && decide (fld v 26 16 ≤ 1344))) pCLS off mask v s
  else if 0x1000 ≤ off ∧ off < 0x3000 then
    storeIf (fld v 31 30 != 3 && !(fld v 31 30 == 2 && decide (4 < fld v 7 0))) pCLS off mask v s
  else if off = 0x8104 then ruleCmd req v s
  else .ok (store pCLS off mask v s)
/-- CLASS_MISS judged as an action word (R128). -/
def clsWrite64 (off : Nat) (v : W64) : Option Status := if off = 0x108 ∧ actBad v then some .badArg else none

def clsRead (s : State) (off : Nat) : Option Word :=
  if off = 0x8000 then some (w32 (b2n s.cls.activeBank + s.cls.bank0.code * 0x10 + s.cls.bank1.code * 0x100))
  else if off = 0x8008 then some (w32 s.cls.inflight0)
  else if off = 0x800C then some (w32 s.cls.inflight1)
  else none

def emWrite (req : Requester) (off : Nat) (v mask : Word) (s : State) : WRes :=
  if off = 0x8104 then emCmd req v s
  else if 0x1000 ≤ off ∧ off < 0x1100 then storeIf (decide (bitCount (fld v 19 0) ≤ 5)) pEM off mask v s
  else .ok (store pEM off mask v s)
def emRead (s : State) (off : Nat) : Option Word :=
  if off = 0x8000 then some (w32 (s.cls.em.filter (fun e => e.2.valid)).length) else none

def hashWrite (req : Requester) (off : Nat) (v mask : Word) (s : State) : WRes :=
  if 0x200 ≤ off ∧ off < 0x300 then storeIf (!bit v 31 || decide (bitCount (fld v 19 0) ≤ 9)) pHASH off mask v s
  else if 0xE000 ≤ off ∧ off < 0xE800 then indWrite req (s.rfld pHASH 0x300 5 0 * 512 + (off - 0xE000) / 4) v s
  else .ok (store pHASH off mask v s)
def hashRead (s : State) (off : Nat) : Option Word :=
  if 0xE000 ≤ off ∧ off < 0xE800 then some (s.indEntry (s.rfld pHASH 0x300 5 0) ((off - 0xE000) / 4)) else none

end Sys2Proof.Machine
end

