-- ==== Sys2Proof/Machine/FlowCache.lean ====
section
/-! DEFINITION. Flow contexts: the flow cache, snapshots, the write of a release, quarantine, and the flow commands of the HBM
page (R268, R269, R272, R373, R379, R386-R391). -/
namespace Sys2Proof.Machine
open Sys2Proof

def updHbm (f : HbmState → HbmState) (s : State) : State := { s with hbm := f s.hbm }

/-- HBM offset of a flow's context (R379). -/
def State.flowOff (s : State) (f : Nat) : Nat := (s.reg64 pHBM 0x108).toNat - 0x1000000000 + f * 256
/-- The flow's line is in the cache and serves accesses. -/
def State.flowLine (s : State) (f : Nat) : Option FlowLine :=
  if bit (s.reg pHBM 0x110) 0 then none else s.hbm.lines.find? (fun l => l.flow == f)
/-- A line becomes the most recently used. -/
def touchLine (l : FlowLine) (s : State) : State :=
  updHbm (fun h => { h with lines := l :: h.lines.filter (fun x => x.flow != l.flow) }) s

/-- The 16 granules of 256 bytes. -/
def granulesOf (b : Bytes) : SMap W128 := (rangeFrom 0 16).map (fun g => (g, BitVec.ofNat 128 (leNat (slice b (16 * g) 16))))
/-- Commit version of a granule (R268). -/
def State.version (s : State) (f g : Nat) : Nat := sget 0 s.hbm.version (f * 16 + g)

/-- Bound or committed packets that hold a snapshot of a flow, or wait for one. -/
def State.flowUsers (s : State) (f : Nat) : List PktId :=
  s.pkts.filterMap (fun e => match e.2 with
    | some k => if !k.noFlow && k.flow.toNat == f && (k.st == .bound || k.st == .committed) then some e.1 else none
    | none => none)
/-- A packet holds a snapshot of the flow: its line is pinned (R268). -/
def State.pinned (s : State) (f : Nat) : Bool :=
  (s.flowUsers f).any (fun p => match s.pkt p with
    | some k => k.hasSnap
    | none => false)

/-- A dirty line written back through port 0 (R374, R379). -/
def writeBack (l : FlowLine) (s : State) : State :=
  if l.dirty then putBytes (hbmA (s.flowOff l.flow)) l.data (hbmCount 0 s) else s

/-- Room for a line in its set of 16 ways: none while every way is pinned (R379). -/
def makeRoom (f : Nat) (s : State) : Option State :=
  let set := s.hbm.lines.filter (fun l => l.flow % 8192 == f % 8192)
  if set.length < 16 then some s
  else match set.reverse.find? (fun l => !s.pinned l.flow) with
  | some l => some (writeBack l (updHbm (fun h => { h with lines := h.lines.filter (fun x => x.flow != l.flow) }) s))
  | none => none

/-- A snapshot of a context taken by a packet (R268, R390). -/
def snapPkt (b : Bytes) (p : PktId) (s : State) : State :=
  updPkt p (fun k =>
    { k with snap := granulesOf b, hasSnap := true
             snapVer := (rangeFrom 0 16).map (fun g => (g, s.version k.flow.toNat g))
             ctxLost := k.ctxLost || s.hbm.quarantined.contains k.flow.toNat }) s

/-- The packet just bound takes its snapshot where its context is resident; else a fill has been asked for (R268). -/
def bindSnap (p : PktId) (s : State) : State :=
  match s.pkt p with
  | some k =>
    if k.noFlow then s
    else match s.flowLine k.flow.toNat with
    | some l => snapPkt l.data p (touchLine l (bump64 pHBM 0x8010 s))
    | none => hbmCount 0 s
  | none => s

/-- The flow is quarantined: marked, recorded and raised to the Telemark complex (R388). SOURCE is 0 fill, 1 cache line,
2 write-back. -/
def quarantineFlow (f source addr : Nat) (s : State) : State :=
  let s := updHbm (fun h => { h with quarantined := f :: h.quarantined.filter (· != f) }) s
  let s := bump pHBM 0x8028 s
  let q := s.hbm.quar
  let r : QuarRec := { flow := BitVec.ofNat 20 f, source := BitVec.ofNat 3 source, addr := w64 addr, time := s.time.ns
                       lostBefore := q.lostBefore }
  let s := if q.recs.length < 64 then
      updHbm (fun h => { h with quar := { recs := q.recs ++ [r], lostBefore := false } }) s
    else bump pHBM 0x9024 (updHbm (fun h => { h with quar := { q with lostBefore := true } }) s)
  let s := raiseBit pHBM 8 s
  if bit (s.reg pHBM 0x2C) 30 then s else emit (.irq pHBM 1 0x100) s

/-- A flow cache fill arrives (R379, R388): every packet that waits for it takes its snapshot, or the flow is quarantined. -/
def execFlowFillComplete (flow : BitVec 20) (ok : Bool) (s : State) : Outcome :=
  let f := flow.toNat
  let waits := (s.flowUsers f).filter (fun p => match s.pkt p with
    | some k => !k.hasSnap
    | none => false)
  .next (
    if !s.live || waits.isEmpty then s
    else
      let a := s.flowOff f
      let s := bump64 pHBM 0x8018 s
      if !ok || s.poisoned (hbmA a) 256 then
        let s := hbmUe 0 a false s
        let s := quarantineFlow f 0 (0x1000000000 + a) s
        waits.foldl (fun s p => snapPkt (leBytes 256 0) p s) s
      else
        let b := s.bytes (hbmA a) 256
        if bit (s.reg pHBM 0x110) 0 then waits.foldl (fun s p => snapPkt b p s) s
        else match makeRoom f s with
        | some s => waits.foldl (fun s p => snapPkt b p s) (touchLine { flow := f, data := b, dirty := false } s)
        | none => bump pHBM 0x8020 s)

/-- One granule of a context written: in its line, or in HBM where the cache holds none. -/
def putGranule (f g : Nat) (v : W128) (s : State) : State :=
  let b := leBytes 16 v.toNat
  let s := updHbm (fun h => { h with version := sset h.version (f * 16 + g) (s.version f g + 1) }) s
  match s.flowLine f with
  | some l => updHbm (fun h => { h with lines := h.lines.map (fun x =>
      if x.flow == f then { x with data := splice l.data (16 * g) b, dirty := true } else x) }) s
  | none => putBytes (hbmA (s.flowOff f + 16 * g)) b (hbmCount 0 s)
/-- The committed value of a granule. -/
def State.committed (s : State) (f g : Nat) : W128 :=
  match s.flowLine f with
  | some l => BitVec.ofNat 128 (leNat (Machine.slice l.data (16 * g) 16))
  | none => BitVec.ofNat 128 (s.num (hbmA (s.flowOff f + 16 * g)) 16)
/-- Two 64-bit lanes, each with its difference added (R269). -/
def addLanes (c sh sn : W128) : W128 :=
  let lane (i : Nat) : Nat := (c.toNat / 2 ^ (64 * i) + sh.toNat / 2 ^ (64 * i) + (2 ^ 64 - sn.toNat / 2 ^ (64 * i) % 2 ^ 64)) % 2 ^ 64
  BitVec.ofNat 128 (lane 0 + lane 1 * 2 ^ 64)

/-- Step 1 of a release: the packet's context writes (R269, R272, R388). -/
def applyContext (k : Packet) (s : State) : State :=
  let f := k.flow.toNat
  if k.noFlow || k.wmask == 0 then s
  else if k.ctxLost || s.hbm.quarantined.contains f then bump pHBM 0x8024 s
  else (rangeFrom 0 16).foldl (fun s g =>
    if !bit k.wmask g then s
    else
      let sh := sget 0 k.shadow g
      if bit (w32 (s.addMask k)) g then putGranule f g (addLanes (s.committed f g) sh (sget 0 k.snap g)) s
      else putGranule f g sh s) s

/-! ### Commands (R378, R388, R389, R391) -/

/-- The insert engine sets QUARANTINE on every entry of the flow (R388). -/
def execQuarantineScan (flow : BitVec 20) (s : State) : Outcome :=
  .next (
    if !s.live || !s.hbm.quarantined.contains flow.toNat then s
    else ((s.cls.em.filter (fun e => e.2.valid && e.2.flow == flow)).map (·.1)).foldl (fun s i => emMark i s) s)

/-- In FALLBACK the controller serves no client (R372). -/
def hbmServes (s : State) : Bool := s.modeNow != .fallback

/-- A FLOW_CMD's common judgement: modes, then the flow. -/
def flowBody (req : Requester) (act : Nat → State → Option Status × State) (s : State) : Option Status × State :=
  let f := s.rfld pHBM 0x8200 19 0
  if (s.modeNow == .boot || s.modeNow == .zeroize) && req != .loader then cmdState req pHBM 0x8204 false s
  else if !hbmServes s || decide (Config.flows s.part ≤ f) then cmdFail .absent s
  else act f s

def writeContextBody (req : Requester) : State → Option Status × State :=
  flowBody req (fun f s =>
    if s.pinned f then cmdFail .busy s
    else
      let b := wordsBytes ((rangeFrom 0 64).map (fun i => s.reg pHBM (0x9100 + 4 * i)))
      let s := updHbm (fun h => { h with lines := h.lines.filter (fun x => x.flow != f)
                                         quarantined := h.quarantined.filter (· != f) }) s
      (some .ok, putBytes (hbmA (s.flowOff f)) b (hbmCount 0 s)))

def readContextBody (req : Requester) : State → Option Status × State :=
  flowBody req (fun f s =>
    let a := s.flowOff f
    let (ecc, b) := match s.flowLine f with
      | some l => (false, l.data)
      | none => (s.poisoned (hbmA a) 256, s.bytes (hbmA a) 256)
    if ecc then (some .ecc, hbmUe 0 a false (hbmCount 0 s))
    else (some .ok, (rangeFrom 0 64).foldl (fun s i => setReg pHBM (0x9100 + 4 * i) (w32 (leNat (slice b (4 * i) 4))) s) s))

def flowCmd (req : Requester) (v : Word) : State → WRes :=
  command pHBM 0x8208 (fun s => match fld v 3 0 with
    | 1 => writeContextBody req s
    | 2 => readContextBody req s
    | _ => cmdFail .badArg s)

def execWriteContext (req : Requester) (s : State) : Outcome := .next (cmdRow req pHBM 0x8204 0x8208 (writeContextBody req) s)
def execReadContext (req : Requester) (s : State) : Outcome := .next (cmdRow req pHBM 0x8204 0x8208 (readContextBody req) s)

/-- A write of HBM_QUAR_POP (R391). -/
def quarPop : State → WRes :=
  popWrite (fun s => s.hbm.quar.recs.isEmpty)
    (updHbm (fun h => { h with quar := { h.quar with recs := h.quar.recs.drop 1 } }))
def execHbmQuarPop (req : Requester) (s : State) : Outcome := .next (regRow req pHBM 0x9020 quarPop s)

/-- The bytes of a quarantine record (R388). -/
def QuarRec.bytes (r : QuarRec) : Bytes :=
  leBytes 4 (r.flow.toNat + r.source.toNat * 0x1000000 + b2n r.lostBefore * 0x80000000) ++ leBytes 4 0 ++
    leBytes 8 r.addr.toNat ++ leBytes 4 r.time.toNat ++ leBytes 12 0

/-- A write of HBM_FLOW_BASE (R373, R391): the flow cache is invalidated without write-back. -/
def flowBaseWrite (req : Requester) (v : W64) (s : State) : WRes :=
  let b := v &&& w64 0xFFF0000000
  if !(s.modeNow == .configure || req == .loader) then .refuse .stateRefused
  else if (hbmOff s.part b.toNat (Config.flows s.part * 256)).isNone then .refuse .badArg
  else .ok (updHbm (fun h => { h with lines := [] }) (setReg64 pHBM 0x108 b s))
/-- The row commits both halves; a refusal is recorded at the low half's offset (R50). -/
def execHbmFlowBaseWrite (req : Requester) (value : W64) (s : State) : Outcome :=
  .next (regRow req pHBM 0x108 (flowBaseWrite req value) s)

end Sys2Proof.Machine
end

