-- ==== Sys2Proof/Machine/Send.lean ====
section
/-! DEFINITION. Messages: the destinations of SEND, its rights and outcomes, delivery to mailboxes, and the egress channel
(R178-R180, R218, R270, R332, R394, R437). -/
namespace Sys2Proof.Machine
open Sys2Proof

/-- Where a SEND goes (R218). -/
inductive Dest where
  | mail (thread : Nat)
  | gate (piste : Nat)
  | egress
  | ring (inst ring : Nat)
deriving DecidableEq, Repr

/-- The destination that a word encodes, none where it is malformed. -/
def destOf (w : W64) : Option Dest :=
  let v := w.toNat % 2 ^ 60
  match fld w 63 60 with
  | 0 => if v < 2048 then some (.mail v) else none
  | 1 => if v < 4 then some (.gate v) else none
  | 2 => if v = 0 then some .egress else none
  | 3 => if v < 4096 then some (.ring (v % 256) (v / 256)) else none
  | 4 => if v < 8 then some (.mail (2048 + v)) else none
  | _ => none

/-- The thread may send to the destination (R218). -/
def sendRight (s : State) (t : Nat) (d : Dest) : Bool :=
  match (s.thr t).pl.toNat with
  | 0 => match d with
    | .mail u => !isTel u && tPiste u == tPiste t
    | .gate p => p == tPiste t
    | .egress => true
    | .ring i _ => match s.held t with
      | some (_, k) => k.instance_.toNat == i
      | none => false
  | 1 => match d with
    | .mail u => !isTel u
    | _ => true
  | _ => true

/-- The destination exists. -/
def destPresent (s : State) : Dest → Bool
  | .mail u => isTel u || decide (tPiste u < Config.pistes s.part)
  | .gate p => decide (p < Config.pistes s.part)
  | .egress => true
  | .ring i r => (s.inst i).st != .disabled && s.ringOn i (16 + r)

/-- A scheduled-send time in range: nanoseconds below one second (R246). -/
def timeWordOk (w : W64) : Bool := decide (w.toNat % 0x100000000 < 1000000000)
/-- TRUNC values accepted (R394, R412). -/
def truncOk (n : Nat) : Bool := n == 0 || (decide (64 ≤ n) && decide (n ≤ 2048))

/-- The judgement of an egress-channel message (R394). -/
def egressCodes (s : State) (t : Nat) (words : List W64) : List Status :=
  let w := words.getD 0 0
  let sched := bit w 15
  let bad := (s.held t).isNone || !egressRange (fld w 10 0) || w.toNat / 2 ^ 28 != 0 || bit w 11 || !truncOk (fld w 27 16) ||
    (sched && (decide (words.length < 2) || !timeWordOk (words.getD 1 0)))
  (if egressRange (fld w 10 0) && !s.portPresent (fld w 10 0) then [.absent] else []) ++ (if bad then [.badArg] else [])

/-- The mailbox of a thread has room (R180). -/
def State.mailRoom (s : State) (u : Nat) : Bool := decide ((s.thr u).mbox.length + (s.thr u).inflight.length < 4)

/-- A destination that is full (R179, R437). -/
def destBusy (s : State) : Dest → Bool
  | .mail u => !s.mailRoom u
  | .ring i r => (s.inst i).st != .active || s.posted i (16 + r) == 0
  | _ => false

/-- The status of a SEND; one that is held is not judged for room (R179, R270). -/
def sendStatus (s : State) (t : Nat) (w : W64) (words : List W64) (held : Bool) : Status :=
  match destOf w with
  | none => .badArg
  | some d =>
    let codes := (if destPresent s d then [] else [.absent]) ++ (if sendRight s t d then [] else [.notOwner]) ++
      (if words.isEmpty then [.badArg] else if d = .egress then egressCodes s t words else []) ++
      (if !held && destBusy s d then [.busy] else [])
    (firstStatus codes).getD .ok

/-- A message delivered: on its way to a mailbox, written to a host ring, or taken by a Gate, which the spec gives no
message that it acts on. -/
def deliver (t : Nat) (d : Dest) (words : List W64) (s : State) : State :=
  match d with
  | .mail u =>
    if s.mailRoom u then updThr u (fun th => { th with inflight := th.inflight ++ [{ sender := t % 2048, words := words }] }) s
    else s
  | .gate _ => s
  | .egress => s
  | .ring i r => (ringMessage t i r words s).2

/-- The words staged by a thread. -/
def Thread.staged (th : Thread) : List W64 := (rangeFrom 0 th.stageLen).map (fun i => sget 0 th.stage i)

/-- The effect of a SEND that completes with OK: held with the packet, or delivered; the staging is emptied. -/
def sendGo (t : Nat) (w : W64) (s : State) : State :=
  let words := (s.thr t).staged
  let s := traceEv t 7 w (w64 words.length) s
  let s := updThr t (fun th => { th with stage := [], stageLen := 0 }) s
  match destOf w, s.held t with
  | some .egress, some (p, k) => setPkt p { k with held := k.held ++ [{ dest := w, words := words }] } s
  | some d, some (p, k) =>
    if k.schuss then setPkt p { k with held := k.held ++ [{ dest := w, words := words }] } s else deliver t d words s
  | some d, none => deliver t d words s
  | none, _ => s

def execSend (t : Tid) (rd rs rt : Reg) (s : State) : Outcome :=
  .next (runInsn (fmtA 1 rd rs rt 0x16) t.toNat (fun th s =>
    if rt ≠ 0 then .fault 0x01 0
    else
      let w := th.rg rs
      let st := sendStatus s t.toNat w th.staged (s.schussHeld t.toNat)
      .retire (setReg' t.toNat rd (w64 st.code) (if st = .ok then sendGo t.toNat w s else s))) s)

/-- A message on its way reaches the mailbox (R180). -/
def execMailboxDelivery (t : Tid) (s : State) : Outcome :=
  let n := t.toNat
  .next (match s.live, (s.thr n).inflight with
    | true, m :: r => wake n (updThr n (fun th => { th with inflight := r, mbox := th.mbox ++ [m] }) s)
    | _, _ => s)

/-- The store that removes the oldest message, as an instruction whose word the row does not give (R180, R194). -/
def execMailboxPop (t : Tid) (s : State) : Outcome :=
  .next (runAccess t.toNat (fun _ s =>
    match locate s t.toNat .store (w64 0x21048) 4 with
    | .bad c => .fault c 0x21048
    | _ => .access false true 0x21048 4 (updThr t.toNat (fun th => { th with mbox := th.mbox.drop 1 }) s)) s)

/-- One held SEND carried out at the release of its packet (R262, R394). -/
def carrySend (p : PktId) (t : Nat) (s : State) (h : HeldSend) : State :=
  match destOf h.dest with
  | some .egress =>
    match s.pkt p with
    | some k =>
      let w := h.words.getD 0 0
      let port := fld w 10 0
      (match addRefs k.cells s with
       | some s =>
         let c := TmCopy.ofPkt p k (BitVec.ofNat 11 port) (fld w 14 12)
         tmOffer { c with trunc := fld w 27 16, sched := if bit w 15 then some (h.words.getD 1 0) else none
                          newFcs := k.changed, express := false, txts := k.txts, corr := k.corr
                          handle := s.queueHandle port (fld w 14 12) } s
       | none => bumpK (tmKey port 0xA304) s)
    | none => s
  | some d => deliver t d h.words s
  | none => s

end Sys2Proof.Machine
end

