-- ==== Sys2Proof/Machine/Gate.lean ====
section
/-! DEFINITION. Each piste's dispatcher and Gate: ready lists, the on-die store and spill rings, binding, Schuss, COMMIT,
release, replay, timeouts and records, and the DISP and GATE pages (R15, R17, R18, R24, R147, R219, R237, R250-R275, R278-R280). -/
namespace Sys2Proof.Machine
open Sys2Proof

/-! ### Lists (R250-R252, R255) -/

/-- DISP_KIND_CFG.TYPE: 0 RUN, 1 EXPRESS, 2 SIGNAL, 3 CODE (R250). -/
def State.kindType (s : State) (p kind : Nat) : Nat := s.rfld (pDISP p) (0x200 + 4 * kind) 1 0
/-- Number of a ready list. -/
def listNo (kind prio : Nat) : Nat := kind * 8 + prio
def Packet.list (k : Packet) : Nat := listNo k.kind.toNat k.prio.toNat
def Piste.list (q : Piste) (l : Nat) : List Item := sget [] q.lists l
def Piste.ring (q : Piste) (l : Nat) : List Item := sget [] q.spill l
def setList (p l : Nat) (is : List Item) (s : State) : State := updPiste p (fun q => { q with lists := sset q.lists l is }) s
/-- The item takes room of the on-die store: a re-dispatched packet takes none (R252). -/
def State.takesRoom (s : State) : Item → Bool
  | .node _ => true
  | .pkt p => match s.pkt p with
    | some k => k.replays == 0
    | none => false
/-- Items of a list that take room on the die. -/
def State.onDieOf (s : State) (p l : Nat) : Nat := (((s.piste p).list l).filter s.takesRoom).length
/-- Items in the on-die store. -/
def State.onDie (s : State) (p : Nat) : Nat := ((s.piste p).lists.map (fun e => (e.2.filter s.takesRoom).length)).sum
def State.onDieMax (s : State) (p l : Nat) : Nat := s.rfld (pDISP p) (0x400 + 4 * l) 14 0
def State.spillLog (s : State) (p l : Nat) : Nat := s.rfld (pDISP p) (0x400 + 4 * l) 20 16
/-- Items of a ring, 0 for no ring. -/
def State.ringItems (s : State) (p l : Nat) : Nat := if s.spillLog p l = 0 then 0 else 2 ^ s.spillLog p l
/-- HBM address of place `i` of a ring (R255). -/
def State.spillAddr (s : State) (p l i : Nat) : Nat :=
  (s.reg64 (pDISP p) 0x108).toNat + (((rangeFrom 0 l).map (s.ringItems p)).sum + i % max (s.ringItems p l) 1) * 64

/-! ### Numbers (R253, R257) -/

/-- Sequence number `a` precedes `b` (R253). -/
def precedes (a b : BitVec 20) : Bool := let d := (b - a).toNat; decide (1 ≤ d) && decide (d < 524288)
/-- The packet has its number and is not released (R257). -/
def Packet.unreleased (k : Packet) : Bool := k.st == .listed || k.st == .bound || k.st == .committed
/-- The packet holds a Gate entry: a squash does not free it (R258). -/
def Packet.gated (k : Packet) : Bool := k.st == .bound || k.st == .committed || (k.st == .listed && k.replays != 0)
/-- Packets of a piste that a test picks. -/
def State.pisteP (s : State) (p : Nat) (f : Packet → Bool) : List (PktId × Packet) :=
  s.pkts.filterMap (fun e => match e.2 with
    | some k => if k.tgt.toNat = p ∧ f k then some (e.1, k) else none
    | none => none)
/-- Gate entries in use. -/
def State.gateUsed (s : State) (p : Nat) : Nat := (s.pisteP p Packet.gated).length
/-- An unreleased flow predecessor exists (R257). -/
def State.hasPred (s : State) (k : Packet) : Bool :=
  !k.noFlow && !(s.pisteP k.tgt.toNat (fun q => q.unreleased && !q.noFlow && q.flow == k.flow && precedes q.seq k.seq)).isEmpty
/-- A packet that the Gate must release first (R261). -/
def State.hasRelated (s : State) (k : Packet) : Bool :=
  s.hasPred k || !(s.pisteP k.tgt.toNat (fun q =>
    q.unreleased && q.port == k.port && q.order == k.order && precedes q.seq k.seq)).isEmpty
/-- The oldest of a list of packets by number. -/
def oldest : List (PktId × Packet) → Option (PktId × Packet)
  | [] => none
  | e :: r => match oldest r with
    | some f => if precedes f.2.seq e.2.seq then some f else some e
    | none => some e
/-- A packet of the flow is firm on another piste (R271). -/
def State.firmElsewhere (s : State) (k : Packet) : Bool :=
  !k.noFlow && s.pkts.any (fun e => match e.2 with
    | some q => q.firm && (q.st == .bound || q.st == .committed) && !q.noFlow && q.flow == k.flow && q.tgt != k.tgt
    | none => false)
/-- FIRM_WAITS counts each packet that waits (R271). -/
def firmWait (p : PktId) (k : Packet) (s : State) : State :=
  if k.waited then s else bump (pGATE k.tgt.toNat) 0x8028 (setPkt p { k with waited := true } s)
/-- A granule read by the packet has another version now (R271, R272). -/
def State.stale (s : State) (k : Packet) : Bool :=
  !k.noFlow && (rangeFrom 0 16).any (fun g => bit k.rmask g && s.version k.flow.toNat g != sget 0 k.snapVer g)

/-- The flow's tracker entry is freed when the flow has no bound packet and is not in Snowplough mode (R273). -/
def freeTracker (p f : Nat) (s : State) : State :=
  if (s.piste p).snow.contains f || !(s.pisteP p (fun q => q.gated && !q.noFlow && q.flow.toNat == f)).isEmpty then s
  else updPiste p (fun q => { q with tracker := sdrop (· == f) q.tracker }) s
/-- The packet's number is released: what waits on its flow's tracker entry. -/
def forget (k : Packet) (s : State) : State := if k.noFlow then s else freeTracker k.tgt.toNat k.flow.toNat s

/-! ### Admission (R17, R250-R255) -/

/-- The next Gate sequence number. -/
def State.nextSeq (s : State) (p : Nat) : BitVec 20 := (s.piste p).nextSeq
def takeSeq (p : Nat) (s : State) : State := updPiste p (fun q => { q with nextSeq := q.nextSeq + 1 }) s
/-- An item enters the on-die store with its number (R253). -/
def enterStore (p l : Nat) (it : Item) (s : State) : State :=
  let n := s.nextSeq p
  let s := match it with
    | .pkt i => updPkt i (fun k => { k with st := .listed, seq := n }) s
    | .node _ => s
  takeSeq p (setList p l ((s.piste p).list l ++ [it]) s)
/-- The list and the store have room (R252). -/
def State.dieRoom (s : State) (p l : Nat) : Bool := decide (s.onDie p < 16384) && decide (s.onDieOf p l < s.onDieMax p l)
/-- An item goes to the tail of its list's ring (R252, R255). -/
def spillItem (p l : Nat) (cls : Nat) (it : Item) (bytes : Bytes) (s : State) : State :=
  let n := sget 0 (s.piste p).spillPos l
  let s := putHbm (s.spillAddr p l n) bytes (hbmCount (1 + p) (bump (pDISP p) (0xC000 + cls * 0x10) s))
  let s := match it with
    | .pkt i => updPkt i (fun k => { k with st := .spilled }) s
    | .node _ => s
  updPiste p (fun q => { q with spill := sset q.spill l (q.ring l ++ [it]), spillPos := sset q.spillPos l (n + 1) }) s
/-- The dispatcher accepts an item: on the die, into a ring, or not at all (R252). -/
def acceptItem (p l cls : Nat) (it : Item) (bytes : Bytes) (drop : State → State) (s : State) : State :=
  if s.dieRoom p l && ((s.piste p).ring l).isEmpty then enterStore p l it s
  else if s.kindType p (l / 8) != 1 && decide (((s.piste p).ring l).length < s.ringItems p l) then spillItem p l cls it bytes s
  else drop (bump (pDISP p) (0xC004 + cls * 0x10) s)

/-- The 64 bytes of a packet's work item (R195, R251). -/
def Packet.itemBytes (k : Packet) : Bytes :=
  k.desc ++ leBytes 4 (k.sugg.toNat + k.kind.toNat * 0x10000) ++ leBytes 4 k.replays.toNat ++ leBytes 24 0
/-- Bytes 0-27 of a code node's binding (R310). -/
def NodeItem.head (n : NodeItem) : Bytes :=
  leBytes 4 (n.graph.toNat + n.node.toNat * 0x100 + n.piste.toNat * 0x400000) ++ leBytes 4 n.cycle.toNat ++
    leBytes 4 n.deadlineNs.toNat ++ leBytes 4 (n.nin.toNat + n.nout.toNat * 0x100) ++ leBytes 12 0
/-- The 64 bytes of a code-node item. -/
def NodeItem.bytes (n : NodeItem) : Bytes := n.head ++ leBytes 4 (crc32c n.head).toNat ++ leBytes 32 0

/-- The first offer of each source piste may be admitted (R17). -/
def State.firstOffer (s : State) (p : Nat) (pkt : PktId) (k : Packet) : Bool :=
  ((s.piste p).offers.find? (fun q => match s.pkt q with
    | some x => x.src == k.src
    | none => false)) == some pkt

/-- The dispatcher takes an offered packet (R24, R138, R250, R252). -/
def admitPkt (pkt : PktId) (k : Packet) (s : State) : State :=
  let p := k.tgt.toNat
  let lane := 8 + p
  let s := updPiste p (fun q => { q with offers := q.offers.filter (· != pkt) }) s
  let ty := s.kindType p k.kind.toNat
  if s.lost p then updPkt pkt (fun k => { k with st := .gone }) (leaveBank pkt s)
  else if ty = 3 then dropPkt lane pkt (bump (pDISP p) 0x800C s)
  else if ty = 2 && k.tail && k.fail.isSome then dropPkt lane pkt s
  else
    let k := { k with replays := 0, admitted := s.time.ticks, waited := false, firm := false, abandoned := false
                      timedOut := false, ctxLost := false }
    acceptItem p k.list k.cls.toNat (.pkt pkt) k.itemBytes (dropPkt lane pkt) (setPkt pkt k s)

def execAdmit (pkt : PktId) (s : State) : Outcome :=
  .next (match s.pkt pkt with
  | some k => if s.live && k.st == .offered && s.firstOffer k.tgt.toNat pkt k then admitPkt pkt k s else s
  | none => s)

/-- The signal engine posts a code-node item to its own piste's dispatcher (R250, R310). Code nodes have no class: SPILLS and
SPILL_FULL count them in class 0. -/
def admitNode (p : Nat) (n : NodeItem) (s : State) : State :=
  let kind := s.rfld (pDISP p) 0x100 10 8
  if s.kindType p kind ≠ 3 then bump (pDISP p) 0x800C s
  else
    let n := { n with admitted := s.time.ticks }
    acceptItem p (listNo kind n.prio.toNat) 0 (.node n) n.bytes id s

/-- A ring returns its oldest item, or loses it to an uncorrectable error (R253, R255). -/
def execSpillReturn (piste : BitVec 2) (list : BitVec 6) (ecc : Bool) (s : State) : Outcome :=
  let p := piste.toNat
  let l := list.toNat
  .next (match s.live && s.pisteUp p && s.dieRoom p l, (s.piste p).ring l with
  | true, it :: r =>
    let a := s.spillAddr p l (sget 0 (s.piste p).spillPos l - (r.length + 1))
    let bad := ecc || (match hbmOff s.part a 64 with
      | some o => s.poisoned (hbmA o) 64
      | none => false)
    let s := hbmCount (1 + p) (updPiste p (fun q => { q with spill := sset q.spill l r }) s)
    if bad then
      let s := ueAt (pDISP p) (a / 64) (bump (pDISP p) 0x8010 s)
      match it with
      | .pkt i => updPkt i (fun k => { k with st := .gone }) (leaveBank i s)
      | .node _ => s
    else enterStore p l it s
  | _, _ => s)

/-! ### Binding (R24, R256-R260, R264, R268, R278) -/

/-- EXPRESS_RESERVE (R258). -/
def State.gateLimit (s : State) (p ty : Nat) : Nat := if ty = 1 then 4096 else 4096 - s.rfld (pGATE p) 0x100 15 8
/-- DEPTH of a class (R280). -/
def State.depth (s : State) (p cls : Nat) : Nat := s.rfld (pGATE p) (0x1000 + 4 * cls) 3 0
/-- The item may be bound (R257). -/
def State.eligible (s : State) (p ty : Nat) : Item → Bool
  | .node _ => true
  | .pkt i => match s.pkt i with
    | none => false
    | some k =>
      (ty != 2 || (k.tail && k.fail.isNone)) && (k.gated || decide (s.gateUsed p < s.gateLimit p ty)) &&
        (k.noFlow ||
          (decide ((s.pisteP p (fun q => (q.st == .bound || q.st == .committed) && !q.noFlow && q.flow == k.flow)).length <
              s.depth p k.cls.toNat) &&
            !((k.replays != 0 || (s.piste p).snow.contains k.flow.toNat) && s.hasPred k)))
/-- The oldest eligible item among the 16 oldest of a list. -/
def State.pickItem (s : State) (p l : Nat) : Option Item :=
  (((s.piste p).list l).take 16).find? (s.eligible p (s.kindType p (l / 8)))
/-- Bound items of a core. -/
def State.coreLoad (s : State) (core : Nat) : Nat :=
  (s.threads.filter (fun e => tCore e.1 == core && e.2.item.isSome)).length
/-- The thread is idle for a kind (R256). A core in a self-test slot is handed no work (R468). -/
def State.idleFor (s : State) (p kind t : Nat) : Bool :=
  let th := s.thr t
  let st := sget { core := 0, active := false, offline := false, retried := false, skips := [] } s.safety.st p
  !isTel t && tPiste t == p && th.item.isNone && (th.st == .running || th.st == .waiting) && bit th.evmask 1 &&
    bit (s.reg (pDISP p) (0x1000 + 4 * (t % 512))) kind && (s.kindType p kind != 1 || s.isHigh t) &&
    !(st.active && st.core.toNat == tCore t % 64)
/-- The order of step 3 of R257. -/
def State.idleRank (s : State) (t : Nat) : Nat :=
  b2n ((s.thr t).st != .waiting) * 0x100000 + s.coreLoad (tCore t) * 0x1000 + t % 512
/-- The first of a list by rank. -/
def leastBy (f : Nat → Nat) : List Nat → Option Nat
  | [] => none
  | a :: r => match leastBy f r with
    | some b => if f b < f a then some b else some a
    | none => some a
/-- The idle thread chosen for a kind. -/
def State.idleThread (s : State) (p kind : Nat) : Option Nat :=
  leastBy s.idleRank ((s.threads.map (·.1)).filter (s.idleFor p kind))
/-- The signal engine is idle: no packet is bound to it. -/
def State.engineIdle (s : State) (p : Nat) : Bool :=
  Config.hasSige s.part && (s.pisteP p (fun k => k.st == .bound && k.holder.isNone)).isEmpty

/-- Who takes an item: a thread, or the signal engine. -/
inductive Taker where
  | thread (t : Nat)
  | engine
/-- The choice of R257: list, item and taker; kinds of one priority in turn after the one bound last. -/
def State.chooseBind (s : State) (p : Nat) : Option (Nat × Item × Taker) :=
  [7, 6, 5, 4, 3, 2, 1, 0].findSome? (fun prio =>
    (rangeFrom 0 8).findSome? (fun j =>
      let kind := (sget 7 (s.piste p).lastKind prio + 1 + j) % 8
      let l := listNo kind prio
      match s.pickItem p l with
      | none => none
      | some it =>
        if s.kindType p kind = 2 then (if s.engineIdle p then some (l, it, .engine) else none)
        else (s.idleThread p kind).map (fun t => (l, it, .thread t))))

/-- Bin of WAIT_HIST (R278). -/
def histBin (ns : Nat) : Nat := ((rangeFrom 0 7).filter (fun b => decide (128 * 4 ^ b ≤ ns))).length
def countWait (p l admitted : Nat) (s : State) : State :=
  bump (pDISP p) (0x9010 + l * 0x40 + histBin (s.time.ticks - admitted) * 4) s

/-- What a binding starts afresh: the private copy, edits, snapshot, shadow, held effects (R196, R236, R264, R268). -/
def Packet.fresh (k : Packet) (cur : Bytes) : Packet :=
  { k with cur := cur, changed := false, edits := 0, hdrs := hdrSpans k.parse, rmask := 0, wmask := 0, snap := []
           snapVer := [], shadow := [], hasSnap := false, firm := false, ctxLost := false, held := [], sched := none
           txts := none, corr := none, disp := 0 }
/-- A packet is bound: Gate entry, snapshot, window (R256, R258, R268). -/
def bindPkt (i : PktId) (k : Packet) (holder : Option Nat) (s : State) : State :=
  let k := { k.fresh (s.chainBytes k.cells) with st := .bound, holder := holder, schuss := s.hasPred k }
  let s := bindSnap i (setPkt i k s)
  traceEv (match holder with
    | some t => t
    | none => k.tgt.toNat * 512) 1 (w64 k.seq.toNat) (w64 k.flow.toNat) s
/-- A thread takes an item: STATUS.WORK and the WORK event (R256). -/
def takeItem (t : Nat) (it : Item) (replay : Bool) (s : State) : State :=
  wake t (updThr t (fun th => { th with item := some it, replay := replay, ctxLost := false }) s)

/-- A Gate record queued, with the GATE event (R267). -/
def gateRec (p : Nat) (r : GateRec) (s : State) : State :=
  let q := (s.piste p).gateRecs
  if q.recs.length < 64 then
    setEvent (p * 512 + s.rfld (pGATE p) 0x100 2 0) 8
      (updPiste p (fun x => { x with gateRecs := { recs := q.recs ++ [{ r with lostBefore := q.lostBefore }], lostBefore := false } }) s)
  else bump (pGATE p) 0x8034 (updPiste p (fun x => { x with gateRecs := { q with lostBefore := true } }) s)

/-- A packet item with a bad DCRC (R260): the record's fields are what was read, a free value. -/
def badDesc (p : Nat) (i : PktId) (k : Packet) (s : State) : State :=
  let v := Config.value s.free
  let r : GateRec := { kind := 2, holder := none, lostBefore := false, seq := BitVec.ofNat 20 v.toNat
                       port := BitVec.ofNat 11 (v.toNat / 0x100000), order := BitVec.ofNat 16 (v.toNat / 0x80000000)
                       flow := BitVec.ofNat 20 (Config.value (s.free + 1)).toNat
                       cls := BitVec.ofNat 8 ((Config.value (s.free + 1)).toNat / 0x100000), time := s.time.ns }
  let s := bump (pDISP p) 0x8008 { s with free := s.free + 2 }
  let s := gateRec p r (ueAt (pDISP p) k.seq.toNat s)
  forget k (updPkt i (fun k => { k with st := .gone }) (leaveBank i s))

/-- One binding (R257); `badNode` is what happens to a code-node item whose BCRC fails (R310). -/
def bindOne (badNode : NodeItem → State → State) (p : Nat) (dcrcBad : Bool) (s : State) : State :=
  match s.chooseBind p with
  | none => s
  | some (l, it, taker) =>
    let s := updPiste p (fun q => { q with lists := sset q.lists l ((q.list l).erase it)
                                           lastKind := sset q.lastKind (l % 8) (l / 8) }) s
    match it with
    | .node n =>
      if dcrcBad then badNode n s
      else match taker with
      | .thread t => takeItem t it false (countWait p l n.admitted s)
      | .engine => s
    | .pkt i => match s.pkt i with
      | none => s
      | some k =>
        if dcrcBad then badDesc p i k s
        else if s.bankExpired k then forget k (dropExpired (8 + p) i s)
        else
          let s := if k.replays = 0 then countWait p l k.admitted s else s
          match taker with
          | .thread t => takeItem t it (k.replays != 0) (bindPkt i k (some t) s)
          | .engine => bindPkt i k none s

/-! ### COMMIT (R219, R231) -/

def Disp.code (w : W64) : Nat := fld w 2 0
/-- Egress port of a FORWARD: 0x7FF names SUGG_EGRESS. -/
def fwdPort (k : Packet) (w : W64) : Nat := if fld w 18 8 = 0x7FF then k.sugg.toNat else fld w 18 8
/-- A disposition word with a field out of range or a zero field set (R219). -/
def dispBad (k : Packet) (w : W64) : Bool :=
  let e := fld w 18 8
  let q := fld w 22 20
  let l := fld w 29 24
  w.toNat / 2 ^ 30 != 0 || bit w 23 || bit w 19 || fld w 7 3 != 0 ||
    (match Disp.code w with
     | 0 => e != 0 || q != 0 || l != 0
     | 1 => l != 0 || !(decide (e ≤ 1057) || (e == 0x7FF && k.sugg.toNat != 0x7FF))
     | 2 => q != 0 || l != 0 || !(decide (1088 ≤ e) && decide (e ≤ 1344))
     | 3 => e != 0 || q != 0
     | _ => true)
/-- A FORWARD to an absent port. -/
def dispAbsent (s : State) (k : Packet) (w : W64) : Bool :=
  Disp.code w == 1 && fwdPort k w != 0x7FF && !s.portPresent (fwdPort k w) && (decide (fld w 18 8 ≤ 1057) || fld w 18 8 == 0x7FF)
/-- The Gate takes a packet back with its disposition. -/
def gateCommit (i : PktId) (w : W64) (s : State) : State :=
  updPkt i (fun k => { k with st := .committed, disp := w, holder := none }) s
/-- The status of a COMMIT. -/
def commitStatus (s : State) (t : Nat) (w : W64) : Status :=
  match s.held t with
  | none => .empty
  | some (_, k) =>
    (firstStatus ((if dispAbsent s k w then [.absent] else []) ++ (if dispBad k w then [.badArg] else []) ++
      (if k.timedOut then [.timeout] else []))).getD .ok
/-- The effect of a COMMIT with its status. -/
def commitGo (t : Nat) (w : W64) (st : Status) (s : State) : State :=
  match s.held t with
  | none => s
  | some (i, k) => match st with
    | .ok =>
      traceEv t 2 (w64 k.seq.toNat) w (updThr t (fun th => { th with item := none })
        (if k.st = .bound then gateCommit i w s else s))
    | .timeout => updThr t (fun th => { th with item := none }) s
    | _ => s

def execCommit (t : Tid) (rd rs rt : Reg) (s : State) : Outcome :=
  .next (runInsn (fmtA 1 rd rs rt 0x15) t.toNat (fun th s =>
    if rt ≠ 0 then .fault 0x01 0
    else if th.cry.isSome then .stall
    else
      let w := th.rg rs
      let st := commitStatus s t.toNat w
      .retire (setReg' t.toNat rd (w64 st.code) (commitGo t.toNat w st s))) s)

/-! ### Firming and recall (R270, R271) -/

/-- The effects of a run discarded, its snapshot fresh (R271, R272). -/
def restartPkt (i : PktId) (k : Packet) (s : State) : State :=
  setPkt i { k.fresh (s.chainBytes k.cells) with replays := if k.replays = 15 then 15 else k.replays + 1 } s
/-- Squashes and recalls of a class (R272). -/
def countReplay (k : Packet) (s : State) : State := bump (pGATE k.tgt.toNat) (0xA000 + k.cls.toNat * 0x10) s
/-- A thread recalled (R271). -/
def recallPacket (t : Nat) (i : PktId) (k : Packet) (s : State) : State :=
  let s := restartPkt i k s
  let s := bindSnap i (updPkt i (fun k => { k with schuss := s.hasPred k }) s)
  let s := updThr t (fun th =>
    { th with pc := th.startPc, replay := true, ctxLost := false
              cry := th.cry.map (fun c => { c with orphan := true }) }) s
  let s := bump (pGATE k.tgt.toNat) 0x8024 (countReplay k s)
  traceEv t 4 (w64 k.seq.toNat) 1 s

def execPacketFirm (t : Tid) (s : State) : Outcome :=
  .next (match s.held t.toNat with
  | some (i, k) =>
    if !s.canRun t.toNat || !k.schuss || k.st != .bound || s.hasPred k then s
    else if s.firmElsewhere k then firmWait i k s
    else if s.stale k then recallPacket t.toNat i k s
    else setPkt i { k with schuss := false, firm := true } s
  | none => s)

/-! ### Release (R15, R18, R147, R237, R261-R264, R272-R274) -/

/-- A flow's squash in the tracker; its second puts the flow in Snowplough mode (R272-R274). -/
def trackSquash (k : Packet) (s : State) : State :=
  let p := k.tgt.toNat
  let f := k.flow.toNat
  let n := sget 0 (s.piste p).tracker f + 1
  let s := updPiste p (fun q => { q with tracker := sset q.tracker f n }) s
  if n < 2 ∨ (s.piste p).snow.contains f then s
  else if (s.piste p).snow.length < 1024 then
    bump (pGATE p) (0xA004 + k.cls.toNat * 0x10) (updPiste p (fun q => { q with snow := q.snow ++ [f] }) s)
  else bump (pGATE p) 0x802C s
/-- A conflict: the packet returns to the head of its list with its number and its Gate entry (R252, R272). -/
def squash (i : PktId) (k : Packet) (s : State) : State :=
  let p := k.tgt.toNat
  let s := updPkt i (fun k => { k with st := .listed, holder := none }) (restartPkt i k s)
  let s := setList p k.list (.pkt i :: (s.piste p).list k.list) (trackSquash k s)
  traceEv (p * 512) 4 (w64 k.seq.toNat) 0 (bump (pGATE p) 0x8020 (countReplay k s))

/-- Last place of a shared cell that the packet's new bytes change, counted from 1 (R237, R412). -/
def lastShared (s : State) (old : Bytes) (new : List Bytes) (same : Bool) : List Nat → Nat → Nat
  | [], _ => 0
  | c :: r, j =>
    let rest := lastShared s old new same r (j + 1)
    if rest ≠ 0 then rest
    else if 1 < ctlRefs (s.cellCtl c) ∧ !(same && (slice old (256 * j) 256 == slice (new.getD j []) 0 256)) then j + 1 else 0
/-- Step 2 of a release: the packet's bytes as edited, written in place where a cell has one reference and into new cells of
its owner elsewhere; none where no cell is left or the chain would be too long (R237, R263, R331, R412). -/
def applyEdits (i : PktId) (k : Packet) (s : State) : Option State :=
  if !k.changed then some s
  else
    let new := chunks 256 64 k.cur
    let n := ceilDiv k.cur.length 256
    let same := k.cur.length == k.len
    let m := lastShared s (s.chainBytes k.cells) new same k.cells 0
    let plan := (rangeFrom 0 n).map (fun j =>
      match k.cells[j]? with
      | some c => if j < m ∧ 1 < ctlRefs (s.cellCtl c) then none else some c
      | none => none)
    let need := (plan.filter (fun c => c.isNone)).length
    if 64 < n then none
    else match requestCells (8 + k.tgt.toNat) (k.owner.toNat % 2048) (k.owner.toNat / 2048) need [] s with
    | (none, _) => none
    | (some got, s) =>
      let fill := plan.foldl (fun (acc : List Nat × List Nat) c => match c with
        | some c => (acc.1 ++ [c], acc.2)
        | none => (acc.1 ++ [acc.2.headD 0], acc.2.drop 1)) ([], got)
      let cells := fill.1
      let old := k.cells.filter (fun c => !cells.contains c)
      some (setPkt i { k with cells := cells, len := k.cur.length } (fillCells cells k.cur (dropRefs old s)))

/-- What the Gate carries out instead of the disposition: 1 expired, 2 late length conflict, 3 context lost (R263). -/
def State.replaced (s : State) (k : Packet) : Nat :=
  if s.bankExpired k then 1 else if k.lateLen then 2 else if k.ctxLost then 3 else 0
/-- The disposition word of a replacement: DROP, or TO_PROCESSOR to the target of CLASS_EXCn. -/
def State.excDisp (s : State) (n : Nat) : W64 :=
  let w := s.reg pCLS (0x120 + (n - 1) * 4)
  if bit w 0 then w64 (2 + fld w 26 16 * 0x100) else 0

/-- A packet queued at the Lift, or dropped there (R18, R147). -/
def toLift (i : PktId) (k : Packet) (ty : Nat) (s : State) : State :=
  let p := k.tgt.toNat
  if s.rfld pPARSE 0x100 25 24 ≤ k.liftPasses.toNat then dropPkt (8 + p) i (bump pPARSE (0x8020 + p * 0x40) s)
  else if 1024 ≤ (s.piste p).liftQ.length then dropPkt (8 + p) i (bump pPARSE (0x801C + p * 0x40) s)
  else updPiste p (fun q => { q with liftQ := q.liftQ ++ [i] })
    (updPkt i (fun k => { k with st := .lift, liftType := some (BitVec.ofNat 6 ty) }) s)

/-- The stream handle of a Gate release (R395). -/
def State.handleOf (s : State) (k : Packet) : Option (BitVec 16) :=
  let w := s.reg pTM (0x1000 + 4 * k.cls.toNat)
  if !bit w 1 then none
  else if !bit w 0 then some k.order
  else if k.noFlow then none else some (k.flow.setWidth 16)

/-- Step 4 of a release: the disposition (R262). -/
def carryOut (i : PktId) (w : W64) (s : State) : State :=
  match s.pkt i with
  | none => s
  | some k =>
    let p := k.tgt.toNat
    match Disp.code w with
    | 1 =>
      let s := leaveBank i s
      let c := TmCopy.ofPkt i k (BitVec.ofNat 11 (fwdPort k w)) (fld w 22 20)
      handOver i { c with handle := s.handleOf k, sched := k.sched, newFcs := k.changed, txts := k.txts, corr := k.corr } s
    | 2 =>
      let s := leaveBank i s
      let c := TmCopy.ofPkt i k (BitVec.ofNat 11 (fld w 18 8)) k.prio.toNat
      handOver i { c with newFcs := k.changed, txts := k.txts, corr := k.corr } s
    | 3 => toLift i k (fld w 29 24) s
    | _ => dropPkt (8 + p) i s

/-- A committed packet released: the steps of R262 with the replacements of R263. -/
def release (i : PktId) (k : Packet) (s : State) : State :=
  let p := k.tgt.toNat
  let fin (w : W64) (s : State) : State :=
    let s := traceEv (p * 512) 3 (w64 k.seq.toNat) (w64 (Disp.code w)) (carryOut i w s)
    forget k (bump64 (pGATE p) 0x8010 s)
  if k.abandoned then fin 0 s
  else
    let s := applyContext k s
    let r := s.replaced k
    let (fit, s) := match applyEdits i k s with
      | some s' => (true, s')
      | none => (false, s)
    let s := k.held.foldl (carrySend i k.tgt.toNat) s
    let w := if r = 1 then 0 else if r = 2 then s.excDisp 2 else if r = 3 then s.excDisp 3
      else if fit then k.disp else 0
    let s := if r = 1 then bump pCLS 0x8010 s else if r = 0 && !fit then bump (pGATE p) 0x8030 s else s
    let s := if (r = 2 ∨ r = 3) ∧ w ≠ 0 then updPkt i (fun k => { k with exc := BitVec.ofNat 2 r }) s else s
    fin w s

/-- The Gate's next release or squash: the lowest-numbered committed packet that nothing related precedes (R261, R271,
R272). -/
def execGateRelease (piste : BitVec 2) (s : State) : Outcome :=
  let p := piste.toNat
  .next (
    if !s.live || !s.pisteUp p then s
    else match oldest (s.pisteP p (fun k => k.st == .committed && !s.hasRelated k)) with
    | none => s
    | some (i, k) =>
      if s.firmElsewhere k then firmWait i k s
      else if !k.abandoned && s.stale k then squash i k s
      else release i k s)

/-- A work item abandoned: the packet is carried out as DROP at its release; a code node's outputs wait for their deadline
(R264). -/
def abandonItem (t : Nat) (s : State) : State :=
  let s := match s.held t with
    | some (i, k) =>
      if k.st = .bound then
        setPkt i { k.fresh k.cur with st := .committed, disp := 0, holder := none, abandoned := true, schuss := false } s
      else s
    | none => s
  updThr t (fun th => { th with item := none }) s

/-! ### Timeouts and records (R265, R267, R274) -/

/-- The Gate timer of a bound packet reaches GATE_TIMEOUT (R265). -/
def execGateTimeout (pkt : PktId) (s : State) : Outcome :=
  .next (match s.pkt pkt with
  | some k =>
    let p := k.tgt.toNat
    let halted := match k.holder with
      | some t => (s.thr t).st == .halted
      | none => false
    if !s.live || !s.pisteUp p || k.st != .bound || halted || s.hasRelated k then s
    else
      let r : GateRec := { kind := 1, holder := k.holder, lostBefore := false, seq := k.seq, port := k.port
                           order := k.order, flow := k.flow, cls := k.cls, time := s.time.ns }
      let s := gateRec p r (bump (pGATE p) 0x8018 s)
      let s := updPkt pkt (fun k => { k.fresh k.cur with timedOut := true, schuss := false }) (dropPkt (8 + p) pkt s)
      forget k s
  | none => s)

/-- The bytes of a Gate record (R267). -/
def GateRec.bytes (r : GateRec) : Bytes :=
  leBytes 4 (r.kind.toNat + (match r.holder with
    | some t => t % 2048 * 256 + 0x1000000
    | none => 0) + b2n r.lostBefore * 0x4000000) ++
  leBytes 4 r.seq.toNat ++ leBytes 4 (r.port.toNat + r.order.toNat * 0x10000) ++
  leBytes 4 (r.flow.toNat + r.cls.toNat * 0x1000000) ++ leBytes 4 r.time.toNat ++ leBytes 12 0

/-- A write of GATE_REC_POP (R267). -/
def gateRecPop (p : Nat) : State → WRes :=
  popWrite (fun s => (s.piste p).gateRecs.recs.isEmpty)
    (updPiste p (fun q => { q with gateRecs := { q.gateRecs with recs := q.gateRecs.recs.drop 1 } }))
def execGateRecPop (req : Requester) (piste : BitVec 2) (s : State) : Outcome :=
  .next (regRow req (pGATE piste.toNat) 0x9020 (gateRecPop piste.toNat) s)

/-- SNOWPLOUGH_HOLD has passed since the flow's last squash (R274). -/
def execSnowploughExit (piste : BitVec 2) (flow : BitVec 20) (s : State) : Outcome :=
  let p := piste.toNat
  .next (
    if !s.live || !(s.piste p).snow.contains flow.toNat then s
    else freeTracker p flow.toNat (updPiste p (fun q => { q with snow := q.snow.filter (· != flow.toNat) }) s))

/-! ### The pages (R279, R280) -/

/-- Items of all rings of a piste but one. -/
def State.ringTotal (s : State) (p skip : Nat) : Nat :=
  ((rangeFrom 0 64).map (fun l => if l = skip then 0 else s.ringItems p l)).sum
/-- A write of DISP_LIST_CFG (R279). -/
def listCfgWrite (p l : Nat) (v mask : Word) (s : State) : WRes :=
  let lg := fld v 20 16
  let n := if lg = 0 then 0 else 2 ^ lg
  if (lg != 0 && !(decide (10 ≤ lg) && decide (lg ≤ 24))) || fld v 14 0 == 0 || decide (16384 < fld v 14 0) ||
      decide (16777216 < s.ringTotal p l + n) then .refuse .badArg
  else if lg ≠ s.spillLog p l ∧ !((s.piste p).ring l).isEmpty then .refuse .busy
  else .ok (store (pDISP p) (0x400 + 4 * l) mask v s)
def between (lo hi v : Nat) : Bool := decide (lo ≤ v) && decide (v ≤ hi)

def dispWrite (p : Nat) (_ : Requester) (off : Nat) (v mask : Word) (s : State) : WRes :=
  if off = 0x104 then storeIf (between 10 1000000 (fld v 23 0)) (pDISP p) off mask v s
  else if 0x200 ≤ off ∧ off < 0x220 then
    (if 2 ≤ fld v 1 0 && !Config.hasSige s.part then .refuse .absent else .ok (store (pDISP p) off mask v s))
  else if 0x400 ≤ off ∧ off < 0x500 then listCfgWrite p ((off - 0x400) / 4) v mask s
  else .ok (store (pDISP p) off mask v s)
/-- DISP_SPILL_BASE: the area lies in the HBM present (R255, R279). -/
def dispWrite64 (p : Nat) (_ : Requester) (off : Nat) (v : W64) (s : State) : WRes :=
  if off = 0x108 then
    let b := v &&& w64 0xFFC0000000
    if (hbmOff s.part b.toNat (64 * s.ringTotal p 64)).isNone then .refuse .badArg else .ok (setReg64 (pDISP p) off b s)
  else .ok (setReg64 (pDISP p) off v s)
/-- The registers of a DISP page that show state; CORE_LOAD is decided by the pipeline's timing and is a free value. -/
def dispRead (p : Nat) (s : State) (off : Nat) : Option Word :=
  if off = 0x8000 then some (w32 (s.onDie p))
  else if 0x9000 ≤ off ∧ off < 0xA000 ∧ off % 0x40 = 0 then some (w32 (s.onDieOf p ((off - 0x9000) / 0x40)))
  else if 0x9000 ≤ off ∧ off < 0xA000 ∧ off % 0x40 = 4 then some (w32 ((s.piste p).ring ((off - 0x9000) / 0x40)).length)
  else if 0xB000 ≤ off ∧ off < 0xB100 then some (w32 ((Config.value (s.free + off / 4)).toNat % 101))
  else none

def gateWrite (p : Nat) (_ : Requester) (off : Nat) (v mask : Word) (s : State) : WRes :=
  if off = 0x104 then storeIf (between 1000 10000000 (fld v 23 0)) (pGATE p) off mask v s
  else if off = 0x108 then storeIf (between 10 1000000 (fld v 23 0)) (pGATE p) off mask v s
  else if 0x1000 ≤ off ∧ off < 0x1400 then storeIf (between 1 8 (fld v 3 0)) (pGATE p) off mask v s
  else if off = 0x9020 then gateRecPop p s
  else .ok (store (pGATE p) off mask v s)
def gateRead (p : Nat) (s : State) (off : Nat) : Option Word :=
  if off = 0x8000 then some (match oldest (s.pisteP p Packet.unreleased) with
    | some (_, k) => w32 k.seq.toNat
    | none => 0x80000000)
  else if off = 0x8004 then some (w32 (s.nextSeq p).toNat)
  else if off = 0x8008 then some (w32 (s.gateUsed p))
  else if off = 0x800C then some (w32 (s.piste p).snow.length)
  else if off = 0x8038 then some (w32 (s.piste p).gateRecs.recs.length)
  else if 0x9000 ≤ off ∧ off < 0x9020 then some (match (s.piste p).gateRecs.recs with
    | r :: _ => w32 (leNat (slice r.bytes (off - 0x9000) 4))
    | [] => 0)
  else none

end Sys2Proof.Machine
end

