-- ==== Sys2Proof/Machine/Coproc.lean ====
section
/-! DEFINITION. The coprocessors: the frame of their instructions, CP0 packet edits, CP1 CRCs and checksums, CP2 lookups,
CP3 cryptography, CP5 time, and the saving of their state (R222, R223, R227-R249). CP4 stands with the signal engine. -/
namespace Sys2Proof.Machine
open Sys2Proof

/-! ### The frame (R191, R223, R227, R228, R232) -/

/-- The unit exists for the thread's core on the part (R227). -/
def unitPresent (part : Part) (t unit : Nat) : Bool := bit (w32 (cpenMask part t)) unit
/-- The unit is enabled at the thread's level (R191). -/
def Thread.unitOn (th : Thread) (unit : Nat) : Bool := bit th.cpen (th.pl.toNat * 8 + unit)
/-- A coprocessor instruction: absence, illegal fields, enable, then the command. -/
def cpInsn (unit func : Nat) (t : Tid) (rd rs rt : Reg) (opt : BitVec 5) (legal : Bool)
    (body : Thread → State → Body) (s : State) : Outcome :=
  .next (runInsn (fmtX unit func rd rs rt opt) t.toNat (fun th s =>
    if !unitPresent s.part t.toNat unit then .fault 0x10 0
    else if !legal then .fault 0x01 0
    else if !th.unitOn unit then .fault 0x11 0
    else body th s) s)
/-- A result register, a status or a value, written at retirement. -/
def retireReg (t : Nat) (rd : Reg) (v : W64) (s : State) : Body := .retire (setReg' t rd v s)
def retireSt (t : Nat) (rd : Reg) (st : Status) (s : State) : Body := retireReg t rd (w64 st.code) s
/-- A thread's own state changed at retirement. -/
def retireThr (t : Nat) (f : Thread → Thread) (s : State) : Body := .retire (updThr t f s)
/-- ADDR of a COPROC_ERROR (R234). -/
def unitErr (unit code : Nat) : Body := .fault 0x12 (unit * 256 + code)

/-! ### CP0 PKT (R236) -/

/-- The first of the codes that applies; a command without a held packet is EMPTY. -/
def editStatus (k : Packet) (bad : Bool) (len : Nat) (entry : Bool) : Status :=
  if bad || decide (len < 64) || decide (9216 < len) then .badArg
  else if decide (k.len + 256 < len) || (entry && decide (16 ≤ k.edits)) then .quota
  else .ok
/-- A recorded header after bytes were inserted before byte `o`. -/
def hdrIns (o n : Nat) : Option (Nat × Nat) → Option (Nat × Nat)
  | some (h, l) => some (if o ≤ h then h + n else h, l)
  | none => none
/-- A recorded header after bytes from `o` on were deleted: gone where it loses a byte. -/
def hdrDel (o n : Nat) : Option (Nat × Nat) → Option (Nat × Nat)
  | some (h, l) => if h + l ≤ o then some (h, l) else if o + n ≤ h then some (h - n, l) else none
  | none => none
def Packet.insert (k : Packet) (o : Nat) (b : Bytes) : Packet :=
  { k with cur := k.cur.take o ++ b ++ k.cur.drop o, changed := true, edits := k.edits + 1
           hdrs := k.hdrs.map (hdrIns o b.length) }
def Packet.delete (k : Packet) (o n : Nat) : Packet :=
  { k with cur := k.cur.take o ++ k.cur.drop (o + n), changed := true, edits := k.edits + 1
           hdrs := k.hdrs.map (hdrDel o n) }
/-- The build buffer's bytes. -/
def Thread.bufBytes (th : Thread) : Bytes := (rangeFrom 0 8).flatMap (fun i => leBytes 8 (sget 0 th.buf i).toNat)
/-- A CP0 edit of the held packet: its code and the packet afterwards. -/
def editInsn (func : Nat) (t : Tid) (rd rs rt : Reg) (opt : BitVec 5) (legal : Bool)
    (f : Thread → Packet → Status × Packet) (s : State) : Outcome :=
  cpInsn 0 func t rd rs rt opt legal (fun th s =>
    if th.pktBusy then .stall
    else match s.held t.toNat with
    | none => retireSt t.toNat rd .empty s
    | some (p, k) => match f th k with
      | (.ok, k') => retireSt t.toNat rd .ok (setPkt p k' s)
      | (st, _) => retireSt t.toNat rd st s) s

def execPktBufw (t : Tid) (rd rs rt : Reg) (opt : BitVec 5) (s : State) : Outcome :=
  cpInsn 0 1 t rd rs rt opt (rd == 0 && rt == 0 && decide (opt.toNat < 8)) (fun th s =>
    if (s.held t.toNat).isNone then .retire s
    else retireThr t.toNat (fun x => { x with buf := sset x.buf opt.toNat (th.rg rs) }) s) s

def pktOvr (rs rt : Reg) (opt : BitVec 5) (th : Thread) (k : Packet) : Status × Packet :=
  let o := (th.rg rs).toNat
  let n := opt.toNat % 8 + 1
  let beyond := decide (512 < o + n)
  (editStatus k (decide (k.cur.length < o + n + 4)) k.cur.length beyond,
   { k with cur := splice k.cur o (beBytes n (th.rg rt).toNat), changed := true, edits := k.edits + b2n beyond })
def execPktOvr (t : Tid) (rd rs rt : Reg) (opt : BitVec 5) (s : State) : Outcome :=
  editInsn 2 t rd rs rt opt (decide (opt.toNat < 8)) (pktOvr rs rt opt) s

def pktIns (rs rt : Reg) (th : Thread) (k : Packet) : Status × Packet :=
  let o := (th.rg rs).toNat
  let n := (th.rg rt).toNat
  (editStatus k (n == 0 || decide (64 < n) || decide (k.cur.length < o + 4)) (k.cur.length + n) true,
   k.insert o (th.bufBytes.take n))
def execPktIns (t : Tid) (rd rs rt : Reg) (opt : BitVec 5) (s : State) : Outcome :=
  editInsn 3 t rd rs rt opt (opt == 0) (pktIns rs rt) s

def pktDel (rs rt : Reg) (th : Thread) (k : Packet) : Status × Packet :=
  let o := (th.rg rs).toNat
  let n := (th.rg rt).toNat
  (editStatus k (n == 0 || decide (256 < n) || decide (k.cur.length < o + n + 4)) (k.cur.length - n) true, k.delete o n)
def execPktDel (t : Tid) (rd rs rt : Reg) (opt : BitVec 5) (s : State) : Outcome :=
  editInsn 4 t rd rs rt opt (opt == 0) (pktDel rs rt) s

/-- A recorded header's present offset and parsed length. -/
def Packet.hdr (k : Packet) (opt : BitVec 5) : Option (Nat × Nat) := (k.hdrs[opt.toNat % 16]?).getD none
def pktPush (rt : Reg) (opt : BitVec 5) (th : Thread) (k : Packet) : Status × Packet :=
  let n := (th.rg rt).toNat
  match k.hdr opt with
  | none => (.badArg, k)
  | some (o, _) =>
    (editStatus k (n == 0 || decide (64 < n) || decide (k.cur.length < o + 4)) (k.cur.length + n) true,
     k.insert o (th.bufBytes.take n))
def execPktPush (t : Tid) (rd rs rt : Reg) (opt : BitVec 5) (s : State) : Outcome :=
  editInsn 5 t rd rs rt opt (rs == 0 && decide (opt.toNat < 16)) (pktPush rt opt) s

def pktPop (opt : BitVec 5) (_ : Thread) (k : Packet) : Status × Packet :=
  match k.hdr opt with
  | none => (.badArg, k)
  | some (o, n) => (editStatus k (decide (k.cur.length < o + n + 4)) (k.cur.length - n) true, k.delete o n)
def execPktPop (t : Tid) (rd rs rt : Reg) (opt : BitVec 5) (s : State) : Outcome :=
  editInsn 6 t rd rs rt opt (rs == 0 && rt == 0 && decide (opt.toNat < 16)) (pktPop opt) s

/-- Eight bytes at an offset, lowest address most significant, zero past the length. -/
def pktRead (k : Packet) (o : Nat) : W64 := w64 (beNat (slice k.cur o 8))
def execPktRd (t : Tid) (rd rs rt : Reg) (opt : BitVec 5) (s : State) : Outcome :=
  cpInsn 0 7 t rd rs rt opt (rt == 0 && opt == 0) (fun th s =>
    let o := (th.rg rs).toNat
    match s.held t.toNat with
    | none => retireSt t.toNat rd .empty s
    | some (_, k) => if o < 512 then retireReg t.toNat rd (pktRead k o) s else .park (.pktRd rd o) s) s
def execPktLen (t : Tid) (rd rs rt : Reg) (opt : BitVec 5) (s : State) : Outcome :=
  cpInsn 0 8 t rd rs rt opt (rs == 0 && rt == 0 && opt == 0) (fun _ s =>
    match s.held t.toNat with
    | none => retireSt t.toNat rd .empty s
    | some (_, k) => retireReg t.toNat rd (w64 k.cur.length) s) s
/-- The packet as it arrived, its edit list empty. -/
def execPktUndo (t : Tid) (rd rs rt : Reg) (opt : BitVec 5) (s : State) : Outcome :=
  cpInsn 0 9 t rd rs rt opt (rs == 0 && rt == 0 && opt == 0) (fun th s =>
    if th.pktBusy then .stall
    else match s.held t.toNat with
    | none => retireSt t.toNat rd .empty s
    | some (p, k) =>
      retireSt t.toNat rd .ok (setPkt p { k with cur := s.chainBytes k.cells, changed := false, edits := 0
                                                 hdrs := hdrSpans k.parse } s)) s

/-! ### CP1 CRC (R238) -/

/-- A fresh accumulator of an algorithm; none for ALG 6 to 15, and for the programmable slots of the Telemark CP1, whose
complex has no slot registers. -/
def State.crcInit (s : State) (t alg : Nat) : Option CrcAcc :=
  if alg = 0 then some { CrcAcc.zero with value := 0xFFFFFFFF, alg := 0 }
  else if alg = 1 then some { CrcAcc.zero with value := 0xFFFFFFFF, alg := 1, poly := 0x1EDC6F41 }
  else if alg < 6 ∧ isTel t = false then
    let r (o : Nat) : Word := s.reg (pCLU (tCluster t)) (0x400 + (alg - 2) * 0x10 + o)
    let c := r 4
    let w := fld c 5 0
    some { value := w32 ((r 8).toNat % 2 ^ w), alg := BitVec.ofNat 4 alg, width := w, poly := r 0, refin := bit c 8
           refout := bit c 9, xor := r 12 }
  else none
def Thread.acc (th : Thread) (one : Bool) : CrcAcc := if one then th.a1 else th.a0
def Thread.setAcc (th : Thread) (one : Bool) (a : CrcAcc) : Thread := if one then { th with a1 := a } else { th with a0 := a }
/-- Sum in 32-bit ones'-complement arithmetic. -/
def ocAdd (a b : Nat) : Nat := let n := a + b; n % 0x100000000 + n / 0x100000000
/-- A number folded to 16 bits. -/
def fold16 (n : Nat) : Nat :=
  let f (x : Nat) : Nat := x % 65536 + x / 65536
  f (f (f n))
/-- Bytes added to a checksum as 16-bit big-endian words, an odd last byte padded with zero. -/
def csAdd (cs : Word) (b : Bytes) : Word :=
  w32 ((chunks 2 (b.length + 1) b).foldl (fun a w => ocAdd a (beNat (slice w 0 2))) cs.toNat)

def execCrcInit (t : Tid) (rd rs rt : Reg) (opt : BitVec 5) (s : State) : Outcome :=
  cpInsn 1 1 t rd rs rt opt (rt == 0 && decide (opt.toNat < 2)) (fun th s =>
    match s.crcInit t.toNat (fld (th.rg rs) 3 0) with
    | some a => retireSt t.toNat rd .ok (updThr t.toNat (fun x => x.setAcc (bit opt 0) a) s)
    | none => retireSt t.toNat rd .badArg s) s
def execCrcUpd (t : Tid) (rd rs rt : Reg) (opt : BitVec 5) (s : State) : Outcome :=
  cpInsn 1 2 t rd rs rt opt (rd == 0 && rt == 0 && decide (opt.toNat < 16)) (fun th s =>
    retireThr t.toNat (fun x => x.setAcc (bit opt 3) ((x.acc (bit opt 3)).feed (beBytes (opt.toNat % 8 + 1) (th.rg rs).toNat))) s) s
/-- A range command of CP1 parks, with its status where it reads no byte. -/
def rangeInsn (func : Nat) (t : Tid) (rd rs rt : Reg) (opt : BitVec 5) (legal : Bool) (op : Nat → Nat → Parked)
    (s : State) : Outcome :=
  cpInsn 1 func t rd rs rt opt legal (fun th s =>
    let o := (th.rg rs).toNat
    let n := (th.rg rt).toNat
    if th.pktBusy then .stall
    else match s.held t.toNat with
    | none => .park (.value rd (w64 Status.empty.code) 0) s
    | some (_, k) =>
      if k.cur.length < o + n then .park (.value rd (w64 Status.badArg.code) 0) s else .park (op o n) s) s
def execCrcPrange (t : Tid) (rd rs rt : Reg) (opt : BitVec 5) (s : State) : Outcome :=
  rangeInsn 3 t rd rs rt opt (decide (opt.toNat < 2)) (fun o n => .prange rd o n (bit opt 0)) s
def execCrcFin (t : Tid) (rd rs rt : Reg) (opt : BitVec 5) (s : State) : Outcome :=
  cpInsn 1 4 t rd rs rt opt (rs == 0 && rt == 0 && decide (opt.toNat < 2)) (fun th s =>
    retireReg t.toNat rd ((th.acc (bit opt 0)).final.setWidth 64) s) s
def execCrcCset (t : Tid) (rd rs rt : Reg) (opt : BitVec 5) (s : State) : Outcome :=
  cpInsn 1 5 t rd rs rt opt (rd == 0 && rt == 0 && opt == 0) (fun th s =>
    retireThr t.toNat (fun x => { x with cs := lo32 (th.rg rs) }) s) s
def execCrcCadd (t : Tid) (rd rs rt : Reg) (opt : BitVec 5) (s : State) : Outcome :=
  cpInsn 1 6 t rd rs rt opt (rd == 0 && rt == 0 && opt == 0) (fun th s =>
    retireThr t.toNat (fun x => { x with cs := csAdd x.cs (beBytes 8 (th.rg rs).toNat) }) s) s
def execCrcCrange (t : Tid) (rd rs rt : Reg) (opt : BitVec 5) (s : State) : Outcome :=
  rangeInsn 7 t rd rs rt opt (opt == 0) (fun o n => .crange rd o n) s
def execCrcCfin (t : Tid) (rd rs rt : Reg) (opt : BitVec 5) (s : State) : Outcome :=
  cpInsn 1 8 t rd rs rt opt (rs == 0 && rt == 0 && opt == 0) (fun th s =>
    retireReg t.toNat rd (w64 (0xFFFF - fold16 th.cs.toNat)) s) s
/-- NOT(NOT old sum + NOT old word + new word) in 16-bit ones'-complement arithmetic. -/
def cinc (a b : W64) : W64 := w64 (0xFFFF - fold16 ((0xFFFF - fld a 15 0) + (0xFFFF - fld b 31 16) + fld b 15 0))
def execCrcCinc (t : Tid) (rd rs rt : Reg) (opt : BitVec 5) (s : State) : Outcome :=
  cpInsn 1 9 t rd rs rt opt (opt == 0) (fun th s => retireReg t.toNat rd (cinc (th.rg rs) (th.rg rt)) s) s

/-! ### CP2 LKP (R239, R240, R247) -/

def Parked.isLookup : Parked → Bool
  | .ffind .. | .fins .. | .fdel .. | .hfind .. | .hins .. | .hdel .. | .rfind .. => true
  | _ => false
/-- A lookup request of the thread is in its unit. -/
def Thread.lookup (th : Thread) : Bool :=
  match th.park with
  | some (op, _) => op.isLookup
  | none => false
/-- CP2 has room for a request of the thread: 32 in the cluster, 4 from one core (R247). -/
def State.lkpRoom (s : State) (t : Nat) : Bool :=
  let w := s.threads.filter (fun e => !isTel e.1 && tCluster e.1 == tCluster t && e.2.lookup)
  decide (w.length < 32) && decide ((w.filter (fun e => tCore e.1 == tCore t)).length < 4)
/-- A parking lookup: it waits for room, and, where it changes a table, until its packet is firm (R232, R270). -/
def lkpInsn (func : Nat) (t : Tid) (rd rs rt : Reg) (opt : BitVec 5) (legal firms : Bool) (op : Thread → Parked)
    (s : State) : Outcome :=
  cpInsn 2 func t rd rs rt opt legal (fun th s =>
    let pg := pCLU (tCluster t.toNat)
    if firms && s.schussHeld t.toNat then .stall
    else if !s.lkpRoom t.toNat then .stallIn (bump pg 0x8418 s)
    else .park (op th) (bump64 pg 0x8410 s)) s

def execLkpKeyw (t : Tid) (rd rs rt : Reg) (opt : BitVec 5) (s : State) : Outcome :=
  cpInsn 2 1 t rd rs rt opt (rd == 0 && rt == 0 && decide (opt.toNat < 6)) (fun th s =>
    retireThr t.toNat (fun x =>
      if opt.toNat = 5 then { x with profile := BitVec.ofNat 6 (th.rg rs).toNat }
      else { x with key := sset x.key opt.toNat (lo32 (th.rg rs)) }) s) s
def execLkpFfind (t : Tid) (rd rs rt : Reg) (opt : BitVec 5) (s : State) : Outcome :=
  lkpInsn 2 t rd rs rt opt (rs == 0 && rt == 0 && opt == 0) false (fun _ => .ffind rd) s
def execLkpFins (t : Tid) (rd rs rt : Reg) (opt : BitVec 5) (s : State) : Outcome :=
  lkpInsn 3 t rd rs rt opt (rt == 0 && opt == 0) true (fun th => .fins rd (BitVec.ofNat 20 (th.rg rs).toNat)) s
def execLkpFdel (t : Tid) (rd rs rt : Reg) (opt : BitVec 5) (s : State) : Outcome :=
  lkpInsn 4 t rd rs rt opt (rs == 0 && rt == 0 && opt == 0) true (fun _ => .fdel rd) s
def execLkpHfind (t : Tid) (rd rs rt : Reg) (opt : BitVec 5) (s : State) : Outcome :=
  lkpInsn 6 t rd rs rt opt (rs == 0 && rt == 0 && decide (opt.toNat < 4)) false (fun _ => .hfind rd opt.toNat) s
def execLkpHins (t : Tid) (rd rs rt : Reg) (opt : BitVec 5) (s : State) : Outcome :=
  lkpInsn 7 t rd rs rt opt (rt == 0 && decide (opt.toNat < 4)) true (fun th => .hins rd (th.rg rs) opt.toNat) s
def execLkpHdel (t : Tid) (rd rs rt : Reg) (opt : BitVec 5) (s : State) : Outcome :=
  lkpInsn 8 t rd rs rt opt (rs == 0 && rt == 0 && decide (opt.toNat < 4)) true (fun _ => .hdel rd opt.toNat) s
def execLkpRfind (t : Tid) (rd rs rt : Reg) (opt : BitVec 5) (s : State) : Outcome :=
  lkpInsn 9 t rd rs rt opt (rt == 0 && decide (opt.toNat < 4)) false (fun th => .rfind rd (lo32 (th.rg rs)) opt.toNat) s

/-- The flat address and size of one of a cluster's tables, none where it covers nothing or is not in use. -/
def State.lkpTable (s : State) (cl n : Nat) : Option (Nat × Word) :=
  let cfg := s.reg (pCLU cl) (0x518 + n * 0x10)
  let b := (s.reg64 (pCLU cl) (0x510 + n * 0x10)).toNat
  let size := 2 ^ fld cfg 20 16 * (if fld cfg 29 28 = 0 then 128 else 16)
  if !bit cfg 31 then none
  else if 0x10000000 ≤ b ∧ b + size ≤ 0x10100000 then some (clusterA cl (b - 0x10000000), cfg)
  else (hbmOff s.part b size).map (fun o => (hbmA o, cfg))
/-- A lookup's common judgement: the table's right and kind; then its body. Answers the status and the state. -/
def lkpBody (t n kind : Nat) (f : Nat → Word → State → Status × State) (s : State) : Status × State :=
  match s.lkpTable (tCluster t) n with
  | none => (.absent, s)
  | some (a, cfg) =>
    if (s.thr t).pl = 0 ∧ !bit cfg 30 then (.notOwner, s)
    else if fld cfg 29 28 ≠ kind then (.badArg, s)
    else f a cfg s
/-- An uncorrectable entry: counted where it lies. -/
def entryUe (t a : Nat) (s : State) : Status × State := (.ecc, loadUe (pCLU (tCluster t)) a (10 + tPiste t) s)
/-- A read of an entry of a table in HBM goes through the piste's direct-load port (R241). -/
def entryRead (t a : Nat) (s : State) : State := if a < 0x1000000000000 then hbmCount (10 + tPiste t) s else s
/-- The key words a thread offers to a HASH table. -/
def Thread.hashKey (th : Thread) (cfg : Word) : List Word :=
  (rangeFrom 0 4).map (fun i => if i ≤ fld cfg 25 24 then sget 0 th.key i else 0)
/-- The address of a key's bucket. -/
def bucketOf (th : Thread) (a : Nat) (cfg : Word) : Nat :=
  let ws := (rangeFrom 0 (fld cfg 25 24 + 1)).map (fun i => sget 0 th.key i)
  a + (crc32c (wordsBytes ws)).toNat % 2 ^ fld cfg 20 16 * 128
/-- The entries of a bucket in order up to one that a test takes: its address, an uncorrectable entry, or none. -/
def scanBucket (t b : Nat) (hit : State → Nat → Bool) : Nat → Nat → State → Option (Nat ⊕ Nat) × State
  | 0, _, s => (none, s)
  | f + 1, i, s =>
    let e := b + i * 32
    let s := entryRead t e s
    if s.poisoned e 32 then (some (.inr e), s)
    else if hit s e then (some (.inl e), s) else scanBucket t b hit f (i + 1) s
/-- The entry is valid and holds the key. -/
def entryIs (key : List Word) (s : State) (e : Nat) : Bool :=
  s.num (e + 24) 4 / 0x80000000 == 1 && s.bytes e 16 == wordsBytes key
def setRes2 (t i : Nat) (v : W64) (s : State) : State := updThr t (fun th => { th with res2 := sset th.res2 i v }) s

def hfindGo (t n : Nat) (s : State) : Status × State :=
  lkpBody t n 0 (fun a cfg s =>
    let th := s.thr t
    match scanBucket t (bucketOf th a cfg) (entryIs (th.hashKey cfg)) 4 0 s with
    | (some (.inl e), s) => (.ok, setRes2 t 0 (w64 (s.num (e + 16) 8)) s)
    | (some (.inr e), s) => entryUe t e s
    | (none, s) => (.absent, s)) s
/-- An entry written: VALID cleared first, then key and data, then VALID (R240). -/
def putEntry (e : Nat) (key : List Word) (data : W64) (s : State) : State :=
  putBytes e (wordsBytes key ++ leBytes 8 data.toNat ++ leBytes 4 0x80000000 ++ leBytes 4 0) s
def hinsGo (t n : Nat) (data : W64) (s : State) : Status × State :=
  lkpBody t n 0 (fun a cfg s =>
    let th := s.thr t
    let b := bucketOf th a cfg
    let key := th.hashKey cfg
    match scanBucket t b (entryIs key) 4 0 s with
    | (some (.inl e), s) => (.ok, putEntry e key data s)
    | (some (.inr e), s) => entryUe t e s
    | (none, s) => match scanBucket t b (fun s e => s.num (e + 24) 4 / 0x80000000 == 0) 4 0 s with
      | (some (.inl e), s) => (.ok, putEntry e key data s)
      | (some (.inr e), s) => entryUe t e s
      | (none, s) => (.empty, s)) s
def hdelGo (t n : Nat) (s : State) : Status × State :=
  lkpBody t n 0 (fun a cfg s =>
    let th := s.thr t
    match scanBucket t (bucketOf th a cfg) (entryIs (th.hashKey cfg)) 4 0 s with
    | (some (.inl e), s) => (.ok, putNum (e + 24) 4 (s.num (e + 24) 4 % 0x80000000) s)
    | (some (.inr e), s) => entryUe t e s
    | (none, s) => (.absent, s)) s
/-- Binary search for the greatest bound not above a value, by fuel: entries [lo, hi) remain; every bound below `lo` is not
above the value. -/
def rangeSearch (t a v : Nat) : Nat → Nat → Nat → State → (Nat ⊕ Nat) × State
  | 0, lo, _, s => (.inl lo, s)
  | f + 1, lo, hi, s =>
    if hi ≤ lo then (.inl lo, s)
    else
      let m := (lo + hi) / 2
      let e := a + m * 16
      let s := entryRead t e s
      if s.poisoned e 16 then (.inr e, s)
      else if s.num e 4 ≤ v then rangeSearch t a v f (m + 1) hi s else rangeSearch t a v f lo m s
def rfindGo (t n : Nat) (v : Word) (s : State) : Status × State :=
  lkpBody t n 1 (fun a cfg s =>
    match rangeSearch t a v.toNat 26 0 (2 ^ fld cfg 20 16) s with
    | (.inr e, s) => entryUe t e s
    | (.inl 0, s) => (.absent, s)
    | (.inl (i + 1), s) => (.ok, setRes2 t 1 (w64 i) (setRes2 t 0 (w64 (s.num (a + i * 16 + 8) 8)) s))) s

/-- PL0 threads need FLOW_WR_PL0 for the flow table (R239). -/
def flowRight (s : State) (t : Nat) : Bool := (s.thr t).pl != 0 || bit (s.reg (pCLU (tCluster t)) 0x500) 0
def Thread.flowKey (th : Thread) : List Word := (rangeFrom 0 5).map (fun i => sget 0 th.key i)
def ffindGo (t : Nat) (s : State) : Status × State :=
  match s.emFind (s.thr t).flowKey (s.thr t).profile.toNat with
  | some i =>
    let e := s.emSlot i
    (.ok, setRes2 t 0 (w64 (0x80000000 + b2n e.quarantine * 0x40000000 + e.flow.toNat)) s)
  | none => (.absent, setRes2 t 0 0 s)
def finsGo (t : Nat) (flow : BitVec 20) (s : State) : Status × State :=
  if !flowRight s t then (.notOwner, s) else emInsertKey (s.thr t).flowKey (s.thr t).profile.toNat flow s
def fdelGo (t : Nat) (s : State) : Status × State :=
  if !flowRight s t then (.notOwner, s) else emDeleteKey (s.thr t).flowKey (s.thr t).profile.toNat s

/-! ### CP3 CRY (R242-R244, R351) -/

/-- The unit of a thread: a cluster's, or 32 in the Telemark complex. -/
def cryUnit (t : Nat) : Nat := if isTel t then 32 else tCluster t
def State.keySlot (s : State) (u i : Nat) : KeySlot := sget { key := 0, mode := 0, valid := false } s.keyStores (u * 256 + i)
def setKey (u i : Nat) (k : KeySlot) (s : State) : State := { s with keyStores := sset s.keyStores (u * 256 + i) k }
def Thread.par (th : Thread) (i : Nat) : W64 := sget 0 th.p3 i
/-- Commands in the unit. -/
def State.cryQueue (s : State) (u : Nat) : Nat := (s.threads.filter (fun e => cryUnit e.1 == u && e.2.cry.isSome)).length
/-- Offset of the CP3 counters: the CLU page's, and the same offsets on the TEL page (R249). -/
def cryBump (t off : Nat) (s : State) : State := bump (tPage t) off s

/-- An asynchronous command judged (R243). -/
def cryStatus (s : State) (t : Nat) (key : Option Nat) (codes : Packet → List Status) (needs : Bool) : Status :=
  let th := s.thr t
  let slot := s.keySlot (cryUnit t) (fld (th.par 0) 7 0)
  let absent := match key with
    | some lo => !slot.valid || !(slot.mode.toNat / 2 * 2 == lo)
    | none => false
  (firstStatus ((if absent then [.absent] else []) ++
    (match s.held t with
     | some (_, k) => codes k
     | none => if needs then [.empty] else []) ++
    (if th.cry.isSome || decide (16 ≤ s.cryQueue (cryUnit t)) then [.busy] else []))).getD .ok
/-- A command accepted, or refused with its status. -/
def cryAccept (t : Nat) (rd : Reg) (st : Status) (op : CryOp) (s : State) : Body :=
  match st with
  | .ok => retireSt t rd .ok (updThr t (fun th =>
      { th with cry := some op, cryDone := false, cryAuth := false, cryStatus := 0 }) s)
  | .busy => retireSt t rd .busy (cryBump t 0x842C s)
  | st => retireSt t rd st s
def tagOk (n : Nat) : Bool := n == 8 || n == 12 || n == 16
/-- The operation that a thread's parameters describe. -/
def cryOp (s : State) (t func : Nat) (src len : W64) (fromPkt : Bool) : CryOp :=
  let th := s.thr t
  let slot := s.keySlot (cryUnit t) (fld (th.par 0) 7 0)
  { func := func, p := (rangeFrom 0 5).map th.par, src := src, len := len, fromPkt := fromPkt, key := slot.key
    keyMode := slot.mode, pkt := (s.held t).map (·.1), orphan := false }

def execCrySetp (t : Tid) (rd rs rt : Reg) (opt : BitVec 5) (s : State) : Outcome :=
  cpInsn 3 1 t rd rs rt opt (rd == 0 && rt == 0 && decide (opt.toNat < 5)) (fun th s =>
    retireThr t.toNat (fun x => { x with p3 := sset x.p3 opt.toNat (th.rg rs) }) s) s
/-- Ranges and tag of a GCM or CMAC command inside the packet before its FCS. -/
def cryRangeBad (th : Thread) (gcm : Bool) (k : Packet) : Bool :=
  let n := k.cur.length - 4
  let p3 := th.par 3
  let tag := fld (th.par 0) 16 12
  !tagOk tag || (gcm && decide (n < fld p3 15 0 + fld p3 31 16)) || decide (n < fld p3 47 32 + fld p3 63 48) ||
    decide (n < fld (th.par 4) 15 0 + tag)
def execCryGcm (t : Tid) (rd rs rt : Reg) (opt : BitVec 5) (s : State) : Outcome :=
  cpInsn 3 2 t rd rs rt opt (rs == 0 && rt == 0 && opt == 0) (fun th s =>
    let st := cryStatus s t.toNat (some 0) (fun k => if cryRangeBad th true k then [.badArg] else []) true
    cryAccept t.toNat rd st (cryOp s t.toNat 2 0 0 true) s) s
def execCryCmac (t : Tid) (rd rs rt : Reg) (opt : BitVec 5) (s : State) : Outcome :=
  cpInsn 3 3 t rd rs rt opt (rs == 0 && rt == 0 && opt == 0) (fun th s =>
    let st := cryStatus s t.toNat (some 2) (fun k => if cryRangeBad th false k then [.badArg] else []) true
    cryAccept t.toNat rd st (cryOp s t.toNat 3 0 0 true) s) s
/-- The flat address of bytes in one plain memory that the thread may load, none elsewhere. -/
def shaSource (s : State) (t : Nat) (a n : W64) : Option Nat :=
  match locate s t .load a 1 with
  | .mem m _ _ _ =>
    if n.toNat ≤ 1 then some m
    else match locate s t .load (a + n - 1) 1 with
    | .mem e _ _ _ => if e = m + (n.toNat - 1) then some m else none
    | _ => none
  | _ => none
def execCrySha (t : Tid) (rd rs rt : Reg) (opt : BitVec 5) (s : State) : Outcome :=
  cpInsn 3 4 t rd rs rt opt (decide (opt.toNat < 2)) (fun th s =>
    let a := th.rg rs
    let n := th.rg rt
    if bit opt 0 then
      let st := cryStatus s t.toNat none
        (fun k => if k.cur.length - 4 < a.toNat + n.toNat then [.badArg] else []) true
      cryAccept t.toNat rd st (cryOp s t.toNat 4 a n true) s
    else
      let src := shaSource s t.toNat a n
      let st := if src.isNone then .badArg else cryStatus s t.toNat none (fun _ => []) false
      cryAccept t.toNat rd st (cryOp s t.toNat 4 (w64 (src.getD 0)) n false) s) s
def execCryPoll (t : Tid) (rd rs rt : Reg) (opt : BitVec 5) (s : State) : Outcome :=
  cpInsn 3 5 t rd rs rt opt (rs == 0 && rt == 0 && opt == 0) (fun th s =>
    retireReg t.toNat rd (w64 (b2n th.cryDone * 0x80000000 + b2n th.cryAuth * 0x100 + th.cryStatus.toNat)) s) s

/-- The secure source of a key record, as a flat address. -/
def keySource (t : Nat) (a : W64) : Option Nat :=
  let n := a.toNat
  if n % 64 ≠ 0 then none
  else if isTel t then (if n + 64 ≤ 0x40000 then some (telSecA n) else none)
  else if 0x100F0000 ≤ n ∧ n + 64 ≤ 0x10100000 then some (clusterA (tCluster t) (n - 0x10000000)) else none
def keySlots (t : Nat) : Nat := if isTel t then 64 else 256
/-- KLOAD: its status and effect (R242, R243, R351). -/
def kloadGo (t : Nat) (src : W64) (slot : Nat) (s : State) : Status × State :=
  if (s.thr t).pl = 0 then (.notOwner, s)
  else match keySource t src with
  | none => (.badArg, s)
  | some m =>
    if keySlots t ≤ slot then (.badArg, s)
    else if s.wipeBlocked (cryUnit t) then (.busy, s)
    else if s.poisoned m 40 then (.ecc, loadUe (tPage t) m 0 s)
    else
      let mode := s.num (m + 32) 1
      if 3 < mode then (.badArg, s)
      else (.ok, setKey (cryUnit t) slot
        { key := BitVec.ofNat 256 (s.num m 32), mode := BitVec.ofNat 2 mode, valid := true } s)
def kzeroGo (t slot : Nat) (s : State) : Status × State :=
  if (s.thr t).pl = 0 then (.notOwner, s)
  else if keySlots t ≤ slot then (.badArg, s)
  else if s.wipeBlocked (cryUnit t) then (.busy, s)
  else (.ok, setKey (cryUnit t) slot { key := 0, mode := 0, valid := false } s)
/-- A key-store command takes effect for what is accepted after it, and parks until its status is returned. -/
def keyInsn (func : Nat) (t : Tid) (rd rs rt : Reg) (opt : BitVec 5) (legal : Bool)
    (f : Thread → State → Status × State) (s : State) : Outcome :=
  cpInsn 3 func t rd rs rt opt legal (fun th s =>
    if s.schussHeld t.toNat then .stall
    else
      let (st, s) := f th s
      .park (.value rd (w64 st.code) 0) (if st = .busy then cryBump t.toNat 0x842C s else s)) s
def execCryKload (t : Tid) (rd rs rt : Reg) (opt : BitVec 5) (s : State) : Outcome :=
  keyInsn 6 t rd rs rt opt (opt == 0) (fun th s => kloadGo t.toNat (th.rg rs) (fld (th.rg rt) 7 0) s) s
def execCryKzero (t : Tid) (rd rs rt : Reg) (opt : BitVec 5) (s : State) : Outcome :=
  keyInsn 7 t rd rs rt opt (rs == 0 && opt == 0) (fun th s => kzeroGo t.toNat (fld (th.rg rt) 7 0) s) s

/-- What a finished command brings: status, AUTH_OK, a failed comparison, the packet's bytes if written, the digest, and
bytes processed. -/
structure CryOut where
  auth : Bool
  authFail : Bool
  bytes : Option Bytes
  digest : Bytes
  count : Nat
deriving DecidableEq, Repr

/-- The round keys of a slot. -/
def CryOp.rk (c : CryOp) : List Bytes :=
  let b := leBytes 32 c.key.toNat
  roundKeys (if c.keyMode.toNat % 2 = 0 then b.take 16 else b)
def CryOp.par (c : CryOp) (i : Nat) : W64 := c.p.getD i 0
/-- The command's work on a packet's bytes (R242, R243). -/
def CryOp.run (c : CryOp) (cur : Bytes) : CryOut :=
  let p3 := c.par 3
  let tlen := fld (c.par 0) 16 12
  let toff := fld (c.par 4) 15 0
  let o := fld p3 47 32
  let text := slice cur o (fld p3 63 48)
  if c.func = 2 then
    let aad := slice cur (fld p3 15 0) (fld p3 31 16)
    let iv := beBytes 8 (c.par 1).toNat ++ beBytes 4 (hi32 (c.par 2)).toNat
    let n := aad.length + text.length
    if bit (c.par 0) 8 then
      let good := (gcmTag c.rk iv aad text).take tlen == slice cur toff tlen
      { auth := good, authFail := !good, bytes := if good then some (splice cur o (gcmCrypt c.rk iv text)) else none
        digest := [], count := n }
    else
      let ct := gcmCrypt c.rk iv text
      { auth := false, authFail := false
        bytes := some (splice (splice cur o ct) toff ((gcmTag c.rk iv aad ct).take tlen)), digest := [], count := n }
  else
    let tag := (cmac c.rk text).take tlen
    if bit (c.par 0) 8 then
      let good := tag == slice cur toff tlen
      { auth := good, authFail := !good, bytes := none, digest := [], count := text.length }
    else { auth := false, authFail := false, bytes := some (splice cur toff tag), digest := [], count := text.length }

/-- A CP3 command ends: packet writes, results, COMPL (R233, R243). -/
def cryEnd (t : Nat) (c : CryOp) (st : Status) (o : CryOut) (s : State) : State :=
  let s := bump64By (tPage t) 0x8420 o.count s
  let s := if o.authFail then cryBump t 0x8428 s else s
  if c.orphan then updThr t (fun th => { th with cry := none }) s
  else
    let s := match c.pkt, o.bytes with
      | some p, some b => updPkt p (fun k => { k with cur := b, changed := true }) s
      | _, _ => s
    let s := updThr t (fun th =>
      { th with cry := none, cryDone := true, cryAuth := o.auth, cryStatus := BitVec.ofNat 4 st.code
                res3 := if o.digest.isEmpty then th.res3
                  else (rangeFrom 0 4).foldl (fun r i => sset r i (w64 (beNat (slice o.digest (8 * i) 8)))) th.res3 }) s
    setEvent t 4 s
def cryNothing : CryOut := { auth := false, authFail := false, bytes := none, digest := [], count := 0 }
/-- The packet's bytes cannot be read: reported on the PBUF page, at the head cell where the failing read is the event's (R333). -/
def pktUe (k : Packet) (s : State) : State :=
  if s.cellsBad k.cells then reportCells k.cells s else cellUe false (k.cells.headD 0 * 32) s

/-- The CP3 command of a thread is carried out (R229, R243); `err`: its data meet an uncorrectable error. -/
def execAsyncCompletion (t : Tid) (err : Bool) (s : State) : Outcome :=
  let n := t.toNat
  .next (match s.live, (s.thr n).cry with
  | true, some c =>
    if c.fromPkt then
      (match c.pkt.bind s.pkt with
       | none => cryEnd n c .ecc cryNothing s
       | some k =>
         if err || s.cellsBad k.cells then cryEnd n c .ecc cryNothing (pktUe k s)
         else if c.func = 4 then
           let b := slice k.cur c.src.toNat c.len.toNat
           cryEnd n c .ok { cryNothing with digest := sha256 b, count := b.length } s
         else cryEnd n c .ok (c.run k.cur) s)
    else
      let a := c.src.toNat
      let b := s.bytes a c.len.toNat
      if err || s.poisoned a b.length then cryEnd n c .ecc cryNothing (loadUe (tPage n) a (hbmPortOf n) s)
      else cryEnd n c .ok { cryNothing with digest := sha256 b, count := b.length } s
  | _, _ => s)

/-! ### CP5 TIM (R246) -/

/-- A time in the layout of CP5. -/
def timeWord (sec ns : Nat) : W64 := w64 (sec % 0x100000000 * 0x100000000 + ns)
def execTimNow (t : Tid) (rd rs rt : Reg) (opt : BitVec 5) (s : State) : Outcome :=
  cpInsn 5 1 t rd rs rt opt (rs == 0 && rt == 0 && opt == 0) (fun _ s =>
    retireReg t.toNat rd (timeWord s.time.sec.toNat s.time.ns.toNat)
      (updThr t.toNat (fun th => { th with res5 := w64 s.time.sec.toNat }) s)) s
/-- The latest instant not after now with the given low 32 bits of nanoseconds. -/
def arrivalNs (now : Nat) (ts : Word) : Nat := now - (w32 now - ts).toNat
def execTimArr (t : Tid) (rd rs rt : Reg) (opt : BitVec 5) (s : State) : Outcome :=
  cpInsn 5 2 t rd rs rt opt (rs == 0 && rt == 0 && opt == 0 && !isTel t.toNat) (fun _ s =>
    match s.held t.toNat with
    | none => unitErr 5 2
    | some (_, k) =>
      let a := arrivalNs s.totalNs k.ts
      retireReg t.toNat rd (timeWord (a / 1000000000) (a % 1000000000))
        (updThr t.toNat (fun th => { th with res5 := w64 (a / 1000000000) }) s)) s
/-- A CP5 command on the held packet. -/
def timInsn (func : Nat) (t : Tid) (rd rs rt : Reg) (opt : BitVec 5) (firms : Bool)
    (f : Thread → State → Packet → Status × Packet) (s : State) : Outcome :=
  cpInsn 5 func t rd rs rt opt (rt == 0 && opt == 0 && !isTel t.toNat) (fun th s =>
    if th.pktBusy || (firms && s.schussHeld t.toNat) then .stall
    else match s.held t.toNat with
    | none => retireSt t.toNat rd .empty s
    | some (p, k) => match f th s k with
      | (.ok, k') => retireSt t.toNat rd .ok (setPkt p k' s)
      | (st, _) => retireSt t.toNat rd st s) s
/-- The time lies more than 2 s after now, its seconds the nearest to now with those low 32 bits. -/
def tooLate (s : State) (w : W64) : Bool :=
  let d := (hi32 w - w32 s.time.sec.toNat).toNat
  decide (d < 0x80000000) && decide (s.time.ns.toNat + 2000000000 < d * 1000000000 + (lo32 w).toNat)
def execTimSched (t : Tid) (rd rs rt : Reg) (opt : BitVec 5) (s : State) : Outcome :=
  timInsn 3 t rd rs rt opt true (fun th s k =>
    let w := th.rg rs
    (if !timeWordOk w || tooLate s w then .badArg else .ok, { k with sched := some w })) s
def execTimTxts (t : Tid) (rd rs rt : Reg) (opt : BitVec 5) (s : State) : Outcome :=
  timInsn 4 t rd rs rt opt false (fun th _ k => (.ok, { k with txts := some (BitVec.ofNat 16 (th.rg rs).toNat) })) s
def execTimCorr (t : Tid) (rd rs rt : Reg) (opt : BitVec 5) (s : State) : Outcome :=
  timInsn 5 t rd rs rt opt false (fun th _ k =>
    let o := (th.rg rs).toNat
    (if k.cur.length < o + 12 then .badArg else .ok, { k with corr := some o })) s

/-! ### GET (R228) -/

/-- A result register of a unit, none where the unit has no such register. -/
def Thread.res (th : Thread) (unit i : Nat) : Option W64 :=
  match unit with
  | 2 => some (sget 0 th.res2 i)
  | 3 => some (sget 0 th.res3 i)
  | 4 => if i = 0 then some th.res4 else none
  | 5 => if i = 0 then some th.res5 else none
  | _ => none
def execCoprocGet (t : Tid) (unit : BitVec 3) (rd rs rt : Reg) (opt : BitVec 5) (s : State) : Outcome :=
  cpInsn unit.toNat 0 t rd rs rt opt
    (rs == 0 && rt == 0 && decide (opt.toNat < 4) && ((s.thr t.toNat).res unit.toNat (opt.toNat % 4)).isSome)
    (fun th s => retireReg t.toNat rd ((th.res unit.toNat (opt.toNat % 4)).getD 0) s) s

/-! ### CPSAVE and CPRESTORE (R222, R235) -/

/-- Size of a unit's save area. -/
def saveSize (unit : Nat) : Nat := if unit = 0 ∨ unit = 3 then 128 else 64
def saveHead (unit : Nat) : Nat := unit + 0x100 + saveSize unit * 0x10000
/-- The state of a unit, after the header. -/
def Thread.saveBody (th : Thread) (unit : Nat) : Bytes :=
  match unit with
  | 0 => th.bufBytes
  | 1 => leBytes 4 th.a0.value.toNat ++ leBytes 4 th.a0.alg.toNat ++ leBytes 4 th.a1.value.toNat ++
      leBytes 4 th.a1.alg.toNat ++ leBytes 8 th.cs.toNat
  | 2 => wordsBytes th.flowKey ++ leBytes 4 th.profile.toNat ++ (rangeFrom 0 4).flatMap (fun i => leBytes 8 (sget 0 th.res2 i).toNat)
  | 3 => (rangeFrom 0 5).flatMap (fun i => leBytes 8 (th.par i).toNat) ++
      (rangeFrom 0 4).flatMap (fun i => leBytes 8 (sget 0 th.res3 i).toNat)
  | 4 => leBytes 8 th.oq.toNat ++ leBytes 8 th.res4.toNat
  | _ => leBytes 8 th.res5.toNat
def Thread.saveArea (th : Thread) (unit : Nat) : Bytes :=
  slice (leBytes 8 (saveHead unit) ++ th.saveBody unit) 0 (saveSize unit)
/-- An accumulator restored: the parameters of its algorithm as they stand now. -/
def State.restoreAcc (s : State) (t : Nat) (b : Bytes) : CrcAcc :=
  let alg := leNat (Machine.slice b 4 1) % 16
  { (s.crcInit t alg).getD CrcAcc.zero with value := w32 (leNat (Machine.slice b 0 4)), alg := BitVec.ofNat 4 alg }
/-- A thread with a unit's state from a save area. -/
def restoreUnit (s : State) (t unit : Nat) (b : Bytes) (th : Thread) : Thread :=
  let d (o : Nat) : W64 := w64 (leNat (slice b o 8))
  let ds (o n : Nat) : SMap W64 := (rangeFrom 0 n).map (fun i => (i, d (o + 8 * i)))
  match unit with
  | 0 => { th with buf := ds 8 8 }
  | 1 => { th with a0 := s.restoreAcc t (slice b 8 8), a1 := s.restoreAcc t (slice b 16 8), cs := lo32 (d 24) }
  | 2 => { th with key := (rangeFrom 0 5).map (fun i => (i, w32 (leNat (slice b (8 + 4 * i) 4))))
                   profile := BitVec.ofNat 6 (leNat (slice b 28 4)), res2 := ds 32 4 }
  | 3 => { th with p3 := ds 8 5, res3 := ds 48 4 }
  | 4 => { th with oq := d 8, res4 := d 16 }
  | _ => { th with res5 := d 8 }

/-- Where a save area lies: a local scratchpad or the cluster scratchpad, or the cause of its fault. -/
def saveSpace (s : State) (t unit : Nat) (k : AKind) (a : W64) : Nat ⊕ Nat :=
  match locate s t k a 64, locate s t k (a + w64 (saveSize unit - 64)) 64 with
  | .bad c, _ => .inr c
  | _, .bad c => .inr c
  | .mem m _ _ _, _ => if spaceBase 1 ≤ m ∧ m < spaceBase 3 then .inl m else .inr 0x06
  | _, _ => .inr 0x06
/-- The frame of CPSAVE and CPRESTORE. -/
def saveInsn (fn : Nat) (t : Tid) (rd rs rt : Reg) (k : AKind) (f : Nat → Nat → W64 → Thread → State → Body)
    (s : State) : Outcome :=
  .next (runInsn (fmtA 1 rd rs rt fn) t.toNat (fun th s =>
    let u := rt.toNat
    if 8 ≤ u ∨ rd ≠ 0 then .fault 0x01 0
    else if !unitPresent s.part t.toNat u then .fault 0x10 0
    else if !th.unitOn u then .fault 0x11 0
    else if u = 3 ∧ th.cry.isSome then .stall
    else
      let a := th.rg rs
      match saveSpace s t.toNat u k a with
      | .inr c => .fault c a.toNat
      | .inl m => f u m a th s) s)
def execCpsave (t : Tid) (rd rs rt : Reg) (s : State) : Outcome :=
  saveInsn 0x18 t rd rs rt .store (fun u m a th s =>
    if s.schussHeld t.toNat && decide (spaceBase 2 ≤ m) then .stall
    else if decide (spaceBase 2 ≤ m) && decide (0xF0000 ≤ m % 0x100000) && s.wipeBlocked (tCluster t.toNat) then
      .access false true a.toNat (saveSize u) (bump (pCLU (tCluster t.toNat)) 0x8524 s)
    else .access false true a.toNat (saveSize u) (putBytes m (th.saveArea u) s)) s
def execCprestore (t : Tid) (rd rs rt : Reg) (s : State) : Outcome :=
  saveInsn 0x19 t rd rs rt .load (fun u m a _ s =>
    let blocked := decide (spaceBase 2 ≤ m) && decide (0xF0000 ≤ m % 0x100000) && s.wipeBlocked (tCluster t.toNat)
    let b := if blocked then leBytes (saveSize u) 0 else s.bytes m (saveSize u)
    let s := if blocked then bump (pCLU (tCluster t.toNat)) 0x8524 s else s
    if !blocked && s.poisoned m (saveSize u) then .faultIn (loadUe (tPage t.toNat) m 0 s) 0x0E a.toNat
    else if leNat (slice b 0 8) ≠ saveHead u then unitErr u 1
    else .access true false a.toNat (saveSize u) (updThr t.toNat (restoreUnit s t.toNat u b) s)) s

end Sys2Proof.Machine
end

