-- ==== Sys2Proof/Machine/Recover.lean ====
section
/-! DEFINITION. What is done to threads from outside them: RESUME, RESTART, RESET, the fault queues' POP, timers, the
thread-context and instruction windows, and the PST, CLU and TEL pages (R157, R170, R171, R174-R177, R182-R185, R192, R249, R536). -/
namespace Sys2Proof.Machine
open Sys2Proof

/-! ### RESUME, RESTART, RESET (R175) -/

/-- An abandoned item counts in PST_FAULT_DROP. -/
def dropItem (t : Nat) (s : State) : State :=
  if (s.thr t).item.isSome then bump (pPST (tPiste t)) 0x800C (abandonItem t s) else s
/-- The thread's semaphores are ORPHANED (R364). -/
def orphanThread (t : Nat) (s : State) : State :=
  let h := holderOf (reqOfThread t)
  orphanHolder h.1 h.2 (disarm t s)
/-- A CP3 command under way goes on without its thread (R233). -/
def Thread.orphanCry (th : Thread) : Option CryOp := th.cry.map (fun c => { c with orphan := true })
/-- RESTART: g1-g31 and the control registers but PL, the regions and START_PC reset, and the thread runs at START_PC. -/
def restartThr (t : Nat) (s : State) : State :=
  let s := orphanThread t (dropItem t s)
  updThr t (fun th =>
    { th with st := .running, prev := .stopped, stopPending := false, g := [], pc := th.startPc, epc := 0, cause := 0
              evmask := 0, evlatch := 0, cpen := 0, timer := 0, replay := false, ctxLost := false, stage := []
              stageLen := 0, park := none, stepping := false, skipBp := false, late := none, cry := th.orphanCry }) s
/-- What RESET discards of a parked operation: an acquire's grant, a lookup that has begun (R233, R368). -/
def discardPark (t : Nat) (s : State) : State :=
  match (s.thr t).park with
  | some (.value _ v ea, _) | some (.finished _ v 1 ea _, _) =>
    if 0x200000000 ≤ ea ∧ ea < 0x200010000 ∧ ea % 16 < 8 ∧ v.toNat % 16 = 0 then ungrant t ((ea - 0x200000000) / 16) s else s
  | some (op, _) => if op.isLookup then bump (pCLU (tCluster t)) 0x8400 s else s
  | none => s
/-- RESET: the thread's context as after reset, everything it held given up. -/
def resetThr (t : Nat) (s : State) : State :=
  let s := dynReturn t (orphanThread t (dropItem t (discardPark t s)))
  updThr t (fun th =>
    { Thread.reset t with inflight := th.inflight, buf := th.buf, a0 := th.a0, a1 := th.a1, cs := th.cs, key := th.key
                          profile := th.profile, res2 := th.res2, p3 := th.p3, res3 := th.res3, cryDone := th.cryDone
                          cryAuth := th.cryAuth, cryStatus := th.cryStatus, cry := th.orphanCry, oq := th.oq
                          res4 := th.res4, res5 := th.res5 }) s

/-- A thread command's frame: the thread of the argument, a lost piste, and the issuer's right (R175, R177). -/
def tcmdBody (p : Nat) (req : Requester) (judge : Thread → Option Status) (act : Nat → State → State) (s : State) :
    Option Status × State :=
  let t := s.rfld (pPST p) 0x8100 10 0
  let th := s.thr t
  let tel := match req with
    | .tel _ | .loader => true
    | _ => false
  let own := match req with
    | .core u => isSup u.toNat
    | _ => true
  if tPiste t ≠ p then cmdFail .absent s
  else if s.lost p then cmdState req (pPST p) 0x8104 false s
  else if !own || (isSup t && !tel) then cmdFail .notOwner s
  else match judge th with
  | some st => cmdFail st s
  | none => (some .ok, act t s)

def resumeBody (p : Nat) (req : Requester) : State → Option Status × State :=
  tcmdBody p req (fun th => if th.st = .faulted then none else some .badArg)
    (fun t s => updThr t (fun th => { th with st := .running }) s)
def restartBody (p : Nat) (req : Requester) : State → Option Status × State :=
  tcmdBody p req (fun th => if th.st = .faulted ∨ th.st = .stopped then none else some .badArg) restartThr
def resetBody (p : Nat) (req : Requester) : State → Option Status × State :=
  tcmdBody p req (fun th => if th.st = .offline then some .busy else none) resetThr
def tcmd (p : Nat) (req : Requester) (v : Word) : State → WRes :=
  command (pPST p) 0x8108 (fun s => match fld v 3 0 with
    | 1 => resumeBody p req s
    | 2 => restartBody p req s
    | 3 => resetBody p req s
    | _ => cmdFail .badArg s)
def execThreadResume (req : Requester) (piste : BitVec 2) (s : State) : Outcome :=
  .next (cmdRow req (pPST piste.toNat) 0x8104 0x8108 (resumeBody piste.toNat req) s)
def execThreadRestart (req : Requester) (piste : BitVec 2) (s : State) : Outcome :=
  .next (cmdRow req (pPST piste.toNat) 0x8104 0x8108 (restartBody piste.toNat req) s)
def execThreadReset (req : Requester) (piste : BitVec 2) (s : State) : Outcome :=
  .next (cmdRow req (pPST piste.toNat) 0x8104 0x8108 (resetBody piste.toNat req) s)

/-! ### Fault queues (R174, R176) -/

def popRecs (q : RecQueue α) : RecQueue α := { q with recs := q.recs.drop 1 }
def pstFaultPop (p : Nat) : State → WRes :=
  popWrite (fun s => (s.piste p).faults.recs.isEmpty) (updPiste p (fun q => { q with faults := popRecs q.faults }))
def telFaultPop : State → WRes :=
  popWrite (fun s => s.telFaults.recs.isEmpty) (fun s => { s with telFaults := popRecs s.telFaults })
def execPstFaultPop (req : Requester) (piste : BitVec 2) (s : State) : Outcome :=
  .next (regRow req (pPST piste.toNat) 0x9020 (pstFaultPop piste.toNat) s)
def execTelFaultPop (req : Requester) (s : State) : Outcome := .next (regRow req pTEL 0x9020 telFaultPop s)
/-- A dword of the head record of a fault queue. -/
def faultHead (q : RecQueue FaultRec) (o : Nat) : Word :=
  match q.recs with
  | r :: _ => w32 (leNat (slice r.bytes o 4))
  | [] => 0

/-! ### Timers (R192) -/

/-- TIMER makes its step to zero. -/
def timerExpire (t : Nat) (s : State) : State := setEvent t 2 (updThr t (fun th => { th with timer := 0 }) s)
def execThreadTimerExpiry (t : Tid) (s : State) : Outcome :=
  .next (if s.live && (s.thr t.toNat).timer != 0 then timerExpire t.toNat s else s)

/-! ### The thread-context window (R184) -/

/-- The registers of the window, as 64-bit values at their low offsets. -/
def ctxValue (s : State) (t off : Nat) : W64 :=
  let th := s.thr t
  if off < 0xC100 then th.rg (BitVec.ofNat 5 ((off - 0xC000) / 8))
  else if off = 0xC100 then th.pc.setWidth 64
  else if off = 0xC108 then th.pl.setWidth 64
  else if off = 0xC10C then (s.status t).setWidth 64
  else if off = 0xC110 then th.epc.setWidth 64
  else if off = 0xC118 then th.cause.setWidth 64
  else if off = 0xC11C then th.evmask.setWidth 64
  else if off = 0xC120 then (s.evpend t).setWidth 64
  else if off = 0xC124 then th.cpen.setWidth 64
  else if off = 0xC128 then th.timer
  else if 0xC130 ≤ off ∧ off < 0xC170 then sget 0 th.region ((off - 0xC130) / 8)
  else th.startPc.setWidth 64
/-- A dword of the window: high halves of the 64-bit registers included. -/
def ctxRead (s : State) (t off : Nat) : Word :=
  if (0xC108 ≤ off ∧ off < 0xC110) ∨ (0xC118 ≤ off ∧ off < 0xC128) then lo32 (ctxValue s t off)
  else if off % 8 = 4 then hi32 (ctxValue s t (off - 4)) else lo32 (ctxValue s t off)
/-- A thread's register written through the window. -/
def ctxSet (part : Part) (t off : Nat) (v : W64) (th : Thread) : Thread :=
  if off < 0xC100 then th.setRg (BitVec.ofNat 5 ((off - 0xC000) / 8)) v
  else if off = 0xC100 then { th with pc := v.setWidth 40 }
  else if off = 0xC108 then { th with pl := v.setWidth 2 }
  else if off = 0xC110 then { th with epc := v.setWidth 40 }
  else if off = 0xC118 then { th with cause := v.setWidth 8 }
  else if off = 0xC11C then csrWrite part t 5 v th
  else if off = 0xC120 then csrWrite part t 6 v th
  else if off = 0xC124 then { th with cpen := lo32 v &&& w32 (cpenMask part t) }
  else if off = 0xC128 then { th with timer := v }
  else if 0xC130 ≤ off ∧ off < 0xC170 then csrWrite part t (0x10 + (off - 0xC130) / 8) v th
  else { th with startPc := v.setWidth 40 }
/-- A write of the window: the thread must be STOPPED or FAULTED; PL2 is held by Telemark threads only (R193). -/
def ctxWrite (t off : Nat) (v : W64) (s : State) : WRes :=
  let st := (s.thr t).st
  if off = 0xC108 ∧ 1 < fld v 1 0 then .refuse .badArg
  else if st ≠ .stopped ∧ st ≠ .faulted then .refuse .busy
  else .ok (updThr t (ctxSet s.part t off v) s)

/-! ### The instruction window (R182, R184) -/

/-- Every branch target buffer of a cluster loses its entries. -/
def clearBtb (cl : Nat) (s : State) : State := { s with btb := sdrop (fun k => decide (k / 4096 = cl)) s.btb }
/-- A dword written to the instruction store. -/
def icsWrite (page cl off : Nat) (v : Word) (s : State) : WRes :=
  if s.locked page then .refuse .locked
  else .ok (clearBtb cl (putNum (icsA cl (s.rfld page 0x300 5 0 * 8192 + (off - 0xE000))) 4 v.toNat s))
def execIcsWindowWrite (req : Requester) (page : Page) (off : Off) (value : Word) (s : State) : Outcome :=
  .next (match pageKind s.part page.toNat with
  | some (.clu p c) =>
    if 0xE000 ≤ off.toNat ∧ off.toNat % 4 = 0 then
      regRow req page.toNat off.toNat (icsWrite page.toNat (p * 8 + c) off.toNat value) s else s
  | _ => s)
/-- A pass of CLU_ICS_CHECK over the whole store. -/
def execIcsCheckPass (page : Page) (s : State) : Outcome :=
  .next (match s.live, pageKind s.part page.toNat with
  | true, some (.clu p c) => setReg page.toNat 0x8200 (crc32c (s.bytes (icsA (p * 8 + c) 0) 0x80000)) s
  | _, _ => s)

/-! ### The pages (R184, R185, R249, R355, R536) -/

def pstWrite (p : Nat) (req : Requester) (off : Nat) (v mask : Word) (s : State) : WRes :=
  if off = 0x8104 then tcmd p req v s
  else if off = 0x9020 then pstFaultPop p s
  else .ok (store (pPST p) off mask v s)
def pstRead (p : Nat) (s : State) (off : Nat) : Option Word :=
  if off = 0x8008 then some (w32 (s.piste p).faults.recs.length)
  else if 0x9000 ≤ off ∧ off < 0x9020 then some (faultHead (s.piste p).faults (off - 0x9000))
  else none

def telWrite (_ : Requester) (off : Nat) (v mask : Word) (s : State) : WRes :=
  if off = 0x9020 then telFaultPop s else .ok (store pTEL off mask v s)
/-- GPIO_IN: what a driven output shows; the level of any other pin comes from outside and is a free value. -/
def gpioIn (s : State) : Word :=
  let dir := s.reg pTEL 0x600
  let out := s.reg pTEL 0x8600
  let driven := dir &&& ~~~(s.reg pTEL 0x604 &&& out)
  ((out &&& driven) ||| (lo32 (Config.value s.free) &&& ~~~driven)) &&& 0xFFFF
def telRead (s : State) (off : Nat) : Option Word :=
  if off = 0x8008 then some (w32 s.telFaults.recs.length)
  else if off = 0x8604 then some (gpioIn s)
  else if off = 0x8520 then some (s.wipeStatus 32)
  else if 0x9000 ≤ off ∧ off < 0x9020 then some (faultHead s.telFaults (off - 0x9000))
  else none

def TState.code : TState → Nat
  | .stopped => 0 | .running => 1 | .parked => 2 | .waiting => 3 | .faulted => 4 | .halted => 5 | .offline => 6
/-- The thread of a CLU page's CLU_TCTX_SEL. -/
def State.tctx (s : State) (page cl : Nat) : Nat := cl * 64 + s.rfld page 0x8100 5 0
/-- A write of CLU_CORE_CTRL (R157). -/
def coreCtrlWrite (page cl k off : Nat) (v mask : Word) (s : State) : WRes :=
  let old := s.reg page off
  let stopped (i : Nat) : Bool := (s.thr (cl * 64 + k * 8 + i)).st == .stopped
  if bit old 8 && fld old 2 0 != fld v 2 0 && !(stopped (fld old 2 0) && stopped (fld v 2 0)) then .refuse .busy
  else .ok (store page off mask v s)
/-- A write of CLU_LS_SLICE (R170). -/
def sliceWrite (page cl off : Nat) (v mask : Word) (s : State) : WRes :=
  if 32 < fld v 4 0 + fld v 13 8 then .refuse .badArg
  else if (s.thr (cl * 64 + (off - 0x200) / 0x20 * 8 + off % 0x20 / 4)).st ≠ .stopped then .refuse .busy
  else .ok (store page off mask v s)

def cluWrite (cl : Nat) (req : Requester) (off : Nat) (v mask : Word) (s : State) : WRes :=
  let page := pCLU cl
  if 0x100 ≤ off ∧ off < 0x200 then coreCtrlWrite page cl ((off - 0x100) / 0x20) off v mask s
  else if 0x200 ≤ off ∧ off < 0x300 then sliceWrite page cl off v mask s
  else if 0x400 ≤ off ∧ off < 0x440 ∧ off % 16 = 4 then storeIf (between 8 32 (fld v 5 0)) page off mask v s
  else if 0x510 ≤ off ∧ off < 0x550 ∧ off % 16 = 8 then
    storeIf (decide (fld v 29 28 < 2) && between 4 24 (fld v 20 16)) page off mask v s
  else if off = 0x600 then dynCfgWrite cl v s
  else if off = 0x8504 then dynCmd cl req v s
  else if 0xC000 ≤ off ∧ off < 0xE000 then ctxWrite (s.tctx page cl) off (v.setWidth 64) s
  else if 0xE000 ≤ off then icsWrite page cl off v s
  else .ok (store page off mask v s)
def cluWrite64 (cl : Nat) (_ : Requester) (off : Nat) (v : W64) (s : State) : WRes :=
  let page := pCLU cl
  if 0xC000 ≤ off then ctxWrite (s.tctx page cl) off v s
  else if 0x510 ≤ off ∧ off < 0x550 then
    let b := v.toNat % 2 ^ 40 / 64 * 64
    if (0x10000000 ≤ b ∧ b < 0x10100000) ∨ (hbmOff s.part b 1).isSome then .ok (setReg64 page off (w64 b) s)
    else .refuse .badArg
  else .ok (setReg64 page off v s)
def cluRead (cl : Nat) (s : State) (off : Nat) : Option Word :=
  let page := pCLU cl
  if 0x8000 ≤ off ∧ off < 0x8080 ∧ off % 16 = 0 then
    let core := cl * 8 + (off - 0x8000) / 16
    some (w32 ((rangeFrom 0 8).foldl (fun w i =>
      let th := s.thr (core * 8 + i)
      w + (th.st.code + b2n th.stopPending * 8) * 16 ^ i) 0))
  else if 0x8000 ≤ off ∧ off < 0x8080 ∧ off % 16 = 8 then some (lo32 (Config.value (s.free + off)))
  else if off = 0x8510 then some (w32 ((rangeFrom 0 (s.dynBlocks cl)).filter (fun b => s.dynOwner cl b == 0)).length)
  else if off = 0x8520 then some (s.wipeStatus cl)
  else if 0xC000 ≤ off ∧ off < 0xE000 then some (ctxRead s (s.tctx page cl) off)
  else if 0xE000 ≤ off then some (w32 (s.num (icsA cl (s.rfld page 0x300 5 0 * 8192 + (off - 0xE000))) 4))
  else none

end Sys2Proof.Machine
end

