-- ==== Sys2Proof/Machine/Signal.lean ====
section
/-! DEFINITION. The process image, the signal engine's stores, the native operators and the frame fields (R281-R291, R295,
R296, R301-R305, R308, R309, R316). -/
namespace Sys2Proof.Machine
open Sys2Proof

/-! ### Records (R281-R284, R316) -/

/-- A signal record in its true form (R281). -/
structure Rec where
  value : W64
  quality : Nat
  flags : Byte
  seq : BitVec 16
  ts : Word
deriving DecidableEq, Repr

def qGOOD := 0
def qUNCERTAIN := 1
def qFORCED := 2
def qSUBSTITUTED := 3
def qSTALE := 4
def qBAD := 5
/-- INT64, FLOAT64 and BITS64 (R281). -/
def vInt := 0
def vFloat := 1
def vBits := 2

/-- The record of 16 stored bytes; a stored quality that no writer gives ranks as BAD (R282). -/
def Rec.ofBits (w : W128) : Rec :=
  { value := w64 w.toNat, quality := min (fld w 71 64) 5, flags := BitVec.ofNat 8 (fld w 79 72)
    seq := BitVec.ofNat 16 (fld w 95 80), ts := w32 (fld w 127 96) }
/-- The 16 bytes of a record, byte 0 in bits [7:0]. -/
def Rec.bits (r : Rec) : W128 :=
  BitVec.ofNat 128 (r.value.toNat + (r.quality % 256) * 2 ^ 64 + r.flags.toNat * 2 ^ 72 + r.seq.toNat * 2 ^ 80 +
    r.ts.toNat * 2 ^ 96)
def Rec.vtype (r : Rec) : Nat := r.flags.toNat % 4
/-- Quality 0 to 3 (R282). -/
def Rec.usable (r : Rec) : Bool := decide (r.quality ≤ 3)
/-- The record with FLAGS bits set. -/
def Rec.setFlag (r : Rec) (i : Nat) (b : Bool) : Rec := { r with flags := setBit r.flags i b }

/-- The 16 stored bytes of a record of the signal memory. -/
def State.sigRaw (s : State) (i : Nat) : W128 := BitVec.ofNat 128 (s.num (signalA i) 16)
/-- ECC or the hidden check fails (R283). -/
def State.sigFails (s : State) (i : Nat) : Bool := s.sige.bad.contains i || s.poisoned (signalA i) 16
/-- The record of a place in the memory as a reader sees it; a partner record's complement is removed (R283, R316). -/
def State.sigRec (s : State) (odd : Bool) (i : Nat) : Rec :=
  let r := Rec.ofBits (if odd then ~~~ s.sigRaw i else s.sigRaw i)
  if s.sigFails i then { r with quality := qBAD } else r
/-- The 16 bytes of a record as a window or a recorder shows them: as stored, a partner record complemented, and with
quality BAD where a check fails (R283, R284). -/
def State.sigShown (s : State) (i : Nat) : W128 := if s.sigFails i then setFld (s.sigRaw i) 71 64 qBAD else s.sigRaw i
/-- A failed check counted and delivered at the reader's engine (R283). -/
def sigCount (p i : Nat) (s : State) : State :=
  if s.sigFails i then bump (pSIGE p) 0x8024 (ueAt (pSIGE p) i s) else s
/-- A record read by an engine. -/
def readSig (p : Nat) (odd : Bool) (i : Nat) (s : State) : Rec × State := (s.sigRec odd i, sigCount p i s)
/-- A record stored with its check; a forced record keeps VALUE and QUALITY (R283, R286). -/
def putSig (i : Nat) (w : W128) (s : State) : State :=
  let w := if (sfind s.sige.forced i).isSome then setFld w 71 0 (fld (s.sigRaw i) 71 0) else w
  let s := putNum (signalA i) 16 w.toNat s
  { s with sige := { s.sige with bad := s.sige.bad.filter (· != i) } }

/-! ### Graph slots (R287, R290, R293, R312, R316) -/

def Graph.reset : Graph :=
  { st := .free, cycle := 0, startSec := 0, startNs := 0, openCycle := false, ran := false, fired := [], coded := []
    sampled := [], overrun := false, swapFor := none, built := [], passed := [], standsFor := none, passCycle := 0
    passCount := 0 }
def NodeState.reset : NodeState :=
  { value := 0, has := false, bits := 0, count := 0, prevIn := false, seq := 0, seqSeen := false, repeats := 0
    frames := 0, taken := none }
def Xchk.reset : Xchk :=
  { tokens := [], seals := [], flip := none, withhold := none, selfFail := false }
def State.graph (s : State) (g : Nat) : Graph := sget .reset s.sige.graphs g
def setGraph (g : Nat) (x : Graph) (s : State) : State := { s with sige := { s.sige with graphs := sset s.sige.graphs g x } }
def updGraph (g : Nat) (f : Graph → Graph) (s : State) : State := setGraph g (f (s.graph g)) s
def nodeKey (p n : Nat) : Nat := p * 16384 + n
def State.nodeSt (s : State) (p n : Nat) : NodeState := sget .reset s.sige.nodes (nodeKey p n)
def setNodeSt (p n : Nat) (x : NodeState) (s : State) : State :=
  { s with sige := { s.sige with nodes := sset s.sige.nodes (nodeKey p n) x } }
def State.xchk (s : State) (k : Nat) : Xchk := sget .reset s.sige.xchk k
def updXchk (k : Nat) (f : Xchk → Xchk) (s : State) : State :=
  { s with sige := { s.sige with xchk := sset s.sige.xchk k (f (s.xchk k)) } }

def gPiste (g : Nat) : Nat := g / 64
def gSlot (g : Nat) : Nat := g % 64
/-- The slot of the even piste of the pair, and its partner on the odd piste. -/
def gEven (g : Nat) : Nat := g / 128 * 128 + g % 64
def gOdd (g : Nat) : Nat := gEven g + 64
def State.gctl (s : State) (g : Nat) : Word := s.reg (pSIGE (gPiste g)) (0x1000 + gSlot g * 16)
def State.gsize (s : State) (g : Nat) : Word := s.reg (pSIGE (gPiste g)) (0x1004 + gSlot g * 16)
def State.gtime (s : State) (g : Nat) : Word := s.reg (pSIGE (gPiste g)) (0x1008 + gSlot g * 16)
def State.gsafe (s : State) (g : Nat) : Word := s.reg (pSIGE (gPiste g)) (0x100C + gSlot g * 16)
def State.gTimer (s : State) (g : Nat) : Nat := fld (s.gctl g) 3 1
def State.gPrio (s : State) (g : Nat) : Nat := fld (s.gctl g) 6 4
def State.gBase (s : State) (g : Nat) : Nat := fld (s.gctl g) 29 16
def State.gNodes (s : State) (g : Nat) : List Nat := rangeFrom (s.gBase g) (fld (s.gsize g) 14 0)
/-- The slot holds a SAFETY graph or the partner placement of one (R287). -/
def State.gSafe (s : State) (g : Nat) : Bool := (s.graph (gEven g)).st != .free && bit (s.gctl (gEven g)) 0
/-- The placement reads and writes partner records (R316). -/
def State.gIsOdd (s : State) (g : Nat) : Bool := s.gSafe g && gPiste g % 2 == 1
/-- Number under which the graph owns its signals: its even slot's for a SAFETY graph. -/
def State.gKey (s : State) (g : Nat) : Nat := if s.gSafe g then gEven g else g
/-- Both placements of a SAFETY graph, or the one of a NORMAL graph. -/
def State.gPlaces (s : State) (g : Nat) : List Nat := if s.gSafe g then [gEven g, gOdd g] else [g]
/-- PARTNER_OFF of a signal that the placement uses: its owner's, where that is a SAFETY graph, else the placement's own
(R296, R316). -/
def State.partnerOff (s : State) (g i : Nat) : Nat := match sget none s.sige.owner i with
  | some (o, _) => if s.gSafe o.toNat then fld (s.gsafe o.toNat) 18 0 else fld (s.gsafe g) 18 0
  | none => fld (s.gsafe g) 18 0
/-- The record that the placement reads and writes for a signal (R316). -/
def State.gRec (s : State) (g i : Nat) : Nat := if s.gIsOdd g then i + s.partnerOff g i else i
/-- Cycle count (R293). -/
def State.gCount (s : State) (g : Nat) : Word := s.reg (pSIGE (gPiste g)) (0x8080 + 4 * s.gTimer g)
/-- PERIOD of the graph's timer in us (R293). -/
def State.gPeriod (s : State) (g : Nat) : Nat := s.rfld (pSIGE (gPiste g)) (0x100 + 8 * s.gTimer g) 19 0
/-- The non-FREE slot of an engine whose node range holds a node. -/
def State.graphOf (s : State) (p n : Nat) : Option Nat :=
  (rangeFrom (p * 64) 64).find? (fun g => (s.graph g).st != .free && decide (s.gBase g ≤ n) &&
    decide (n < s.gBase g + fld (s.gsize g) 14 0))

/-! ### Node, port and map entries (R289-R291) -/

def State.nodeW (s : State) (p n k : Nat) : Word := w32 (s.num (sigeStoreA 0 p (n * 64 + 4 * k)) 4)
def State.nodeOp (s : State) (p n : Nat) : Nat := fld (s.nodeW p n 0) 3 0
def State.nodeIn (s : State) (p n : Nat) : Nat := fld (s.nodeW p n 0) 8 4
def State.nodeOut (s : State) (p n : Nat) : Nat := fld (s.nodeW p n 0) 12 9
def State.portBase (s : State) (p n : Nat) : Nat := fld (s.nodeW p n 0) 31 16
def State.mapBase (s : State) (p n : Nat) : Nat := fld (s.nodeW p n 1) 15 0
def State.mapCount (s : State) (p n : Nat) : Nat := fld (s.nodeW p n 1) 24 16
/-- Parameter Pj. -/
def State.nodeP (s : State) (p n j : Nat) : W64 := w64 (s.num (sigeStoreA 0 p (n * 64 + 8 + 8 * j)) 8)
def State.portSig (s : State) (p e : Nat) : Nat := s.num (sigeStoreA 1 p (e * 16)) 4 % 0x80000
def State.portOut (s : State) (p e : Nat) : Bool := s.num (sigeStoreA 1 p (e * 16)) 4 / 0x1000000 % 2 == 1
def State.portSubst (s : State) (p e : Nat) : W64 := w64 (s.num (sigeStoreA 1 p (e * 16 + 8)) 8)
def State.mapEntry (s : State) (p e : Nat) : W64 := w64 (s.num (sigeStoreA 2 p (e * 8)) 8)
def State.maps (s : State) (p n : Nat) : List W64 := (rangeFrom (s.mapBase p n) (s.mapCount p n)).map (s.mapEntry p)
def mapSig (e : W64) : Nat := fld e 50 32
/-- Signals that a node reads: its input ports', or a PACK node's map's. -/
def State.nodeIns (s : State) (p n : Nat) : List Nat :=
  if s.nodeOp p n = 1 then (s.maps p n).map mapSig
  else (rangeFrom (s.portBase p n) (s.nodeIn p n)).map (s.portSig p)
/-- Port entries of a node's outputs. -/
def State.outPorts (s : State) (p n : Nat) : List Nat := rangeFrom (s.portBase p n + s.nodeIn p n) (s.nodeOut p n)
/-- Signals that a node writes, with their entries in the owner table: an UNPACK map's, or its output ports'. -/
def State.nodeOuts (s : State) (p n : Nat) : List (Nat × Nat) :=
  (if s.nodeOp p n = 0 then (rangeFrom (s.mapBase p n) (s.mapCount p n)).map (fun e => (e, mapSig (s.mapEntry p e))) else []) ++
    (s.outPorts p n).map (fun e => (e, s.portSig p e))

/-! ### Tokens (R295, R296) -/

/-- The engine's epoch of a record: 256 plus the cycle count modulo 256, 0 before the first token. -/
def epochOf (cycle : Word) : Nat := 256 + cycle.toNat % 256
def State.hasToken (s : State) (g i : Nat) : Bool := sget 0 s.sige.epoch (s.gRec g i) == epochOf (s.graph g).cycle
/-- The signal is owned by a node of the graph. -/
def State.ownedBy (s : State) (key i : Nat) : Bool := match sget none s.sige.owner i with
  | some (o, _) => o.toNat == key
  | none => false
/-- A sampled input: no owner, or another graph's (R296). -/
def State.isSampled (s : State) (g i : Nat) : Bool := !s.ownedBy (s.gKey g) i
/-- Every input is present. -/
def State.ready (s : State) (g n : Nat) : Bool := (s.nodeIns (gPiste g) n).all (fun i => s.isSampled g i || s.hasToken g i)
/-- A token posted without a write. -/
def postToken (g i : Nat) (cycle : Word) (s : State) : State :=
  { s with sige := { s.sige with epoch := sset s.sige.epoch (s.gRec g i) (epochOf cycle) } }
/-- A record written by its owner: SAFETY set, complemented on the partner piste, its token posted (R295, R316). -/
def writeSig (g i : Nat) (cycle : Word) (r : Rec) (s : State) : W128 × State :=
  let r := if s.gSafe g then r.setFlag 6 true else r
  let w := if s.gIsOdd g then ~~~ r.bits else r.bits
  (w, postToken g i cycle (putSig (s.gRec g i) w s))
/-- An input as a firing uses it: the sample of the cycle start, the record with its token, or STALE (R296, R298); in a
graph whose substitute frames are built, the record as it stands (R321). -/
def inputRec (g i : Nat) (s : State) : Rec × State :=
  let x := s.graph g
  if x.st = .subst then readSig (gPiste g) (s.gIsOdd g) (s.gRec g i) s
  else if s.isSampled g i then
    match sfind x.sampled i with
    | some w => (Rec.ofBits w, s)
    | none => readSig (gPiste g) (s.gIsOdd g) (s.gRec g i) s
  else
    let (r, s') := readSig (gPiste g) (s.gIsOdd g) (s.gRec g i) s
    (if s.hasToken g i then r else { r with quality := qSTALE }, s')
/-- The inputs of a firing, in port order. -/
def inputRecs (g : Nat) : List Nat → State → List Rec × State
  | [], s => ([], s)
  | i :: r, s =>
    let (a, s) := inputRec g i s
    let (rest, s) := inputRecs g r s
    (a :: rest, s)

/-! ### Operators (R301-R303) -/

/-- A numeric input as FLOAT64; none for BITS64 (R301). -/
def Rec.num (r : Rec) : Option W64 :=
  if r.vtype = vInt then some (fOfI64 r.value) else if r.vtype = vFloat then some r.value else none
/-- Greatest TS_OFF of the inputs used (R281). -/
def tsMax (rs : List Rec) : Word := w32 (rs.foldl (fun a r => max a r.ts.toNat) 0)
/-- Worst quality of the inputs used (R301). -/
def worst (rs : List Rec) : Nat := rs.foldl (fun a r => max a r.quality) 0
def mkRec (v : W64) (q vt : Nat) (ts : Word) : Rec := { value := v, quality := q, flags := BitVec.ofNat 8 vt, seq := 0, ts := ts }
/-- A FLOAT64 output; BAD where it is not finite (R301). -/
def floatOut (v : W64) (q : Nat) (ts : Word) : Rec := mkRec v (if fFinite v then q else qBAD) vFloat ts
/-- BAD for operands that the operator cannot use; its value is left open. -/
def badOut (op vt : Nat) (rs : List Rec) : Rec :=
  mkRec (Config.signalValue op ((rs.map Rec.value).headD 0) (((rs.drop 1).map Rec.value).headD 0)) qBAD vt (tsMax rs)
/-- VTYPE of an output that follows an input: code 3 is never written, and the type in its place is left open. -/
def Rec.follow (r : Rec) (op : Nat) : Nat := if r.vtype = 3 then (Config.signalValue (op + 16) r.value 0).toNat % 3 else r.vtype

def opScale (P : Nat → W64) (x : Rec) : List Rec := match x.num with
  | none => [badOut 2 vFloat [x]]
  | some v => [floatOut (fAdd (fMul v (P 0)) (P 1)) x.quality x.ts]

def opLimit (P : Nat → W64) (x : Rec) (st : NodeState) : List Rec × NodeState := match x.num with
  | none => ([badOut 3 vFloat [x], badOut 19 vBits [x]], st)
  | some v =>
    let lo := P 0
    let hi := P 1
    let isLo := fLt v lo
    let isHi := !isLo && fLt hi v
    let y := if isLo then lo else if isHi then hi else v
    let q := if isLo || isHi then max x.quality qUNCERTAIN else x.quality
    let o := floatOut y q x.ts
    let a := if isLo then true else if fLe (fAdd lo (P 2)) v then false else bit st.bits 0
    let b := if fLt hi v then true else if fLe v (fSub hi (P 2)) then false else bit st.bits 1
    let n := b2n a + 2 * b2n b
    ([{ o with flags := setBit (setBit o.flags 2 isLo) 3 isHi }, mkRec (w64 n) x.quality vBits x.ts],
     { st with bits := BitVec.ofNat 2 n })

/-- The three orders and means of VOTE by VTYPE. -/
def voteLt (vt : Nat) (a b : W64) : Bool := if vt = vInt then a.slt b else fLt a b
def voteMax (vt : Nat) (a b : W64) : W64 :=
  if vt = vFloat ∧ (fIsNan a || fIsNan b) then fNan a b else if voteLt vt a b then b else a
def voteMin (vt : Nat) (a b : W64) : W64 :=
  if vt = vFloat ∧ (fIsNan a || fIsNan b) then fNan a b else if voteLt vt a b then a else b
def voteTrip (vt : Nat) (up : Bool) (a b : W64) : W64 :=
  if vt = vBits then (if up then a ||| b else a &&& b) else if up then voteMax vt a b else voteMin vt a b
def voteMedian (vt : Nat) (a b c : W64) : W64 :=
  if vt = vBits then (a &&& b) ||| (a &&& c) ||| (b &&& c)
  else voteMax vt (voteMin vt a b) (voteMin vt (voteMax vt a b) c)
def voteMean (vt : Nat) (a b : W64) : W64 :=
  if vt = vBits then a &&& b
  else if vt = vInt then BitVec.ofInt 64 ((a.toInt + b.toInt) / 2)
  else fDiv (fAdd a b) 0x4000000000000000
def voteDiffer (vt : Nat) (dev a b : W64) : Bool :=
  if vt = vBits then a != b
  else if vt = vInt then decide (dev.toInt < (a.toInt - b.toInt).natAbs)
  else fLt dev (fAbs (fSub a b))

/-- VOTE (R303). -/
def opVote (P : Nat → W64) (ins : List Rec) : List Rec :=
  let mode := fld (P 0) 1 0
  let up := bit (P 0) 2
  let deg := bit (P 0) 3
  let u := ins.filter Rec.usable
  let mask := ((rangeFrom 0 ins.length).zip ins).foldl (fun a e => a + b2n e.2.usable * 2 ^ e.1) 0
  let vt := (u.map Rec.vtype).headD ((ins.headD (mkRec 0 0 0 0)).follow 4)
  let vals := u.map Rec.value
  let a := vals.headD 0
  let b := (vals.drop 1).headD 0
  let c := (vals.drop 2).headD 0
  let n := u.length
  let same := u.all (fun r => r.vtype == vt) && decide (vt ≠ 3)
  let legal := same && ins.length == (if mode = 0 then 2 else 3) && mode != 3 && !(mode == 2 && vt == vBits)
  let full := if mode = 0 then 2 else 3
  if !legal || decide (n < (if mode = 1 then 2 else 1)) then
    [mkRec (P 2) qBAD (if same then vt else (ins.headD (mkRec 0 0 0 0)).follow 4) (tsMax u),
     mkRec (w64 (mask + 32)) qGOOD vBits (tsMax u)]
  else
    let y := if n = 1 then a
      else if n = 3 then voteMedian vt a b c
      else if mode = 0 || (mode == 1 && !deg) then voteTrip vt up a b
      else voteMean vt a b
    let d := decide (n < full)
    let q := if d then max (worst u) qUNCERTAIN else worst u
    let disc := (2 ≤ n && voteDiffer vt (P 1) a b) || (n == 3 && (voteDiffer vt (P 1) a c || voteDiffer vt (P 1) b c))
    let o := if vt = vFloat then floatOut y q (tsMax u) else mkRec y q vt (tsMax u)
    [o, mkRec (w64 (mask + 8 * b2n d + 16 * b2n disc)) qGOOD vBits (tsMax u)]

def opSelect (ins : List Rec) : List Rec :=
  let x := ins.headD (mkRec 0 0 0 0)
  let rest := ins.drop 1
  let v? := if x.vtype = vInt then some x.value.toInt else if x.vtype = vFloat then fToInt? x.value else none
  match v? with
  | some i => match (if 0 ≤ i then rest[i.toNat]? else none) with
    | some c =>
      if c.vtype = vInt ∨ c.vtype = vFloat then [mkRec c.value (max x.quality c.quality) c.vtype (tsMax [x, c])]
      else [badOut 5 (c.follow 5) [x, c]]
    | none => [badOut 5 ((rest.headD x).follow 5) [x]]
  | none => [badOut 5 ((rest.headD x).follow 5) [x]]

def opFilter (P : Nat → W64) (x : Rec) (st : NodeState) : List Rec × NodeState := match x.num with
  | none => ([badOut 6 vFloat [x]], st)
  | some v =>
    let st := if !x.usable then st
      else if st.has then { st with value := fAdd st.value (fMul (P 0) (fSub v st.value)) }
      else { st with has := true, value := v }
    ([floatOut st.value x.quality x.ts], st)

def opRate (P : Nat → W64) (period : Nat) (x : Rec) (st : NodeState) : List Rec × NodeState := match x.num with
  | none => ([badOut 7 vFloat [x], badOut 23 vBits [x]], st)
  | some v =>
    let r := if st.has then fDiv (fSub v st.value) (fDiv (fOfInt period) (fOfInt 1000000)) else 0
    let q := if st.has then max x.quality st.count else max x.quality qUNCERTAIN
    let o := floatOut r q x.ts
    ([o, mkRec (w64 (b2n (fLt (P 0) (fAbs r)))) o.quality vBits x.ts], { st with has := true, value := v, count := x.quality })

def opCompare (P : Nat → W64) (a b : Rec) : List Rec :=
  let q := worst [a, b]
  let ts := tsMax [a, b]
  match a.num, b.num with
  | some x, some y =>
    let n := b2n (fLt x (fSub y (P 0))) + 2 * b2n (fLe (fAbs (fSub x y)) (P 0)) + 4 * b2n (fLt (fAdd y (P 0)) x)
    [mkRec (w64 n) q vBits ts]
  | _, _ =>
    if a.vtype = 3 ∨ b.vtype = 3 then [badOut 8 vBits [a, b]]
    else
      let n := b2n (decide (a.value.toNat < b.value.toNat)) + 2 * b2n (a.value == b.value) +
        4 * b2n (decide (b.value.toNat < a.value.toNat))
      [mkRec (w64 n) q vBits ts]

def opLatch (P : Nat → W64) (a b : Rec) (st : NodeState) : List Rec × NodeState :=
  let v (r : Rec) : Bool := if r.usable then bit r.value 0 else bit (P 0) 1
  let set := v a
  let rst := v b
  let l := if set && rst then !bit (P 0) 0 else if set then true else if rst then false else st.has
  ([mkRec (w64 (b2n l)) (worst [a, b]) vBits (tsMax [a, b])], { st with has := l })

/-- TIMER: cycles of TIME, rounded up; on-delay, off-delay, pulse. -/
def opTimer (P : Nat → W64) (period : Nat) (x : Rec) (st : NodeState) : List Rec × NodeState :=
  let i := bit x.value 0
  let n := ceilDiv (P 1).toNat (max (period * 1000) 1)
  let out (o : Bool) : List Rec := [mkRec (w64 (b2n o)) x.quality vBits x.ts]
  match (P 0).toNat with
  | 2 =>
    let left := if i && !st.prevIn && st.count == 0 then n else st.count
    (out (decide (0 < left)), { st with count := left - 1, prevIn := i })
  | 1 =>
    let c := if i then 0 else st.count + 1
    let o := i || (st.has && decide (c ≤ n))
    (out o, { st with count := c, has := o })
  | _ =>
    let c := if i then st.count + 1 else 0
    (out (decide (n < c)), { st with count := c })

def opSubst (P : Nat → W64) (x : Rec) : List Rec :=
  let vt := x.follow 11
  if fld (P 0) 7 0 ≤ x.quality then [mkRec (P 1) qSUBSTITUTED vt x.ts]
  else if vt = vBits ∨ x.vtype = 3 then [badOut 11 vt [x]]
  else [mkRec x.value x.quality vt x.ts]

/-- The outputs of a native operator and the node's state after them (R302). -/
def operate (op : Nat) (P : Nat → W64) (period : Nat) (ins : List Rec) (st : NodeState) : List Rec × NodeState :=
  let z := mkRec 0 0 0 0
  let x := ins.headD z
  let y := (ins.drop 1).headD z
  match op with
  | 2 => (opScale P x, st)
  | 3 => opLimit P x st
  | 4 => (opVote P ins, st)
  | 5 => (opSelect ins, st)
  | 6 => opFilter P x st
  | 7 => opRate P period x st
  | 8 => (opCompare P x y, st)
  | 9 => opLatch P x y st
  | 10 => opTimer P period x st
  | 11 => (opSubst P x, st)
  | _ => ([], st)

/-! ### Frame fields (R291, R304, R308) -/

/-- Bytes that a field spans. -/
def fieldBytes (e : W64) : Nat := (fld e 13 11 + fld e 19 14 + 8) / 8
/-- The field as a big-endian number of its span, a little-endian field's bytes reversed. -/
def fieldSpan (e : W64) (b : Bytes) : Nat :=
  let raw := slice b (fld e 10 0) (fieldBytes e)
  if bit e 23 then leNat raw else beNat raw
def fieldShift (e : W64) : Nat := 8 * fieldBytes e - fld e 13 11 - (fld e 19 14 + 1)
/-- VTYPE by FMT. -/
def fmtType (f : Nat) : Nat := if f ≤ 1 then vInt else if f ≤ 3 then vFloat else vBits
/-- A field of a frame's data: its value, none where it is BAD (R304). -/
def unpackField (e : W64) (data : Bytes) : Option W64 :=
  let w := fld e 19 14 + 1
  if data.length < fld e 10 0 + fieldBytes e then none
  else
    let v := fieldSpan e data / 2 ^ fieldShift e % 2 ^ w
    match fld e 22 20 with
    | 1 => if bit e 24 ∧ v = 2 ^ (w - 1) then none else some (sext w v)
    | 2 => let x := fOfF32 v; if fFinite x then some x else none
    | 3 => if fFinite (w64 v) then some (w64 v) else none
    | _ => some (w64 v)
/-- The bits that PACK writes for a signal: an integer or bit field takes the value's low bits, a float field its FLOAT64
value, FMT 5 its quality; a format that does not fit the signal's type leaves the value open (R291, R308). -/
def packValue (e : W64) (r : Rec) : Nat := match fld e 22 20 with
  | 5 => r.quality
  | 4 => r.value.toNat
  | 2 => match r.num with
    | some v => f32Of v
    | none => (Config.signalValue 32 r.value e).toNat
  | 3 => match r.num with
    | some v => v.toNat
    | none => (Config.signalValue 33 r.value e).toNat
  | _ => if r.vtype = vFloat then (Config.signalValue 34 r.value e).toNat else r.value.toNat
/-- A field written into a frame. -/
def packField (data : Bytes) (e : W64) (r : Rec) : Bytes :=
  let n := fieldBytes e
  let w := fld e 19 14 + 1
  let sh := fieldShift e
  let old := fieldSpan e data
  let v := old - old / 2 ^ sh % 2 ^ w * 2 ^ sh + packValue e r % 2 ^ w * 2 ^ sh
  splice data (fld e 10 0) (if bit e 23 then leBytes n v else beBytes n v)

/-! ### Seals (R305, R309) -/

def sealPoly (p0 : W64) : Nat := fld p0 1 0
def sealCrcOff (p0 : W64) : Nat := fld p0 13 2
def sealSeqOff (p0 : W64) : Nat := fld p0 25 14
def sealStart (p0 : W64) : Nat := fld p0 37 26
/-- The CRC of a seal over CONN_ID and the data. -/
def State.sealCrc (s : State) (p poly : Nat) (conn : Word) (data : Bytes) : Word :=
  let b := beBytes 4 conn.toNat ++ data
  match poly with
  | 0 => crc32c b
  | 1 => crc32 b
  | j => w32 (crcN 32 (s.reg (pSIGE p) (0x180 + 4 * (j - 2))).toNat 0xFFFFFFFF false false 0xFFFFFFFF b)
/-- The bytes that a seal's CRC covers in a frame's data. -/
def sealData (p0 : W64) (data : Bytes) : Bytes := slice data (sealStart p0) (sealCrcOff p0 - sealStart p0)

end Sys2Proof.Machine
end

