-- ==== Sys2Proof/Machine/Graphs.lean ====
section
/-! DEFINITION. The signal engine at work: cycles, firings, deadlines, frames in and out, code nodes, and the cross-check
units of the pairs (R24-R27, R245, R293-R300, R304-R311, R316-R323, R327, R507). -/
namespace Sys2Proof.Machine
open Sys2Proof

/-! ### Where graphs run (R63, R321, R323) -/

/-- The pair of a placement is whole. -/
def State.pairUp (s : State) (k : Nat) : Bool := s.pisteUp (2 * k) && s.pisteUp (2 * k + 1)
/-- Computing nodes of a NORMAL graph fire in this mode (R63). -/
def State.normalRuns (s : State) : Bool := match s.modeNow with
  | .commission | .operate | .safeOperate | .degraded | .maintenance => true
  | .safeState => bit (s.reg pMODE 0x100) 0
  | _ => false
/-- Frames of substitute values are built in this mode (R321). -/
def substRuns : Mode → Bool
  | .commission | .operate | .safeOperate | .degraded | .safeState | .maintenance => true
  | _ => false
/-- The graph's computing nodes fire: ACTIVE, or RETIRING in its last cycle. -/
def State.gRuns (s : State) (g : Nat) : Bool :=
  let st := (s.graph g).st
  (st == .active || st == .retiring) && s.pisteUp (gPiste g) &&
    (if s.gSafe g then s.pairUp (gPiste g / 2) && (match s.modeNow with
      | .commission | .safeOperate | .degraded => true
      | _ => false) else s.normalRuns)
/-- The graph's PACK and SEAL nodes build substitute frames (R321). -/
def State.gSubst (s : State) (g : Nat) : Bool :=
  (s.graph g).st == .subst && s.pisteUp (gPiste g) && substRuns s.modeNow && !bit (s.gctl g) 7

/-! ### Compare tokens (R318, R479) -/

/-- Output port number of a port entry of a node. -/
def State.outNo (s : State) (p n e : Nat) : Nat := e - s.portBase p n - s.nodeIn p n
/-- The compare token of an OUT port write goes to XCHK, altered or withheld where an injection waits (R318, R479). -/
def sendToken (g n e : Nat) (w : W128) (s : State) : State :=
  let p := gPiste g
  let k := p / 2
  if !s.gSafe g || !s.portOut p e || !s.pairUp k then s
  else
    let key := BitVec.ofNat 8 (s.gKey g)
    let x := s.xchk k
    let c := (s.graph g).cycle
    let odd := s.gIsOdd g
    let hold := odd && match x.withhold with
      | some (f, none) => f == key
      | some (f, some d) => f == key && d == c
      | none => false
    if hold then updXchk k (fun x => { x with withhold := some (key, some c) }) s
    else
      let flip := odd && x.flip == some key
      let t : XToken := { odd := odd, graph := key, port := BitVec.ofNat 4 (s.outNo p n e), index := e, cycle := c
                          record := if flip then w ^^^ 1 else w, forced := flip }
      updXchk k (fun x => { x with tokens := x.tokens ++ [t], flip := if flip then none else x.flip }) s

/-! ### Firing (R299-R302) -/

/-- The records of a firing written to its output ports, STALE and OVERRUN on OUT ports of an overrun (R300). -/
def writeOuts (g n : Nat) (late : Bool) : List (Nat × Rec) → State → State
  | [], s => s
  | (e, r) :: rest, s =>
    let p := gPiste g
    let c := (s.graph g).cycle
    let r := { r with seq := BitVec.ofNat 16 c.toNat }
    let r := if late && s.portOut p e then { r with quality := max r.quality qSTALE }.setFlag 5 true else r
    let (w, s) := writeSig g (s.portSig p e) c r s
    writeOuts g n late rest (sendToken g n e w s)
/-- The node has fired in this cycle. -/
def markFired (g n : Nat) (s : State) : State := updGraph g (fun x => { x with fired := x.fired ++ [n] }) s
/-- A native node fires. -/
def fireNative (g n : Nat) (late : Bool) (s : State) : State :=
  let p := gPiste g
  let (ins, s) := inputRecs g (s.nodeIns p n) s
  let (outs, st) := operate (s.nodeOp p n) (s.nodeP p n) (s.gPeriod g) ins (s.nodeSt p n)
  markFired g n (writeOuts g n late ((s.outPorts p n).zip outs) (setNodeSt p n st s))
/-- An output posted with its value unchanged and quality STALE (R300, R311). -/
def postStale (g n e : Nat) (late : Bool) (s : State) : State :=
  let p := gPiste g
  let (r, s) := readSig p (s.gIsOdd g) (s.gRec g (s.portSig p e)) s
  writeOuts g n late [(e, { mkRec r.value qSTALE r.vtype 0 with quality := qSTALE })] s
/-- OUT signals of an abandoned firing rewritten (R300). -/
def abandonFiring (g n : Nat) (s : State) : State :=
  let p := gPiste g
  markFired g n (((s.outPorts p n).filter (s.portOut p)).foldl (fun s e => postStale g n e true s) s)

/-! ### Code nodes (R310, R311) -/

/-- The item is of this node's firing. -/
def NodeItem.isOf (x : NodeItem) (g n : Nat) : Bool := x.piste.toNat == gPiste g && x.graph.toNat % 64 == gSlot g && x.node.toNat == n
/-- The placement that an item's node belongs to. -/
def NodeItem.place (x : NodeItem) : Nat := x.piste.toNat * 64 + x.graph.toNat % 64
/-- A thread bound to a code node. -/
def State.codeThread (s : State) (g n : Nat) : Option (Nat × NodeItem) :=
  s.threads.findSome? (fun e => match e.2.item with
    | some (.node x) => if x.isOf g n then some (e.1, x) else none
    | _ => none)
def Item.isOfNode (g n : Nat) : Item → Bool
  | .node x => x.isOf g n
  | .pkt _ => false
/-- A node's item that no thread has taken leaves the dispatcher. -/
def dropNodeItem (g n : Nat) (s : State) : State :=
  let cut (m : SMap (List Item)) : SMap (List Item) := m.map (fun e => (e.1, e.2.filter (fun i => !i.isOfNode g n)))
  updPiste (gPiste g) (fun q => { q with lists := cut q.lists, spill := cut q.spill }) s
/-- The binding of a code node ends: STATUS.WORK clears and the SIGNAL event is set (R311). -/
def endBinding (g n : Nat) (s : State) : State :=
  match s.codeThread g n with
  | some (t, _) => setEvent t 6 (updThr t (fun th => { th with item := none }) s)
  | none => dropNodeItem g n s
/-- The outputs not written in the firing are posted STALE. -/
def postUnwritten (g n : Nat) (written : List Nat) (late : Bool) (s : State) : State :=
  let p := gPiste g
  ((s.outPorts p n).filter (fun e => !written.contains (s.outNo p n e))).foldl (fun s e => postStale g n e late s) s
/-- A code node's firing is over. -/
def codeDone (g n : Nat) (s : State) : State := updGraph g (fun x => { x with coded := x.coded.filter (· != n) }) s
/-- A CODE node fires: its item is posted at the graph's PRIO (R310). -/
def postCode (g n : Nat) (s : State) : State :=
  let p := gPiste g
  let (ins, s) := inputRecs g (s.nodeIns p n) s
  let x := s.graph g
  let dl := (x.startNs.toNat + fld (s.gtime g) 19 0 * 1000) % 1000000000
  let it : NodeItem := { graph := BitVec.ofNat 8 (s.gKey g), node := BitVec.ofNat 14 n, piste := BitVec.ofNat 2 p
                         cycle := x.cycle, deadlineNs := w32 dl, nin := BitVec.ofNat 5 (s.nodeIn p n)
                         nout := BitVec.ofNat 4 (s.nodeOut p n), prio := BitVec.ofNat 3 (s.gPrio g)
                         inputs := ins.map Rec.bits, written := [], admitted := 0 }
  admitNode p it (updGraph g (fun x => { x with fired := x.fired ++ [n], coded := x.coded ++ [n] }) s)
/-- A code node's item fails its BCRC at binding (R310). -/
def badNode (it : NodeItem) (s : State) : State :=
  let g := it.place
  let n := it.node.toNat
  let s := bump (pSIGE it.piste.toNat) 0x8028 s
  if (s.graph g).cycle = it.cycle ∧ (s.graph g).coded.contains n then codeDone g n (postUnwritten g n [] false s) else s

/-! ### Built frames (R308, R309, R319) -/

/-- The cells of frames that are not sent return to their pool. -/
def freeBuilt (p : Nat) (f : BuiltFrame) (s : State) : State :=
  match f.cells with
  | c :: _ => (freeChain (8 + p) c none s).2
  | [] => s
/-- A built frame goes to the traffic manager (R26). -/
def sendBuilt (p : Nat) (f : BuiltFrame) (s : State) : State :=
  if f.cells.isEmpty then s
  else
    let s := fillCells f.cells f.bytes s
    let owner := ctlTag (s.cellCtl (f.cells.headD 0))
    tmOffer { pkt := none, cells := f.cells, owner := BitVec.ofNat 17 owner, egress := f.egress, queue := f.queue
              handle := s.queueHandle f.egress.toNat f.queue.toNat
              sched := f.sched, trunc := 0, mirror := none, newFcs := true, txts := none, corr := none
              piste := BitVec.ofNat 2 p, seqGen := none, yellow := false, deep := none, express := false
              inPort := BitVec.ofNat 11 (1348 + p), ts := w32 s.totalNs, desc := [] } s

/-! ### SUBST and HOLD (R320, R321, R323) -/

/-- The placement stops: nothing of its cycle goes on. -/
def stopGraph (g : Nat) (s : State) : State :=
  let x := s.graph g
  let s := x.built.foldl (fun s e => freeBuilt (gPiste g) e.2 s) s
  let s := x.coded.foldl (fun s n => endBinding g n s) s
  updGraph g (fun x => { x with openCycle := false, coded := [], built := [], sampled := [], overrun := false }) s
/-- Every OUT port entry of the graph, with its node. -/
def State.outAll (s : State) (g : Nat) : List (Nat × Nat) :=
  (s.gNodes g).flatMap (fun n => ((s.outPorts (gPiste g) n).filter (s.portOut (gPiste g))).map (fun e => (n, e)))
/-- One record written in both copies of a signal, or in the one of a NORMAL graph, where the graph owns it. -/
def putBoth (g i : Nat) (r : Rec) (s : State) : State :=
  if !s.ownedBy (s.gKey g) i then s
  else
    let r := if s.gSafe g then r.setFlag 6 true else r
    let s1 := putSig i r.bits s
    if s.gSafe g then putSig (i + fld (s.gsafe g) 18 0) (~~~ r.bits) s1 else s1
def setGState (st : GState) (g : Nat) (s : State) : State := updGraph g (fun x => { x with st := st }) s
/-- SUBST: every OUT signal takes its substitute value; a RETIRING graph still retires (R321). -/
def enterSubst (g : Nat) (s : State) : State :=
  let e := if s.gSafe g then gEven g else g
  let places := s.gPlaces g
  let retiring := (s.graph e).st == .retiring
  let s := places.foldl (fun s g => stopGraph g s) s
  let s := (s.outAll e).foldl (fun s o =>
    let i := s.portSig (gPiste e) o.2
    let old := Rec.ofBits (s.sigRaw i)
    putBoth e i { mkRec (s.portSubst (gPiste e) o.2) qSUBSTITUTED old.vtype 0 with seq := BitVec.ofNat 16 (s.gCount e).toNat } s) s
  if retiring then s else places.foldl (fun s g => setGState .subst g s) s
/-- HOLD: every OUT signal keeps its last value that passed the cross-check, HELD (R323). -/
def enterHold (g : Nat) (s : State) : State :=
  let e := gEven g
  let passed := (s.graph e).passed
  let s := (s.gPlaces g).foldl (fun s g => stopGraph g s) s
  let s := (s.outAll e).foldl (fun s o =>
    let i := s.portSig (gPiste e) o.2
    let r := match sfind passed o.2 with
      | some w => Rec.ofBits w
      | none => s.sigRec false i
    putBoth e i (r.setFlag 4 true) s) s
  (s.gPlaces g).foldl (fun s g => setGState .hold g s) s
/-- The HOLD that a standby placement ends; the former slots own nothing and write nothing (R323, R325). -/
def endHold (g : Nat) (s : State) : State :=
  (s.gPlaces g).foldl (fun s g => if (s.graph g).st = .hold then setGState .subst g s else s) s

/-! ### Deadlines (R298, R300, R317) -/

/-- The node's inputs were all present, and it has not completed. -/
def State.lateNode (s : State) (g n : Nat) : Bool :=
  let p := gPiste g
  let x := s.graph g
  match s.nodeOp p n with
  | 0 => (sget [] s.sige.items p).any (fun i => i.node == some n)
  | 12 => (sfind x.built n).isSome
  | 15 => x.coded.contains n
  | _ => !x.fired.contains n && s.ready g n
/-- What the deadline does to one node; `gone`: the next cycle starts at the same instant (R298, R300). -/
def deadlineNode (g : Nat) (late : List Nat) (gone : Bool) (s : State) (n : Nat) : State :=
  let p := gPiste g
  let x := s.graph g
  let tooLong := !late.isEmpty
  match s.nodeOp p n with
  | 0 =>
    let st := s.nodeSt p n
    if st.taken = some x.cycle ∨ late.contains n then s
    else if st.repeats < fld (s.nodeP p n 2) 7 0 then
      markFired g n ((s.maps p n).foldl (fun s e => postToken g (mapSig e) x.cycle s)
        (setNodeSt p n { st with repeats := st.repeats + 1 } s))
    else s
  | 1 => s
  | 12 => s
  | 15 =>
    if x.coded.contains n then
      let written := match s.codeThread g n with
        | some (_, it) => it.written
        | none => []
      codeDone g n (endBinding g n (postUnwritten g n written tooLong s))
    else if x.fired.contains n then s
    else markFired g n (postUnwritten g n [] tooLong s)
  | _ => if x.fired.contains n then s else if late.contains n && gone then abandonFiring g n s else fireNative g n tooLong s
/-- The deadline of the graph's open cycle. -/
def deadlineGo (g : Nat) (gone : Bool) (s : State) : State :=
  let p := gPiste g
  let x := s.graph g
  let late := (s.gNodes g).filter (s.lateNode g)
  let tooLong := !late.isEmpty
  let key := s.gKey g
  let odd := s.gIsOdd g
  let evenOver := odd && (s.graph key).overrun && (s.graph key).cycle == x.cycle
  let s := if tooLong then bump (pSIGE p) (0x9100 + 4 * gSlot g) s else s
  let s := if tooLong && s.gSafe g && !evenOver then post 0x07 (pSIGE p) key x.cycle.toNat s else s
  let s := updGraph g (fun x => { x with openCycle := false, overrun := tooLong }) s
  if s.gRuns g then (s.gNodes g).foldl (deadlineNode g late gone) s else s

/-- A deadline: of a NORMAL graph, or of a SAFETY graph on its even piste. -/
def execDeadline (piste : BitVec 2) (graph : BitVec 8) (s : State) : Outcome :=
  let g := graph.toNat
  .next (if s.live && gPiste g == piste.toNat && (s.graph g).openCycle && !s.gIsOdd g then deadlineGo g false s else s)
/-- The odd placement's deadline, when the even piste has passed its own (R317). -/
def execDeadlineMarker (piste : BitVec 2) (graph : BitVec 8) (s : State) : Outcome :=
  let g := gOdd graph.toNat
  let e := s.graph (gEven g)
  let x := s.graph g
  .next (
    if s.live && gPiste g == piste.toNat && x.openCycle && s.gIsOdd g && (!e.openCycle || e.cycle != x.cycle) then
      deadlineGo g false s
    else s)
/-- The odd placement's deadline without the marker, 1 us after it (R317). -/
def execDeadlineMarkerTimeout (piste : BitVec 2) (graph : BitVec 8) (s : State) : Outcome :=
  let g := gOdd graph.toNat
  .next (if s.live && gPiste g == piste.toNat && (s.graph g).openCycle && s.gIsOdd g then deadlineGo g false s else s)

/-! ### Cycle starts (R293-R297, R313, R321, R327) -/

/-- Samples of a list of signals. -/
def sampleAll (g : Nat) : List Nat → State → SMap W128 × State
  | [], s => ([], s)
  | i :: r, s =>
    let (a, s) := readSig (gPiste g) (s.gIsOdd g) (s.gRec g i) s
    let (m, s) := sampleAll g r s
    (sset m i a.bits, s)
/-- A cycle left open ends before the next starts. -/
def closeCycle (g : Nat) (s : State) : State :=
  let s := if (s.graph g).openCycle then deadlineGo g true s else s
  stopGraph g s
/-- XCHK forgets what an earlier cycle left waiting: seals that never met their partner (R319). -/
def dropOldSeals (key : Nat) (cycle : Word) (s : State) : State :=
  let k := gPiste key / 2
  let old (x : XSeal) : Bool := x.graph.toNat == key && x.cycle != cycle && x.cycle + 1 != cycle
  let s := ((s.xchk k).seals.filter old).foldl (fun s x => match x.frame with
    | some f => freeBuilt (gPiste key) f s
    | none => s) s
  updXchk k (fun x => { x with seals := x.seals.filter (fun x => !old x) }) s
/-- Nodes without a token input fire at the cycle start, PACK apart (R297). -/
def startNode (g : Nat) (s : State) (n : Nat) : State :=
  let p := gPiste g
  match s.nodeOp p n with
  | 0 | 1 | 12 => s
  | 15 => if (s.nodeIns p n).all (s.isSampled g) then postCode g n s else s
  | _ => if (s.nodeIns p n).all (s.isSampled g) then fireNative g n false s else s
/-- Cycle `c` of a graph starts. -/
def startCycle (g : Nat) (c : Word) (s : State) : State :=
  let sub := (s.graph g).st == .subst
  let s := dropOldSeals (s.gKey g) c (closeCycle g s)
  let ins := ((s.gNodes g).flatMap (s.nodeIns (gPiste g))).eraseDups.filter (s.isSampled g)
  let (m, s) := if sub then ([], s) else sampleAll g ins s
  let s := updGraph g (fun x => { x with cycle := c, startSec := s.time.sec, startNs := s.time.ns, openCycle := !sub, ran := true
                                         fired := [], sampled := m, overrun := false }) s
  if sub then s else (s.gNodes g).foldl (startNode g) s

/-- The records that a graph owns are no longer owned (R313). -/
def dropOwners (key : Nat) (s : State) : State :=
  { s with sige := { s.sige with owner := s.sige.owner.filter (fun e => match e.2 with
      | some (o, _) => o.toNat != key
      | none => false) } }
/-- The graph owns its output signals, both records of a SAFETY one (R285, R316). -/
def takeOwners (g : Nat) (s : State) : State :=
  let p := gPiste g
  let off := fld (s.gsafe g) 18 0
  let key := BitVec.ofNat 8 g
  ((s.gNodes g).flatMap (s.nodeOuts p)).foldl (fun s o =>
    let m := sset s.sige.owner o.2 (some (key, o.1))
    { s with sige := { s.sige with owner := if bit (s.gctl g) 0 then sset m (o.2 + off) (some (key, o.1)) else m } }) s
/-- The slots of a graph become FREE with its last cycle closed. -/
def freeGraph (g : Nat) (s : State) : State :=
  let places := s.gPlaces g
  let key := s.gKey g
  let s := places.foldl (fun s g => closeCycle g s) s
  dropOwners key (places.foldl (fun s g => setGraph g .reset s) s)
/-- SAFETY graphs stand at their substitute values in this mode (R322). -/
def State.safetySubst (s : State) : Bool := match s.modeNow with
  | .boot | .configure | .maintenance => true
  | _ => false
/-- A graph of SWAP takes its place at the old slot's cycle start (R313), in SUBST where a mode entered meanwhile put it there
(R322). -/
def swapIn (g old : Nat) (s : State) : State :=
  let safe := s.gSafe g
  let subst := s.safetySubst || (s.graph g).st == .subst
  let s := takeOwners (if safe then gEven g else g) (freeGraph old s)
  let s := (s.gPlaces g).foldl (fun s g => updGraph g (fun x => { x with swapFor := none, st := .active }) s) s
  if safe && subst then enterSubst g s else s
/-- The placement acts for both slots of its graph: a NORMAL graph, the even slot, or the odd one of a lost even piste. -/
def State.leads (s : State) (g : Nat) : Bool := !s.gIsOdd g || !s.pisteUp (gPiste (gEven g))
/-- Boundaries of one slot at a start of timer `n`: an UNLOAD retires, a SWAP takes effect (R313). -/
def boundary (n : Nat) (s : State) (g : Nat) : State :=
  match (s.graph g).swapFor with
  | some old => if s.gTimer old = n ∧ s.leads g then swapIn g old s else s
  | none => if (s.graph g).st = .retiring ∧ s.gTimer g = n ∧ s.leads g then freeGraph g s else s
/-- One slot at a start of its timer. -/
def slotStart (n : Nat) (s : State) (g : Nat) : State :=
  let x := s.graph g
  if x.st = .free ∨ s.gTimer g ≠ n ∨ x.swapFor.isSome then s
  else
    let s := if x.st = .pending ∧ (!s.gSafe g || s.pairUp (gPiste g / 2)) then setGState .active g s else s
    if ((s.graph g).st = .active ∧ s.gRuns g) ∨ s.gSubst g then startCycle g (s.gCount g) s
    else if (s.graph g).openCycle then updGraph g (fun x => { x with openCycle := false }) (stopGraph g s)
    else s

/-- The history recorder's snapshot at a cycle start (R507). -/
def histSnap (p n : Nat) (s : State) : State :=
  let c := s.reg pLOG 0x400
  if !bit c 31 || fld c 29 28 != p || fld c 26 24 != n then s
  else
    let head := leBytes 4 (s.reg (pSIGE p) (0x8080 + 4 * n)).toNat ++ leBytes 4 s.time.sec.toNat ++
      leBytes 4 s.time.ns.toNat ++ leBytes 4 0
    let sel := (rangeFrom 0 (fld c 12 0)).map (fun k => s.rfld pLOG (0x1000 + 4 * k) 18 0)
    let body := sel.flatMap (fun i => leBytes 16 (s.sigShown i).toNat)
    let size := ceilDiv (16 + 16 * sel.length) 256 * 256
    let wr := s.reg pLOG 0x8020
    let a := (s.reg64 pLOG 0x408).toNat + wr.toNat % 2 ^ fld c 20 16 * size
    let s := sel.foldl (fun s i => sigCount p i s) s
    putHbm a (slice (head ++ body) 0 size) (hbmCount 7 (bumpWrap pLOG 0x8020 s))

/-- Boundaries of cycle timer `n` from `a` on and before `b`, in ns of the time base (R293). -/
def State.timerBounds (s : State) (p n : Nat) (a b : Int) : Nat :=
  let c : Int := Int.ofNat (max (s.rfld (pSIGE p) (0x100 + 8 * n) 19 0) 1 * 1000)
  let o : Int := Int.ofNat (s.rfld (pSIGE p) (0x104 + 8 * n) 19 0 * 1000)
  ((b - 1 - o) / c - (a - 1 - o) / c).toNat
/-- Boundaries that steps of the time base have passed over in the timer's cycle, up to the time base `now` (R294). -/
def cycleSkips (p n : Nat) (now : Int) (s : State) : State :=
  match sfind s.sige.marks (p * 8 + n) with
  | some m =>
    { bumpBy (pSIGE p) 0x8030 (s.timerBounds p n m now) s with
      sige := { s.sige with marks := sdrop (· == p * 8 + n) s.sige.marks } }
  | none => s
/-- The time base has been stepped within the timer's cycle: the cycle ends on the time clock (R294). -/
def timerStepped (old new : Int) (s : State) (p n : Nat) : State :=
  if bit (s.reg (pSIGE p) (0x100 + 8 * n)) 31 then
    let s := cycleSkips p n old s
    { s with sige := { s.sige with marks := sset s.sige.marks (p * 8 + n) new } }
  else s

/-- Cycle timer `n` of a signal engine starts a cycle (R293). -/
def timerStart (p n : Nat) (s : State) : State :=
  let s := bumpWrap (pSIGE p) (0x8080 + 4 * n) (cycleSkips p n (Int.ofNat s.totalNs) s)
  let slots := rangeFrom (p * 64) 64
  histSnap p n (slots.foldl (slotStart n) (slots.foldl (boundary n) s))
def execCycleStart (piste : BitVec 2) (timer : BitVec 3) (s : State) : Outcome :=
  let p := piste.toNat
  .next (
    if s.live && s.pisteUp p && Config.hasSige s.part && bit (s.reg (pSIGE p) (0x100 + 8 * timer.toNat)) 31 then
      timerStart p timer.toNat s
    else s)

/-- A node of a running graph fires: a native node whose inputs are present, or a CODE node (R297, R299). -/
def execNodeFire (piste : BitVec 2) (node : BitVec 16) (s : State) : Outcome :=
  let p := piste.toNat
  let n := node.toNat
  .next (match s.graphOf p n with
  | none => s
  | some g =>
    let x := s.graph g
    if !s.live || !s.gRuns g || !x.openCycle || x.fired.contains n || !s.ready g n then s
    else match s.nodeOp p n with
    | 0 | 1 | 12 => s
    | 15 => postCode g n s
    | _ => fireNative g n false s)

/-! ### UNPACK (R304-R307, R317) -/

/-- The UNPACK node that the frame map gives a packet, whatever its graph's state. -/
def State.mapNode (s : State) (p : Nat) (k : Packet) : Option Nat :=
  let e := w32 (s.num (sigeStoreA 4 p (k.flow.toNat % 16384 * 4)) 4)
  if k.noFlow || !bit e 31 || fld e 21 16 != k.flow.toNat / 16384 then none
  else if s.nodeOp p (fld e 13 0) = 0 then some (fld e 13 0) else none
/-- The node's graph takes frames: ACTIVE or HOLD. -/
def State.takesFrames (s : State) (p n : Nat) : Option Nat :=
  match s.graphOf p n with
  | some g => if (s.graph g).st = .active ∨ (s.graph g).st = .hold then some g else none
  | none => none
def State.items (s : State) (p : Nat) : List UnpackItem := sget [] s.sige.items p
def setItems (p : Nat) (l : List UnpackItem) (s : State) : State := { s with sige := { s.sige with items := sset s.sige.items p l } }
/-- An item bound to the engine; a paired UNPACK's goes to the odd piste as well, with its cycle tag (R317). -/
def engineItem (p : Nat) (pkt : PktId) (k : Packet) (s : State) : State :=
  let n := s.mapNode p k
  let g := n.bind (s.takesFrames p)
  let paired := match g with
    | some g => s.gSafe g && p % 2 == 0
    | none => false
  let tag := match g with
    | some g => if s.gSafe g then some (if (s.graph g).openCycle then (s.graph g).cycle else (s.graph g).cycle + 1) else none
    | none => none
  let it : UnpackItem := { pkt := pkt, node := if g.isSome then n else none, tag := tag, partner := false }
  let s := setItems p (s.items p ++ [it]) s
  if paired && s.pisteUp (p + 1) then setItems (p + 1) (s.items (p + 1) ++ [{ it with partner := true }]) s else s
/-- The dispatcher binds one item (R257). -/
def bindGo (p : Nat) (dcrcBad : Bool) (s : State) : State :=
  let s := bindOne badNode p dcrcBad s
  match s.pisteP p (fun k => k.st == .bound && k.holder.isNone) with
  | (i, k) :: _ => if (s.items p).any (fun x => x.pkt == i) then s else engineItem p i k s
  | [] => s
def execBind (piste : BitVec 2) (dcrcBad : Bool) (s : State) : Outcome :=
  .next (if s.live && s.pisteUp piste.toNat then bindGo piste.toNat dcrcBad s else s)

/-- A frame's disposition by SIGE_FWD (R306). -/
def State.sigeDisp (s : State) (p cls : Nat) : W64 :=
  let w := s.reg (pSIGE p) (0x400 + 4 * cls)
  if bit w 31 then w64 (1 + fld w 10 0 * 0x100 + fld w 14 12 * 0x100000) else 0
/-- The engine has done with an item; the frame is committed when both engines have (R306, R317). -/
def itemDone (it : UnpackItem) (drop : Bool) (s : State) : State :=
  if [0, 1, 2, 3].any (fun q => (s.items q).any (fun x => x.pkt == it.pkt)) then s
  else match s.pkt it.pkt with
  | some k => if k.st = .bound then gateCommit it.pkt (if drop then 0 else s.sigeDisp k.tgt.toNat k.cls.toNat) s else s
  | none => s
/-- The seal check of R305: the sequence, none where the frame writes nothing. -/
def checkSeal (p n : Nat) (data : Bytes) (s : State) : Option (BitVec 16) × State :=
  let p0 := s.nodeP p n 0
  let st := s.nodeSt p n
  if !bit p0 0 then
    (some (st.frames + 1), setNodeSt p n { st with frames := st.frames + 1 } s)
  else if data.length < sealCrcOff p0 + 4 || data.length < sealSeqOff p0 + 2 ||
      beNat (slice data (sealCrcOff p0) 4) != (s.sealCrc p (sealPoly p0) (lo32 (s.nodeP p n 1)) (sealData p0 data)).toNat then
    (none, bump (pSIGE p) 0x8018 s)
  else
    let q := BitVec.ofNat 16 (beNat (slice data (sealSeqOff p0) 2))
    let d := (q - st.seq).toNat
    if st.seqSeen && !(decide (1 ≤ d) && decide (d ≤ 32767)) then (none, bump (pSIGE p) 0x8020 s)
    else
      let s := if st.seqSeen && decide (1 < d) then bump (pSIGE p) 0x801C s else s
      (some q, setNodeSt p n { st with seq := q, seqSeen := true } s)
/-- The map's signals written from a frame (R304). -/
def unpackMaps (g : Nat) (tag : Word) (seq : BitVec 16) (ts : Word) (data : Bytes) : List W64 → State → State
  | [], s => s
  | e :: r, s =>
    let i := mapSig e
    let vt := fmtType (fld e 22 20)
    let rec' : Rec := match unpackField e data with
      | some v => mkRec v qGOOD vt ts
      | none => mkRec (s.sigRec (s.gIsOdd g) (s.gRec g i)).value qBAD vt ts
    unpackMaps g tag seq ts data r (writeSig g i tag { rec' with seq := seq } s).2
/-- TS_OFF of a frame: from the start of the cycle of its tag (R281). -/
def State.frameOff (s : State) (g : Nat) (tag : Word) (ts : Word) : Word :=
  let x := s.graph g
  ts - (w32 (x.startSec.toNat * 1000000000 + x.startNs.toNat) + (tag - x.cycle) * w32 (s.gPeriod g * 1000))
/-- The engine takes the frame for its node. -/
def takeFrame (p n g : Nat) (it : UnpackItem) (k : Packet) (s : State) : State :=
  let tag := it.tag.getD (s.graph g).cycle
  let st := s.nodeSt p n
  if st.taken = some tag then bump (pSIGE p) 0x8014 s
  else
    let s := setNodeSt p n { st with taken := some tag, repeats := 0 } s
    let data := k.cur.take (k.cur.length - 4)
    match checkSeal p n data s with
    | (none, s) => s
    | (some q, s) => unpackMaps g tag q (s.frameOff g tag k.ts) data (s.maps p n) s
/-- UNPACK carries out the oldest item of its engine. -/
def unpackGo (p : Nat) (it : UnpackItem) (s : State) : State :=
  match s.pkt it.pkt with
  | none => s
  | some k =>
    if k.st ≠ .bound then s
    else match it.node with
    | none => itemDone it false (bump (pSIGE p) 0x8010 s)
    | some n => match s.takesFrames p n with
      | none => itemDone it false (if it.partner then s else bump (pSIGE p) 0x8010 s)
      | some g =>
        if s.gIsOdd g && !it.partner then itemDone it true (bump (pSIGE p) 0x8034 s)
        else if s.gRuns g then itemDone it false (takeFrame p n g it k s)
        else itemDone it false s
def execUnpack (piste : BitVec 2) (s : State) : Outcome :=
  let p := piste.toNat
  .next (match s.live && s.pisteUp p, s.items p with
  | true, it :: r => unpackGo p it (setItems p r s)
  | _, _ => s)

/-! ### PACK and SEAL (R308, R309, R319, R321) -/

def packLen (p0 : W64) : Nat := fld p0 23 12
/-- The frame's bytes: the template with the map's fields, the FCS left to the MAC. -/
def buildBytes (s : State) (p n : Nat) (ins : List Rec) : Bytes :=
  let p0 := s.nodeP p n 0
  let len := packLen p0
  let base := s.bytes (sigeStoreA 3 p (fld p0 11 0 * 64)) (len - 4)
  ((s.maps p n).zip ins).foldl (fun b e => packField b e.1 e.2) base ++ leBytes 4 0
/-- A PACK node builds its frame (R308). -/
def packGo (g n : Nat) (s : State) : State :=
  let p := gPiste g
  let (ins, s) := inputRecs g (s.nodeIns p n) s
  let p0 := s.nodeP p n 0
  let data := buildBytes s p n ins
  let x := s.graph g
  let s := markFired g n s
  let ns := x.startNs.toNat + (s.nodeP p n 1).toNat % 0x100000000
  let sched := if bit p0 38 then some (timeWord (x.startSec.toNat + ns / 1000000000) (ns % 1000000000)) else none
  let f : BuiltFrame := { bytes := data, cells := [], egress := BitVec.ofNat 11 (fld p0 34 24)
                          queue := BitVec.ofNat 3 (fld p0 37 35), sched := sched, cycle := x.cycle }
  let toSeal (f : BuiltFrame) (s : State) : State :=
    if fld p0 53 40 = 0x3FFF then sendBuilt p f s
    else updGraph g (fun x => { x with built := sset x.built (fld p0 53 40) f }) s
  if s.gIsOdd g then toSeal f s
  else match requestCells (8 + p) (1348 + p) (keyOf (w32 s.totalNs)) (ceilDiv data.length 256) [] s with
  | (none, s) => bump (pSIGE p) 0x802C s
  | (some cells, s) => toSeal { f with cells := cells } s
def execPack (piste : BitVec 2) (node : BitVec 16) (s : State) : Outcome :=
  let p := piste.toNat
  let n := node.toNat
  .next (match s.graphOf p n with
  | none => s
  | some g =>
    let x := s.graph g
    if !s.live || s.nodeOp p n != 1 || !x.ran || x.fired.contains n then s
    else if s.gSubst g || (s.gRuns g && (s.ready g n || !x.openCycle)) then packGo g n s else s)

/-- A SEAL node seals the frame that waits for it (R309); in a computing SAFETY graph the seal goes to XCHK (R319). -/
def sealGo (g n : Nat) (f : BuiltFrame) (s : State) : State :=
  let p := gPiste g
  let p0 := s.nodeP p n 0
  let st := s.nodeSt p n
  let q := st.seq + 1
  let data := splice f.bytes (sealSeqOff p0) (beBytes 2 q.toNat)
  let crc := s.sealCrc p (sealPoly p0) (lo32 (s.nodeP p n 1)) (sealData p0 data)
  let f := { f with bytes := splice data (sealCrcOff p0) (beBytes 4 crc.toNat) }
  let s := updGraph g (fun x => { x with built := sdrop (· == n) x.built }) (setNodeSt p n { st with seq := q } s)
  if s.gSafe g && s.gRuns g then
    let x : XSeal := { odd := s.gIsOdd g, graph := BitVec.ofNat 8 (s.gKey g), cycle := f.cycle, node := n, seq := q, crc := crc
                       frame := if s.gIsOdd g then none else some f }
    updXchk (p / 2) (fun k => { k with seals := k.seals ++ [x] }) s
  else sendBuilt p f s
def execSeal (piste : BitVec 2) (node : BitVec 16) (s : State) : Outcome :=
  let p := piste.toNat
  let n := node.toNat
  .next (match s.graphOf p n with
  | none => s
  | some g =>
    if !s.live || !(s.gRuns g || s.gSubst g) || s.nodeOp p n != 12 then s
    else match sfind (s.graph g).built n with
    | some f => sealGo g n f s
    | none => s)

/-! ### The cross-check units (R318-R320, R323) -/

/-- A pair fault is pending (R320). -/
def State.pairFault (s : State) (k : Nat) : Bool := bit (s.reg (pXCHK k) 0x8000) 0
/-- A pair fault: 1 MISMATCH, 2 MISSING, 3 SEAL (R320). -/
def faultPair (k kind g port index : Nat) (cycle : Word) (forced : Bool) (s : State) : State :=
  let pg := pXCHK k
  let s := bump pg (0x8014 + 4 * kind) s
  let s := if s.pairFault k then s else
    setReg pg 0x8008 cycle (setReg pg 0x8004 (w32 (g + port * 0x100 + index % 32768 * 0x1000)) (setReg pg 0x8000 (w32 (1 + 2 * kind)) s))
  let s := postF forced (if kind = 1 then 0x04 else if kind = 2 then 0x06 else 0x05) pg (g + port * 0x100) cycle.toNat s
  let st := (s.graph g).st
  if kind = 2 then
    (if st = .active then
      (match s.modeNow with
       | .safeOperate | .degraded => enterHold g s
       | _ => enterSubst g s)
     else s)
  else if st = .active ∨ st = .hold ∨ st = .retiring then enterSubst g s else s
/-- An OUT port of the graph has passed the comparison; a standby placement's first full cycle ends the HOLD (R323). -/
def passOut (g index : Nat) (cycle : Word) (w : W128) (s : State) : State :=
  let x := s.graph g
  let n := if x.passCycle = cycle then x.passCount + 1 else 1
  let s := updGraph g (fun x => { x with passed := sset x.passed index w, passCycle := cycle, passCount := n }) s
  match x.standsFor with
  | some old =>
    if (s.outAll g).length ≤ n then endHold old.toNat (updGraph g (fun x => { x with standsFor := none }) s) else s
  | none => s
/-- The first pair of compare tokens of a graph and port. -/
def tokenPair (ts : List XToken) (g : BitVec 8) (port : BitVec 4) : Option (XToken × XToken) :=
  ts.findSome? (fun a =>
    if a.odd || a.graph != g || a.port != port then none
    else (ts.find? (fun b => b.odd && b.graph == g && b.index == a.index && b.cycle == a.cycle)).map (fun b => (a, b)))
/-- XCHK compares two tokens (R318). -/
def execXchkCompare (pair : BitVec 1) (graph : BitVec 8) (port : BitVec 4) (s : State) : Outcome :=
  let k := pair.toNat
  .next (match s.live && s.pairUp k, tokenPair (s.xchk k).tokens graph port with
  | true, some (a, b) =>
    let s := updXchk k (fun x => { x with tokens := (x.tokens.erase a).erase b }) s
    let s := bump64 (pXCHK k) 0x8010 s
    if a.record = ~~~ b.record then passOut graph.toNat a.index a.cycle a.record s
    else faultPair k 1 graph.toNat port.toNat a.index a.cycle (a.forced || b.forced) s
  | _, _ => s)
/-- A token whose partner has not come by 50 us after the deadline (R318). -/
def execXchkMissing (pair : BitVec 1) (graph : BitVec 8) (port : BitVec 4) (s : State) : Outcome :=
  let k := pair.toNat
  let x := s.xchk k
  let lone := x.tokens.find? (fun a => a.graph == graph && a.port == port &&
    !x.tokens.any (fun b => b.odd != a.odd && b.graph == graph && b.index == a.index && b.cycle == a.cycle) &&
    !((s.graph graph.toNat).openCycle && (s.graph graph.toNat).cycle == a.cycle))
  .next (match s.live && s.pairUp k, lone with
  | true, some a =>
    let forced := x.withhold == some (graph, some a.cycle)
    let s := updXchk k (fun x => { x with tokens := x.tokens.erase a, withhold := if forced then none else x.withhold }) s
    faultPair k 2 graph.toNat port.toNat a.index a.cycle forced s
  | _, _ => s)
/-- XCHK compares two seals (R319). -/
def execXchkSealCompare (pair : BitVec 1) (graph : BitVec 8) (s : State) : Outcome :=
  let k := pair.toNat
  let seals := (s.xchk k).seals
  let found := seals.findSome? (fun a =>
    if a.odd || a.graph != graph then none
    else (seals.find? (fun b => b.odd && b.graph == graph && b.cycle == a.cycle && b.node == a.node)).map (fun b => (a, b)))
  .next (match s.live && s.pairUp k, found with
  | true, some (a, b) =>
    let s := updXchk k (fun x => { x with seals := (x.seals.erase a).erase b }) s
    let s := bump64 (pXCHK k) 0x8010 s
    if a.seq = b.seq ∧ a.crc = b.crc then (match a.frame with
      | some f => sendBuilt (2 * k) f s
      | none => s)
    else
      let s := match a.frame with
        | some f => freeBuilt (2 * k) f s
        | none => s
      faultPair k 3 graph.toNat 0 0 a.cycle false s
  | _, _ => s)
/-- HOLD_TIME has passed since the graph entered HOLD (R323). -/
def execHoldTimeout (piste : BitVec 2) (graph : BitVec 8) (s : State) : Outcome :=
  let g := gEven graph.toNat
  .next (if s.live && gPiste graph.toNat == piste.toNat && (s.graph g).st == .hold then enterSubst g s else s)

/-! ### CP4 SIG (R245, R311) -/

/-- The code node that a thread is bound to. -/
def State.boundNode (s : State) (t : Nat) : Option NodeItem := match (s.thr t).item with
  | some (.node x) => some x
  | _ => none
/-- Nanoseconds left to the cycle deadline. -/
def State.nsLeft (s : State) (x : NodeItem) : Nat :=
  let g := s.graph x.place
  g.startSec.toNat * 1000000000 + g.startNs.toNat + fld (s.gtime x.place) 19 0 * 1000 - s.totalNs
/-- An input record returned: its value, and its upper half in the result register. -/
def rdinGo (t : Nat) (rd : Reg) (w : W128) (s : State) : State :=
  setReg' t rd (w64 w.toNat) (updThr t (fun th => { th with res4 := w64 (w.toNat / 2 ^ 64) }) s)
def execSigRdin (t : Tid) (rd rs rt : Reg) (opt : BitVec 5) (s : State) : Outcome :=
  cpInsn 4 1 t rd rs rt opt (rt == 0 && opt == 0) (fun th s =>
    match s.boundNode t.toNat with
    | none => unitErr 4 2
    | some x => match x.inputs[fld (th.rg rs) 3 0]? with
      | some w => .retire (rdinGo t.toNat rd w s)
      | none =>
        let w := BitVec.ofNat 128 ((Config.value s.free).toNat + (Config.value (s.free + 1)).toNat * 2 ^ 64)
        .retire (rdinGo t.toNat rd w { s with free := s.free + 2 })) s
def execSigSetq (t : Tid) (rd rs rt : Reg) (opt : BitVec 5) (s : State) : Outcome :=
  cpInsn 4 2 t rd rs rt opt (rd == 0 && rt == 0 && opt == 0) (fun th s =>
    retireThr t.toNat (fun x => { x with oq := th.rg rs }) s) s
/-- The status of SIG.WROUT. -/
def wroutStatus (s : State) (x : NodeItem) (port q : Nat) : Status :=
  let g := x.place
  let p := gPiste g
  if decide (x.nout.toNat ≤ port) || decide (5 < q) || q == 2 then .badArg
  else if s.hasToken g (s.portSig p (s.portBase p x.node.toNat + s.nodeIn p x.node.toNat + port)) then .busy else .ok
/-- The output token of a code node (R245). -/
def wroutGo (t : Nat) (x : NodeItem) (port q : Nat) (v oq : W64) (s : State) : State :=
  let g := x.place
  let p := gPiste g
  let n := x.node.toNat
  let e := s.portBase p n + s.nodeIn p n + port
  let r : Rec := { value := v, quality := q, flags := BitVec.ofNat 8 (fld oq 15 8 % 128), seq := BitVec.ofNat 16 (fld oq 31 16)
                   ts := hi32 oq }
  let (w, s) := writeSig g (s.portSig p e) x.cycle r s
  let s := sendToken g n e w s
  updThr t (fun th => { th with item := some (.node { x with written := x.written ++ [port] }) }) s
def execSigWrout (t : Tid) (rd rs rt : Reg) (opt : BitVec 5) (s : State) : Outcome :=
  cpInsn 4 3 t rd rs rt opt (decide (opt.toNat < 8)) (fun th s =>
    match s.boundNode t.toNat with
    | none => retireSt t.toNat rd .empty s
    | some x =>
      let q := fld (th.rg rt) 7 0
      match wroutStatus s x opt.toNat q with
      | .ok => retireSt t.toNat rd .ok (wroutGo t.toNat x opt.toNat q (th.rg rs) th.oq s)
      | st => retireSt t.toNat rd st s) s
/-- The end of a code node's firing (R311). -/
def sigDoneGo (t : Nat) (x : NodeItem) (s : State) : State :=
  let g := x.place
  let n := x.node.toNat
  updThr t (fun th => { th with item := none }) (codeDone g n (postUnwritten g n x.written false s))
def execSigDone (t : Tid) (rd rs rt : Reg) (opt : BitVec 5) (s : State) : Outcome :=
  cpInsn 4 4 t rd rs rt opt (rs == 0 && rt == 0 && opt == 0) (fun _ s =>
    match s.boundNode t.toNat with
    | none => retireSt t.toNat rd .empty s
    | some x => retireSt t.toNat rd .ok (sigDoneGo t.toNat x s)) s
def execSigInfo (t : Tid) (rd rs rt : Reg) (opt : BitVec 5) (s : State) : Outcome :=
  cpInsn 4 5 t rd rs rt opt (rs == 0 && rt == 0 && opt == 0) (fun _ s =>
    match s.boundNode t.toNat with
    | none => unitErr 4 2
    | some x => retireReg t.toNat rd (w64 (x.cycle.toNat * 0x100000000 + s.nsLeft x % 0x100000000)) s) s

end Sys2Proof.Machine
end

