-- ==== Sys2Proof/Machine/GraphCmd.lean ====
section
/-! DEFINITION. Graph commands, the checks of loading, forcing, what modes and piste losses do to graphs, migration, and the
SIGE and XCHK pages (R285-R288, R312-R317, R320-R325, R328, R329). -/
namespace Sys2Proof.Machine
open Sys2Proof

/-! ### The checks of LOAD and SWAP (R302, R303, R309, R314) -/

/-- Legal numbers of inputs and outputs by operator (R302). -/
def arityOk (op nin nout : Nat) : Bool := match op with
  | 0 | 1 | 12 => nin == 0 && nout == 0
  | 2 | 6 | 10 | 11 => nin == 1 && nout == 1
  | 3 | 7 => nin == 1 && nout == 2
  | 4 => (nin == 2 || nin == 3) && nout == 2
  | 5 => decide (2 ≤ nin) && decide (nin ≤ 16) && nout == 1
  | 8 | 9 => nin == 2 && nout == 1
  | 15 => decide (nin ≤ 16) && decide (nout ≤ 8)
  | _ => false
/-- A map entry is legal for UNPACK or PACK (R291). -/
def mapOk (pack : Bool) (e : W64) : Bool :=
  let f := fld e 22 20
  let b := fld e 13 11
  let w := fld e 19 14 + 1
  fld e 31 25 == 0 && fld e 63 51 == 0 && (decide (f ≤ 1) || f == 4 || (f == 2 && b == 0 && w == 32) ||
    (f == 3 && b == 0 && w == 64) || (f == 5 && pack && b == 0 && w == 8))
/-- A seal's fields lie within a frame of LEN bytes (R309). -/
def sealOk (p0 : W64) (len : Nat) : Bool :=
  decide (sealCrcOff p0 + 4 ≤ len - 4) && decide (sealSeqOff p0 + 2 ≤ len - 4) && decide (sealStart p0 ≤ sealCrcOff p0)
/-- The parameters of a node are legal (R302, R303, R308, R309). -/
def State.paramsOk (s : State) (p n : Nat) (nodes : List Nat) : Bool :=
  let p0 := s.nodeP p n 0
  match s.nodeOp p n with
  | 1 =>
    let len := packLen p0
    let sn := fld p0 53 40
    decide (64 ≤ len) && decide (len ≤ 2048) && decide (fld p0 11 0 * 64 + len ≤ 4096 * 64) &&
      (s.maps p n).all (fun e => decide (fld e 10 0 + fieldBytes e ≤ len - 4)) &&
      (sn == 0x3FFF || (nodes.contains sn && s.nodeOp p sn == 12 && sealOk (s.nodeP p sn 0) len))
  | 4 => fld p0 1 0 != 3 && s.nodeIn p n == (if fld p0 1 0 = 0 then 2 else 3)
  | 6 => fLt 0 p0 && fLe p0 0x3FF0000000000000
  | 10 => decide (p0.toNat ≤ 2)
  | _ => true
/-- A node is legal by itself, its entries within their stores (items 1 and 2). -/
def State.nodeOk (s : State) (p n : Nat) (nodes : List Nat) : Bool :=
  let op := s.nodeOp p n
  let w0 := s.nodeW p n 0
  arityOk op (s.nodeIn p n) (s.nodeOut p n) && fld w0 15 13 == 0 && fld (s.nodeW p n 1) 31 25 == 0 &&
    decide (s.portBase p n + s.nodeIn p n + s.nodeOut p n ≤ 65536) && decide (s.mapCount p n ≤ 256) &&
    decide (s.mapBase p n + s.mapCount p n ≤ 65536) &&
    (rangeFrom (s.portBase p n) (s.nodeIn p n + s.nodeOut p n)).all (fun e =>
      let w := s.num (sigeStoreA 1 p (e * 16)) 4
      w / 0x1000000 ≤ 1 && w / 0x80000 % 32 == 0 && s.num (sigeStoreA 1 p (e * 16 + 4)) 4 == 0) &&
    (decide (2 ≤ op) || (s.maps p n).all (mapOk (op == 1))) && s.paramsOk p n nodes
/-- The node range of a slot lies in the store and meets no other non-FREE slot's (item 1). -/
def State.rangeOk (s : State) (g : Nat) : Bool :=
  let lo := s.gBase g
  let hi := lo + fld (s.gsize g) 14 0
  decide (lo < hi) && decide (hi ≤ 16384) && (rangeFrom (gPiste g * 64) 64).all (fun h =>
    h == g || (s.graph h).st == .free || decide (hi ≤ s.gBase h) || decide (s.gBase h + fld (s.gsize h) 14 0 ≤ lo))
/-- Signals that a slot's nodes write, with their nodes. -/
def State.gWrites (s : State) (g : Nat) : List (Nat × Nat) :=
  (s.gNodes g).flatMap (fun n => (s.nodeOuts (gPiste g) n).map (fun o => (n, o.2)))
def State.gReads (s : State) (g : Nat) : List (Nat × Nat) :=
  (s.gNodes g).flatMap (fun n => (s.nodeIns (gPiste g) n).map (fun i => (n, i)))
/-- Nothing but the allowed graphs owns the record (item 4). -/
def State.ownerOk (s : State) (allowed : List Nat) (i : Nat) : Bool := match sget none s.sige.owner i with
  | some (o, _) => allowed.contains o.toNat
  | none => true
/-- The bytes of a node and of what it uses, for comparison and for SIGE_TBL_CHECK (R314, R315). -/
def State.nodeContent (s : State) (p n : Nat) : Bytes :=
  let p0 := s.nodeP p n 0
  s.bytes (sigeStoreA 0 p (n * 64)) 64 ++ s.bytes (sigeStoreA 1 p (s.portBase p n * 16)) ((s.nodeIn p n + s.nodeOut p n) * 16) ++
    s.bytes (sigeStoreA 2 p (s.mapBase p n * 8)) (s.mapCount p n * 8) ++
    (if s.nodeOp p n = 1 then s.bytes (sigeStoreA 3 p (fld p0 11 0 * 64)) (packLen p0) else [])
def State.gContent (s : State) (g : Nat) : Bytes := (s.gNodes g).flatMap (s.nodeContent (gPiste g))
/-- A signal is the true record of an output of its owner. -/
def State.isTrue (s : State) (i : Nat) : Bool := match sget none s.sige.owner i with
  | some (o, _) => (s.gWrites o.toNat).any (fun e => e.2 == i)
  | none => false
/-- Item 7: what a SAFETY graph must meet besides. -/
def State.safetyOk (s : State) (g : Nat) (allowed : List Nat) : Bool :=
  let odd := gOdd g
  let p := gPiste g
  let off := fld (s.gsafe g) 18 0
  let writes := s.gWrites g
  let used := (writes ++ s.gReads g).map (·.2)
  decide (p + 1 < Config.pistes s.part) && p % 2 == 0 &&
    decide (s.gPeriod g + fld (s.gtime g) 19 0 ≤ 950) && s.rangeOk odd &&
    (s.gReads g).all (fun e => writes.any (fun w => w.2 == e.2) || (match sget none s.sige.owner e.2 with
      | some (o, _) => bit (s.gctl o.toNat) 0 && gPiste o.toNat / 2 == p / 2 && s.isTrue e.2
      | none => false)) &&
    (writes.map (·.2)).all (fun i => !used.contains (i + off) && s.ownerOk allowed (i + off) &&
      decide (i + off < Config.signals s.part)) &&
    s.gctl odd == setBit (s.gctl g) 0 false && s.gsize odd == s.gsize g && s.gtime odd == s.gtime g && s.gsafe odd == s.gsafe g &&
    s.reg (pSIGE (p + 1)) (0x100 + 8 * s.gTimer g) == s.reg (pSIGE p) (0x100 + 8 * s.gTimer g) &&
    s.reg (pSIGE (p + 1)) (0x104 + 8 * s.gTimer g) == s.reg (pSIGE p) (0x104 + 8 * s.gTimer g) &&
    s.gContent odd == s.gContent g
/-- ORIGIN of a standby placement. -/
def State.origin (s : State) (g : Nat) : Nat := fld (s.gsize g) 23 16
/-- Item 8. -/
def State.standbyOk (s : State) (g : Nat) : Bool :=
  let o := s.origin g
  let a := (s.gWrites g).map (·.2)
  let b := (s.gWrites o).map (·.2)
  s.gSafe o && gPiste o % 2 == 0 && bit (s.gctl o) 8 && gPiste o / 2 != gPiste g / 2 && a.all b.contains && b.all a.contains
/-- All of R314 for the slot; `old` is the slot that a SWAP replaces. -/
def State.loadOk (s : State) (g : Nat) (old : Option Nat) : Bool :=
  let p := gPiste g
  let nodes := s.gNodes g
  let writes := s.gWrites g
  let tw := s.reg (pSIGE p) (0x100 + 8 * s.gTimer g)
  let dl := fld (s.gtime g) 19 0
  let safe := bit (s.gctl g) 0
  let allowed := (match old with
    | some o => [s.gKey o]
    | none => []) ++ (if bit (s.gctl g) 9 then [s.origin g] else [])
  s.rangeOk g && nodes.all (fun n => s.nodeOk p n nodes) && decide (writes.map (·.2)).Nodup &&
    (s.gReads g).all (fun e => writes.all (fun w => w.2 != e.2 || decide (w.1 < e.1))) &&
    writes.all (fun w => s.ownerOk allowed w.2) &&
    (writes ++ s.gReads g).all (fun e => decide (e.2 < Config.signals s.part)) &&
    bit tw 31 && decide (1 ≤ dl) && decide (dl ≤ fld tw 19 0) && (!safe || s.safetyOk g allowed) &&
    (!bit (s.gctl g) 9 || s.standbyOk g)

/-! ### Graph commands (R73, R286, R313, R322) -/

/-- The present mode permits the graph command (R73, R75). -/
def graphMode (s : State) (req : Requester) (safe : Bool) : Bool := match s.modeNow with
  | .boot => req == .loader
  | .configure | .commission | .maintenance => true
  | .operate | .safeOperate | .degraded | .safeState => !safe
  | _ => false
/-- The even partner slot holds a SAFETY graph. -/
def State.evenSafe (s : State) (g : Nat) : Bool := gPiste g % 2 == 1 && s.gSafe (gEven g)
/-- A command concerns a SAFETY graph: one loaded in the slot's pair, or the one that the slot's registers describe. -/
def State.cmdSafe (s : State) (g : Nat) : Bool := s.gSafe g || (gPiste g % 2 == 0 && bit (s.gctl g) 0)
/-- Refused by mode, by an odd slot, or carried out. -/
def graphJudge (p : Nat) (req : Requester) (gs : List Nat) (absent : Bool) (own : List Status) (s : State) (go : State → State) :
    Option Status × State :=
  if absent then cmdFail .absent s
  else if !graphMode s req (gs.any s.cmdSafe) then cmdState req (pSIGE p) 0x8114 true s
  else if gs.any s.evenSafe then cmdFail .notOwner s
  else match firstStatus own with
  | some st => cmdFail st s
  | none => (some .ok, go s)
def State.argSlot (s : State) (p : Nat) (second : Bool) : Nat :=
  p * 64 + (if second then s.rfld (pSIGE p) 0x8100 13 8 else s.rfld (pSIGE p) 0x8100 5 0)
/-- MIGRATE = 1 on a part with one pair (R292). -/
def State.noMigrate (s : State) (g : Nat) : Bool := bit (s.gctl g) 8 && decide (Config.pistes s.part < 4)
/-- The placements that loading a slot fills. -/
def State.newPlaces (s : State) (g : Nat) : List Nat := if bit (s.gctl g) 0 then [g, gOdd g] else [g]
/-- A slot, or its partner's, is not FREE. -/
def State.slotTaken (s : State) (g : Nat) : Bool := (s.newPlaces g).any (fun h => (s.graph h).st != .free)
/-- The placements enter a state with node state at zero (R301). -/
def fillSlots (g : Nat) (st : GState) (swap : Option Nat) (s : State) : State :=
  (s.newPlaces g).foldl (fun s h =>
    let ns := (s.gNodes h).map (nodeKey (gPiste h))
    let s := setGraph h { Graph.reset with st := st, swapFor := swap } s
    { s with sige := { s.sige with nodes := sdrop (fun k => ns.contains k) s.sige.nodes } }) s
/-- LOAD (R313, R322). -/
def loadGo (g : Nat) (s : State) : State :=
  if bit (s.gctl g) 9 then fillSlots g .standby none s
  else
    let s := takeOwners g (fillSlots g .pending none s)
    if bit (s.gctl g) 0 && s.safetySubst then enterSubst g s else s
def graphLoad (p : Nat) (req : Requester) (s : State) : Option Status × State :=
  let g := s.argSlot p false
  graphJudge p req [g] (s.noMigrate g) ((if s.loadOk g none then [] else [.badArg]) ++ (if s.slotTaken g then [.busy] else [])) s
    (loadGo g)
/-- UNLOAD (R313): the slots retire at the end of the current cycle. -/
def graphUnload (p : Nat) (req : Requester) (s : State) : Option Status × State :=
  let g := s.argSlot p false
  let st := (s.graph g).st
  graphJudge p req [g] false ((if st = .free then [.badArg] else []) ++ (if st = .pending ∨ st = .retiring then [.busy] else [])) s
    (fun s => (s.gPlaces g).foldl (fun s h => setGState .retiring h s) s)
/-- SWAP (R313): the new slot waits for the next start of the old slot's timer. -/
def graphSwap (p : Nat) (req : Requester) (s : State) : Option Status × State :=
  let old := s.argSlot p false
  let g := s.argSlot p true
  let st := (s.graph old).st
  graphJudge p req [old, g] (s.noMigrate g)
    ((if old ≠ g ∧ (st = .active ∨ st = .hold ∨ st = .subst) ∧ s.loadOk g (some old) then [] else [.badArg]) ++
      (if s.slotTaken g then [.busy] else [])) s
    (fillSlots g .pending (some old))
/-- The signals that a FORCE reaches: the record, and the other copy of a SAFETY signal (R286). -/
def State.forceCopy (s : State) (i : Nat) : Option Nat := match sget none s.sige.owner i with
  | some (o, _) => if s.gSafe o.toNat && s.isTrue i then some (i + fld (s.gsafe o.toNat) 18 0) else none
  | none => none
def forceMode (s : State) : Bool := match s.modeNow with
  | .commission | .maintenance => true
  | _ => false
/-- A record given a value with quality FORCED. -/
def forceOne (i : Nat) (odd : Bool) (v : W64) (p : Option (BitVec 2)) (s : State) : State :=
  let r := { Rec.ofBits (if odd then ~~~ s.sigRaw i else s.sigRaw i) with value := v, quality := qFORCED }
  let s := { s with sige := { s.sige with forced := sdrop (· == i) s.sige.forced } }
  let s := putSig i (if odd then ~~~ r.bits else r.bits) s
  { s with sige := { s.sige with forced := sset s.sige.forced i p } }
def forceJudge (p : Nat) (req : Requester) (s : State) (go : Nat → State → State) : Option Status × State :=
  let i := s.rfld (pSIGE p) 0x8110 18 0
  if Config.signals s.part ≤ i then cmdFail .absent s
  else if !forceMode s then cmdState req (pSIGE p) 0x8114 true s
  else (some .ok, go i s)
/-- FORCE (R286). -/
def forceBody (p : Nat) (req : Requester) (s : State) : Option Status × State :=
  forceJudge p req s (fun i s =>
    let v := s.reg64 (pSIGE p) 0x8108
    let s1 := forceOne i false v (some (BitVec.ofNat 2 p)) s
    match s.forceCopy i with
    | some j => forceOne j true v none s1
    | none => s1)
/-- UNFORCE writes nothing (R286). -/
def unforceBody (p : Nat) (req : Requester) (s : State) : Option Status × State :=
  forceJudge p req s (fun i s =>
    let gone := i :: (s.forceCopy i).toList
    { s with sige := { s.sige with forced := sdrop (fun k => gone.contains k) s.sige.forced } })
/-- Every force ends with the mode that permits it (R286). -/
def clearForces (s : State) : State := { s with sige := { s.sige with forced := [] } }

def graphCmd (p : Nat) (req : Requester) (v : Word) : State → WRes :=
  command (pSIGE p) 0x8118 (match fld v 3 0 with
    | 1 => graphLoad p req
    | 2 => graphUnload p req
    | 3 => graphSwap p req
    | 4 => forceBody p req
    | 5 => unforceBody p req
    | _ => cmdFail .badArg)
def execLoad (req : Requester) (piste : BitVec 2) (s : State) : Outcome :=
  .next (cmdRow req (pSIGE piste.toNat) 0x8114 0x8118 (graphLoad piste.toNat req) s)
def execUnload (req : Requester) (piste : BitVec 2) (s : State) : Outcome :=
  .next (cmdRow req (pSIGE piste.toNat) 0x8114 0x8118 (graphUnload piste.toNat req) s)
def execSwap (req : Requester) (piste : BitVec 2) (s : State) : Outcome :=
  .next (cmdRow req (pSIGE piste.toNat) 0x8114 0x8118 (graphSwap piste.toNat req) s)
def execForce (req : Requester) (piste : BitVec 2) (s : State) : Outcome :=
  .next (cmdRow req (pSIGE piste.toNat) 0x8114 0x8118 (forceBody piste.toNat req) s)
def execUnforce (req : Requester) (piste : BitVec 2) (s : State) : Outcome :=
  .next (cmdRow req (pSIGE piste.toNat) 0x8114 0x8118 (unforceBody piste.toNat req) s)

/-- SIGE_TBL_CHECK as a pass computes it (R315). -/
def State.tblCrc (s : State) (p : Nat) : Word :=
  crc32c (((rangeFrom (p * 64) 64).filter (fun g => (s.graph g).st != .free)).flatMap (fun g =>
    wordsBytes [s.gctl g, s.gsize g, s.gtime g, s.gsafe g] ++ s.gContent g))
def execSigeTblPass (piste : BitVec 2) (s : State) : Outcome :=
  let p := piste.toNat
  .next (if s.live && decide (p < Config.pistes s.part) && Config.hasSige s.part then setReg (pSIGE p) 0x8004 (s.tblCrc p) s else s)

/-- XCHK_CLEAR (R320). -/
def xchkClear (k : Nat) (req : Requester) (s : State) : WRes :=
  let ok := match s.modeNow with
    | .configure | .commission | .maintenance => true
    | .boot => req == .loader
    | _ => false
  if !ok then .refuse .stateRefused
  else
    let s := setReg (pXCHK k) 0x8000 0 s
    .ok { s with safety := { s.safety with suspect := setBit s.safety.suspect k false } }
def execXchkClear (req : Requester) (pair : BitVec 1) (s : State) : Outcome :=
  .next (regRow req (pXCHK pair.toNat) 0x800C (xchkClear pair.toNat req) s)

/-! ### Modes and losses (R63, R322-R325) -/

/-- Even slots of the SAFETY graphs that are neither FREE nor STANDBY. -/
def State.safetyGraphs (s : State) : List Nat :=
  (s.sige.graphs.filter (fun e => gPiste e.1 % 2 == 0 && e.2.st != .free && e.2.st != .standby && bit (s.gctl e.1) 0)).map (·.1)
/-- Entering OPERATE, SAFE-STATE or MAINTENANCE (R322). -/
def graphsToSubst (s : State) : State := s.safetyGraphs.foldl (fun s g => enterSubst g s) s
/-- Entering COMMISSION or SAFE-OPERATE: PENDING, except under a pending pair fault and in a pair that lost a piste. -/
def graphsToPending (s : State) : State :=
  s.safetyGraphs.foldl (fun s g =>
    let k := gPiste g / 2
    if (s.graph g).st = .retiring || s.pairFault k || !s.pairUp k then s
    else (s.gPlaces g).foldl (fun s h => setGState .pending h (stopGraph h s)) s) s

/-- SIGE_SAFE_LOAD of a pair (R324). -/
def State.safeLoad (s : State) (k : Nat) : Nat :=
  ((rangeFrom (k * 128) 64).map (fun g =>
    let st := (s.graph g).st
    if bit (s.gctl g) 0 && (st == .active || st == .hold || st == .subst || st == .pending) then fld (s.gsafe g) 29 20 else 0)).sum
/-- The standby placement of a graph on the other pair. -/
def State.standbyOf (s : State) (g : Nat) : Option Nat :=
  ((s.sige.graphs.filter (fun e => e.2.st == .standby && gPiste e.1 % 2 == 0 && bit (s.gctl e.1) 0)).map (·.1)).find? (fun h =>
    s.origin h == g && gPiste h / 2 != gPiste g / 2)
/-- The graphs of a pair that migrate, with their placements (R324). -/
def State.migrants (s : State) (k : Nat) : List (Nat × Nat) :=
  if !s.pairUp (1 - k) || decide (500 < s.safeLoad 0) || decide (500 < s.safeLoad 1) then []
  else (s.safetyGraphs.filter (fun g => gPiste g / 2 == k && bit (s.gctl g) 8)).filterMap (fun g =>
    (s.standbyOf g).map (fun h => (g, h)))
/-- What the loss of a piste does to graphs, XCHK and the engines' frames; its bit in PISTES_LOST is set already (R323). -/
def losePisteGraphs (p : Nat) (s : State) : State :=
  let k := p / 2
  let first := !s.lost (p / 2 * 2 + (1 - p % 2))
  let s := if first then (s.xchk k).seals.foldl (fun s x => match x.frame with
      | some f => freeBuilt (2 * k) f s
      | none => s) s else s
  let s := updXchk k (fun x => { x with tokens := [], seals := [] }) s
  let s := (s.safetyGraphs.filter (fun g => gPiste g / 2 == k && (s.graph g).st == .active)).foldl (fun s g => enterHold g s) s
  let gone := s.items p
  let s := gone.foldl (fun s it => if it.partner then itemDone it false s else s) (setItems p [] s)
  if first ∧ s.modeNow = .safeOperate ∧ !(s.migrants k).isEmpty then
    { s with sige := { s.sige with migrate := setBit (setBit s.sige.migrate k true) (2 + k) true } }
  else s
/-- Migration runs in DEGRADED entered from SAFE-OPERATE (R324). -/
def State.migrates (s : State) (i : Nat) : Bool :=
  s.live && bit s.sige.migrate i && s.modeNow == .degraded && s.mode.degFromSafe
/-- The indirection rewrite (R325). -/
def execMigrationRewrite (pair : BitVec 1) (s : State) : Outcome :=
  let k := pair.toNat
  let t := 2 * (1 - k)
  .next (
    if !s.migrates k then s
    else
      let hit (w : Word) : Bool := bit w 31 && fld w 9 8 / 2 == k && s.kindType t (fld w 2 0) == 2
      let n := (s.cls.ind.filter (fun e => hit e.2)).length
      let s := { s with cls := { s.cls with ind := s.cls.ind.map (fun e => (e.1, if hit e.2 then setFld e.2 9 8 t else e.2)) }
                        sige := { s.sige with migrate := setBit s.sige.migrate k false } }
      bumpBy (pSIGE t) 0x8038 n s)
/-- One graph moves to its standby placement, whose first cycle starts (R325). -/
def migrateOne (s : State) (m : Nat × Nat) : State :=
  let (g, h) := m
  let s := takeOwners h (dropOwners g s)
  let s := (s.gPlaces h).foldl (fun s x => setGState .active x s) s
  let s := if (s.outAll h).isEmpty then endHold g s else updGraph h (fun x => { x with standsFor := some (BitVec.ofNat 8 g) }) s
  (s.gPlaces h).foldl (fun s x => if s.gRuns x then startCycle x (s.gCount x) s else s) s
def execMigrationActivate (pair : BitVec 1) (s : State) : Outcome :=
  let k := pair.toNat
  .next (
    if !s.migrates (2 + k) then s
    else (s.migrants k).foldl migrateOne { s with sige := { s.sige with migrate := setBit s.sige.migrate (2 + k) false } })

/-! ### The pages (R288, R293, R313, R328, R329) -/

/-- Bytes of a store (R288). -/
def storeSize : Nat → Nat
  | 0 => 16384 * 64 | 1 => 65536 * 16 | 2 => 65536 * 8 | 3 => 4096 * 64 | _ => 16384 * 4
/-- Store and byte address that a window offset shows. -/
def State.winAddr (s : State) (p off : Nat) : Nat × Nat :=
  (s.rfld (pSIGE p) 0x8200 3 0, s.rfld (pSIGE p) 0x8200 23 8 * 8192 + (off - 0xA000))
/-- A non-FREE slot uses the node, port or map entry (R313). -/
def State.storeUsed (s : State) (p st a : Nat) : Bool :=
  ((rangeFrom (p * 64) 64).filter (fun g => (s.graph g).st != .free)).any (fun g => (s.gNodes g).any (fun n => match st with
    | 0 => n == a / 64
    | 1 => decide (s.portBase p n ≤ a / 16) && decide (a / 16 < s.portBase p n + s.nodeIn p n + s.nodeOut p n)
    | 2 => decide (s.mapBase p n ≤ a / 8) && decide (a / 8 < s.mapBase p n + s.mapCount p n)
    | _ => false))
def storeWindow (p off : Nat) (v : Word) (s : State) : WRes :=
  let (st, a) := s.winAddr p off
  if s.locked (pSIGE p) then .refuse .locked
  else if storeSize st < a + 4 then .ok s
  else if s.storeUsed p st a then .refuse .busy
  else .ok (putNum (sigeStoreA st p a) 4 v.toNat s)
/-- A legal PERIOD; 0 only in a timer that is off (R293). -/
def periodOk (v : Word) : Bool :=
  let n := fld v 19 0
  (n == 0 && !bit v 31) || (decide (125 ≤ n) && decide (n ≤ 1000000) && 1000000 % n == 0)
/-- A write of a slot register (R313, R328). -/
def slotWrite (p off : Nat) (v mask : Word) (s : State) : WRes :=
  let g := p * 64 + (off - 0x1000) / 16
  let bad := match off % 16 with
    | 0 => bit v 0 && p % 2 == 1
    | 4 => decide (16384 < fld v 14 0)
    | 12 => decide (1000 < fld v 29 20)
    | _ => false
  if bad then .refuse .badArg
  else if (s.graph g).st ≠ .free then .refuse .busy
  else .ok (store (pSIGE p) off mask v s)
def sigeWrite (p : Nat) (req : Requester) (off : Nat) (v mask : Word) (s : State) : WRes :=
  let pg := pSIGE p
  if 0x100 ≤ off ∧ off < 0x140 then
    (if off % 8 = 0 then storeIf (periodOk v && (fld v 19 0 == 0 || decide (s.rfld pg (off + 4) 19 0 < fld v 19 0))) pg off mask v s
     else storeIf (fld v 19 0 == 0 || decide (fld v 19 0 < s.rfld pg (off - 4) 19 0)) pg off mask v s)
  else if 0x1000 ≤ off ∧ off < 0x1400 then slotWrite p off v mask s
  else if off = 0x8114 then graphCmd p req v s
  else if off = 0x8200 then storeIf (decide (fld v 3 0 ≤ 4)) pg off mask v s
  else if 0xA000 ≤ off ∧ off < 0xC000 then storeWindow p off v s
  else .ok (store pg off mask v s)
def sigeWrite64 (p : Nat) (_ : Requester) (off : Nat) (v : W64) (s : State) : WRes := .ok (setReg64 (pSIGE p) off v s)
/-- GRAPH_STATE codes (R312). -/
def GState.code : GState → Nat
  | .free => 0 | .active => 1 | .hold => 2 | .subst => 3 | .standby => 4 | .pending => 5 | .retiring => 6
/-- Signal that a dword of the signal window shows. -/
def State.winSignal (s : State) (p off : Nat) : Nat := s.rfld (pSIGE p) 0x8204 8 0 * 1024 + (off - 0xC000) / 16
def sigeRead (p : Nat) (s : State) (off : Nat) : Option Word :=
  if off = 0x8000 then some (w32 (min (s.safeLoad (p / 2)) 0x7FF))
  else if off = 0x803C then
    some (w32 (s.sige.forced.filter (fun e => e.2 == some (BitVec.ofNat 2 p))).length)
  else if 0x9000 ≤ off ∧ off < 0x9100 then some (w32 (s.graph (p * 64 + (off - 0x9000) / 4)).st.code)
  else if 0xA000 ≤ off ∧ off < 0xC000 then
    let (st, a) := s.winAddr p off
    some (if storeSize st < a + 4 then 0 else w32 (s.num (sigeStoreA st p a) 4))
  else if 0xC000 ≤ off then
    let i := s.winSignal p off
    some (if Config.signals s.part ≤ i then 0 else w32 ((s.sigShown i).toNat / 2 ^ (off % 16 * 8)))
  else none
/-- A read of the signal window verifies the record's check (R283). -/
def sigeReadEffect (p off : Nat) (s : State) : State :=
  if 0xC000 ≤ off ∧ s.winSignal p off < Config.signals s.part then sigCount p (s.winSignal p off) s else s
def xchkWrite (k : Nat) (req : Requester) (off : Nat) (v mask : Word) (s : State) : WRes :=
  if off = 0x800C then xchkClear k req s else .ok (store (pXCHK k) off mask v s)
/-- Soft reset of a SIGE page: its slots and stores are cleared (R49). -/
def sigeSoftReset (p : Nat) (s : State) : State :=
  let s := (rangeFrom (p * 64) 64).foldl (fun s g => if (s.graph g).st = .free then s else freeGraph g s) s
  (rangeFrom 0 5).foldl (fun s st => clearMem (sigeStoreA st p 0) (storeSize st) s) s

end Sys2Proof.Machine
end

