-- ==== Sys2Proof/Machine/Reset.lean ====
section
/-! DEFINITION. Power, the reset pins and power-on detectors, and what an entry to RESET leaves (R31, R64, R71, R89, R486-R489,
R494, R498, R519-R525). -/
namespace Sys2Proof.Machine
open Sys2Proof

/-! ### What a reset keeps (R89, R521) -/

/-- Space of a memory address. -/
def spaceOf (a : Nat) : Nat := a / 0x1000000000000
/-- The byte lives through the reset: flash and ROM through each, the HBM through a warm one (R89, R373). -/
def keptMem (warm : Bool) (a : Nat) : Bool := spaceOf a == 9 || spaceOf a == 6 || (warm && spaceOf a == 0)
/-- Registers that a warm reset keeps: the root PLL lock, the time base's adjustment, the training results (R89). -/
def keptReg (k : Nat) : Bool :=
  k == regKey pCLK 0x8000 || k == regKey pTIME 0x8010 || k == regKey (pHBMS 0) 0x8000 || k == regKey (pHBMS 1) 0x8000
/-- A free number below `n`. -/
def drawFree (n : Nat) (s : State) : Nat × State := ((Config.value s.free).toNat % n, { s with free := s.free + 1 })
/-- A fuse group's number in R486 for the life-cycle command that blows it: 3 PROVISION, 4 TO_FIELD, 6 TO_RETURN, 7 SCRAP. -/
def fuseGroup : Nat → Nat
  | 3 => 1 | 4 => 2 | 6 => 3 | 7 => 4 | _ => 0
/-- Fuse programming cut off: how many fuses it had blown is a free value (R489). -/
def cutFuses (s : State) : State := match s.life.op with
  | none => s
  | some (code, slot) =>
    let (n, s) := drawFree 9 s
    let l := s.life
    let l := match code with
      | 1 => { l with programmed := setBit l.programmed slot (decide (8 ≤ n)) }
      | 2 => { l with revoked := setBit l.revoked slot (decide (8 ≤ n)) }
      | _ => { l with fuses := sset l.fuses (fuseGroup code) (max (sget 0 l.fuses (fuseGroup code)) n) }
    { s with life := { l with op := none, opRefused := false } }
/-- A flash range left undefined: every byte of it is a free value (R86). -/
def scrambleFlash (a n : Nat) (s : State) : State :=
  let b := (rangeFrom 0 (ceilDiv n 8)).flatMap (fun i => leBytes 8 (Config.value (s.free + i)).toNat)
  putBytes (flashA a) (b.take n) { s with free := s.free + ceilDiv n 8 }
/-- A flash command cut off by a reset; VALIDATE has not written its record yet (R86). -/
def cutFlash (s : State) : State := match s.fabric.flash with
  | none => s
  | some f =>
    let s := { s with fabric := { s.fabric with flash := none } }
    match f.code with
    | 2 => scrambleFlash f.addr f.len s
    | 3 => scrambleFlash (f.addr / 4096 * 4096) 4096 s
    | 5 => scrambleFlash (f.addr + 4) 4 s
    | _ => s
/-- The HBM stacks present, as bits. -/
def stacksMask (part : Part) : BitVec 2 := if Config.hbmStacks part = 2 then 3 else 1

/-- The state at an entry to RESET. Beside what it keeps, everything is as after reset; the secure parts' wipe has begun
(R350); `cause` is RST_STATUS.CAUSE (R535). -/
def enterReset (warm : Bool) (cause : Nat) (s0 : State) : State :=
  let s := cutFlash (cutFuses s0)
  let z := State.reset
  startWipe
    { z with
      part := s.part, stepping := s.stepping
      wipes := []
      regs := if warm then s.regs.filter (fun e => keptReg e.1) else []
      mem := s.mem.filter (fun c => keptMem warm c.1)
      poison := s.poison.filter (fun w => keptMem warm (w * 8))
      mode := { z.mode with porst := s.mode.porst, sysrst := s.mode.sysrst, trips := s.mode.trips
                            resetCause := BitVec.ofNat 4 cause, zeroHold := warm && s.mode.zeroHold
                            zeroCause := if warm then s.mode.zeroCause else 0 }
      boot := { z.boot with staging := if warm then s.boot.staging else none
                            trained := if warm then s.boot.trained else 0 }
      time := if warm then { z.time with sec := s.time.sec, ns := s.time.ns, frac := s.time.frac } else z.time
      safety := { z.safety with trip := s.safety.trip }
      life := { s.life with tamper := if warm then s.life.tamper else 0, tamperPin := true, unlocked := false
                            completed := false, zeroing := false }
      tap := s.tap, boundary := s.boundary, refOk := s.refOk, free := s.free, outs := s.outs, pending := s.pending }

/-- The device loses power: nothing but fuses and flash remains (R63, R477). -/
def powerOff (s : State) : State :=
  let s := enterReset false 0 s
  { s with wipes := [], mode := { s.mode with powered := false, prev := .off, trips := 0 }
           safety := { s.safety with trip := false }, tap := .idle, boundary := [] }

/-! ### The first log record (R501, R502) -/

/-- RESTART_KIND of the last reset: 1 SYSRST_N, 2 COLD_RESTART, 3 WARM_RESTART, else 0 (R520, R535). -/
def State.restartKind (s : State) : Nat := let c := s.mode.resetCause.toNat; if c ≤ 3 then c else 0
/-- POWER_ON, written ahead of any other record. -/
def logPower (s : State) : State :=
  if s.reg pLOG 0x8000 = 0 then logAdd 0x01 0x3FF s.restartKind (if s.restartKind = 0 then 0 else 1) 0 s else s
/-- A record of the event log, with POWER_ON ahead of it in RESET. -/
def logEvent (kind page d0 d1 d2 : Nat) (s : State) : State := logAdd kind page d0 d1 d2 (logPower s)

/-! ### The commands -/

def execPowerApplied (s : State) : Outcome :=
  .next (if !s.mode.powered && s.mode.porst then
      let s := enterReset false 0 { s with mode := { s.mode with powered := true } }
      { s with mode := { s.mode with powered := true } }
    else s)
def execPowerRemoved (s : State) : Outcome := .next (if s.mode.powered then powerOff s else s)
/-- PORST_N low: a cold reset (R519). -/
def execPorstNAssert (s : State) : Outcome :=
  let s' := { s with mode := { s.mode with porst := true } }
  .next (if s.mode.powered && !s.mode.porst then enterReset false 0 s' else s')
/-- The release of PORST_N returns the TAP to Test-Logic-Reset too (R549). -/
def execPorstNRelease (s : State) : Outcome :=
  .next (if s.mode.porst then { s with mode := { s.mode with porst := false }, tap := .idle } else s)
/-- SYSRST_N low: a warm reset, unless PORST_N is low (R519). -/
def execSysrstNAssert (s : State) : Outcome :=
  let s' := { s with mode := { s.mode with sysrst := true } }
  .next (if s.mode.powered && !s.mode.sysrst && !s.mode.porst then enterReset true 1 s' else s')
def execSysrstNRelease (s : State) : Outcome := .next { s with mode := { s.mode with sysrst := false } }
/-- A detector on VDD_IO, VDD_CORE or VDD_SRAM trips: a cold reset, held until it clears (R520). -/
def execPowerOnDetectorTrip (det : BitVec 2) (s : State) : Outcome :=
  let d := det.toNat
  .next (if s.mode.powered && decide (d < 3) && !bit s.mode.trips d then
      enterReset false (4 + d) { s with mode := { s.mode with trips := setBit s.mode.trips d true } }
    else s)
def execPowerOnDetectorRelease (det : BitVec 2) (s : State) : Outcome :=
  .next (if s.mode.powered && decide (det.toNat < 3) then
      { s with mode := { s.mode with trips := setBit s.mode.trips det.toNat false } }
    else s)

/-- The root PLL loses lock: every divided clock stands, PENNANT stops, and the safety controller records CLOCK and
drives FAULT_N low (R31, R463). The count of the record is zero. -/
def execPllLockLoss (s : State) : Outcome :=
  .next (if s.live then
      let s := setRfld pCLK 0x8000 0 0 0 (post 0x11 0x3FF 1 0 s)
      { s with mode := { s.mode with pllLost := true } }
    else s)

end Sys2Proof.Machine
end

