-- ==== Sys2Proof/Machine/Image.lean ====
section
/-! DEFINITION. The configuration image in flash: its valid record, header, check word and signature, and the checks 1 to 5 that
a slot passes before a record is applied (R77, R80-R82, R486-R488). -/
namespace Sys2Proof.Machine
open Sys2Proof

/-- Flash address of a slot, 1 A and 2 B (R80). -/
def slotBase (slot : Nat) : Nat := if slot = 2 then 0x4000000 else 0
/-- Greatest image length (R80). -/
def maxImage : Nat := 0x3FFF000
/-- A dword of flash. -/
def State.flashWord (s : State) (a : Nat) : Nat := s.num (flashA a) 4
/-- A dword of a byte list. -/
def wordAt (b : Bytes) (o : Nat) : Nat := leNat (slice b o 4)

/-- The valid record of a slot (R81): MAGIC, VALID, IMAGE_LEN, IMAGE_CRC, IMAGE_SEQ. -/
structure ValidRec where
  magic : Nat
  valid : Nat
  len : Nat
  crc : Nat
  seq : Nat
deriving DecidableEq, Repr
def State.validRec (s : State) (slot : Nat) : ValidRec :=
  let a := slotBase slot
  { magic := s.flashWord a, valid := s.flashWord (a + 4), len := s.flashWord (a + 8), crc := s.flashWord (a + 12)
    seq := s.flashWord (a + 16) }
/-- The record that VALIDATE writes. -/
def validBytes (len crc seq : Nat) : Bytes :=
  leBytes 4 0x56414C44 ++ leBytes 4 0xA5C30001 ++ leBytes 4 len ++ leBytes 4 crc ++ leBytes 4 seq ++ List.replicate 44 0xFF
def State.imageBytes (s : State) (slot o n : Nat) : Bytes := s.bytes (flashA (slotBase slot + 0x1000 + o)) n

/-- A slot's failing result codes (R77). -/
def resNoValid := 2
def resHeader := 3
def resPart := 4
def resCheckWord := 5
def resSigMissing := 6
def resSigBad := 7
def resRecord := 8
def resFlash := 9
def resTimeout := 10

/-- Check 1. -/
def ValidRec.ok (v : ValidRec) : Bool := v.magic == 0x56414C44 && v.valid == 0xA5C30001 && decide (v.len ≤ maxImage)

/-- Check 2: the header's conditions (R82). -/
def headerOk (v : ValidRec) (h : Bytes) : Bool :=
  let len := wordAt h 0x0C
  let recOff := wordAt h 0x20
  let recEnd := recOff + 16 * wordAt h 0x24
  let payOff := wordAt h 0x28
  let payLen := wordAt h 0x2C
  let chk := wordAt h 0x30
  let sig := wordAt h 0x34
  wordAt h 0 == 0x4346494D && wordAt h 4 == 1 && wordAt h 8 == 256 && len == v.len && wordAt h 0x38 == v.seq &&
    decide (276 ≤ len) && decide (4 ≤ wordAt h 0x1C) && decide (wordAt h 0x1C ≤ 7) && wordAt h 0x24 != 0 &&
    recOff % 16 == 0 && payOff % 16 == 0 && chk % 4 == 0 && decide (256 ≤ recOff) && decide (recEnd ≤ chk) &&
    decide (payOff < len) && (payLen == 0 || (decide (256 ≤ payOff) && decide (payOff + payLen ≤ chk))) &&
    ((sig == 0 && len == chk + 4) || (sig == chk + 4 && len == sig + 128)) &&
    (slice h 0x3C 4 ++ slice h 0x60 0xA0).all (· == 0)

/-- Check 3: the part meets the header's requirements; a SCRAPPED part loads nothing (R77, R487). -/
def State.partOk (s : State) (h : Bytes) : Bool :=
  let lim := wordAt h 0x14
  let have_ := Config.devLimits s.part
  s.life.state != 4 && w32 (wordAt h 0x10) &&& ~~~Config.devCaps s.part == 0 &&
    decide (lim / 65536 ≤ fld have_ 31 16) && decide (lim % 65536 ≤ fld have_ 15 0) && decide (wordAt h 0x18 ≤ s.stepping.toNat)

/-- Checks 1 to 3 of a candidate's valid record and header: the failing result, none where they pass. -/
def State.headerResult (s : State) (v : ValidRec) (h : Bytes) : Option Nat :=
  if !v.ok then some resNoValid
  else if !headerOk v h then some resHeader
  else if !s.partOk h then some resPart
  else none

/-- A key slot may verify a signature (R487). -/
def State.keyUsable (s : State) (i : Nat) : Bool := decide (i ≤ 3) && bit s.life.programmed i && !bit s.life.revoked i
/-- The public key of a slot. -/
def State.pubKey (s : State) (i : Nat) : Bytes := sget [] s.life.keys i
/-- Check 5 on a whole image (R77, R486, R487). -/
def State.sigResult (s : State) (img : Bytes) : Option Nat :=
  let sig := wordAt img 0x34
  let st := s.life.state.toNat
  if sig = 0 then (if st = 2 ∨ st = 3 then some resSigMissing else none)
  else if st = 0 then some resSigBad
  else
    let i := wordAt img sig
    if s.keyUsable i && ecdsaVerify (s.pubKey i) (Machine.slice img (sig + 0x10) 96) (sha384 (img.take (wordAt img 0x30 + 4))) then none
    else some resSigBad
/-- Checks 4 and 5 on a whole image against a valid record's IMAGE_CRC. -/
def State.bodyResult (s : State) (crc : Nat) (img : Bytes) : Option Nat :=
  let chk := wordAt img 0x30
  let word := wordAt img chk
  if word ≠ (crc32c (img.take chk)).toNat ∨ word ≠ crc then some resCheckWord else s.sigResult img
/-- The image carries a signature; one that passed check 5 has verified (R490). -/
def imageSigned (img : Bytes) : Bool := wordAt img 0x34 != 0

/-- Checks 1 to 5 as VALIDATE applies them, check 1 on the values it is about to write: the record to be programmed. -/
def State.validate (s : State) (slot : Nat) : Option Bytes :=
  let h := s.imageBytes slot 0 256
  let v : ValidRec := { magic := 0x56414C44, valid := 0xA5C30001, len := wordAt h 0x0C, crc := 0, seq := wordAt h 0x38 }
  match s.headerResult v h with
  | some _ => none
  | none =>
    let img := s.imageBytes slot 0 v.len
    let crc := wordAt img (wordAt h 0x30)
    match s.bodyResult crc img with
    | some _ => none
    | none => some (validBytes v.len crc v.seq)

end Sys2Proof.Machine
end

