-- ==== Sys2Proof/Machine/Tm.lean ====
section
/-! DEFINITION. The traffic manager: admission with the stream functions of IEEE 802.1Qci and 802.1CB, queues and the deep
buffer (R393-R402, R552). Transmission, gates and the TM page stand in Egress.lean. -/
namespace Sys2Proof.Machine
open Sys2Proof

/-! ### Port windows (R425) -/

/-- A dword of a port's window. -/
def State.win (s : State) (port off : Nat) : Word := s.regK (tmKey port off)
def bumpWin (port off : Nat) (s : State) : State := bumpK (tmKey port off) s
/-- A field port, trunk port or management port has gates and a MAC; 1088 to 1344 are destinations (R401, R408). -/
def schedPort (p : Nat) : Bool := decide (p < 1056)
def State.qcfg (s : State) (port q : Nat) : Word := s.win port (0xA010 + q * 0x10)
def State.portCfg (s : State) (port : Nat) : Word := s.win port 0xA000
/-- Preemption is supported on the port as it runs (R409). -/
def State.preemptible (s : State) (p : Nat) : Bool := schedPort p && !s.isFmxPort p
/-- Preemption is active (R410). -/
def State.preemptOn (s : State) (p : Nat) : Bool :=
  let c := s.portCfg p
  s.preemptible p && bit c 2 && (bit c 3 || (s.port p).verified)
/-- The queue is preemptible at present (R411). -/
def State.preemptQueue (s : State) (p q : Nat) : Bool := s.preemptOn p && bit (s.qcfg p q) 16

/-! ### Copies dropped (R340, R401, R552) -/

/-- A copy's reference returned; a frame still arriving keeps its cells until its last one is written. -/
def freeCopy (c : TmCopy) (s : State) : State :=
  match c.cells with
  | [] => s
  | h :: _ =>
    let done (s : State) : State := (freeChain (2 * c.piste.toNat) h (some (c.owner.toNat % 65536)) s).2
    match c.pkt with
    | none => done s
    | some p => match s.pkt p with
      | none => done s
      | some k => if !k.tail && k.cells.isEmpty && k.st == .gone then setPkt p { k with cells := c.cells } s else done s
/-- A frame of a Bunting sample is lost: BUNT_DROPPED counts the sample once (R506). Such copies carry input port 0x7FF and the
sample's SEQ for a timestamp; the last sample counted is kept at offset 0x801C of the LOG page, which holds no register. -/
def buntLost (seq : Word) (s : State) : State :=
  if s.reg pLOG 0x801C = seq then s else bump pLOG 0x8014 (setReg pLOG 0x801C seq s)
/-- A copy dropped under R401: counted where its window says, a mirror copy in MIR_DROPS. -/
def dropCopy (port off : Nat) (c : TmCopy) (s : State) : State :=
  let s := if c.inPort = 0x7FF then buntLost c.ts s else s
  let s := match c.mirror with
    | some m => bump (pTSN 6) (0x8004 + 8 * m) s
    | none => bumpWin port off s
  freeCopy c s

/-! ### Stream functions (R396-R400) -/

def StreamState.fresh : StreamState :=
  { cTok := 0, eTok := 0, at_ := 0, live := false, genSeq := 0, recUsed := false, recSeq := 0, hist := [] }
def State.stream (s : State) (h : Nat) : StreamState := sget .fresh s.streams h
def updStream (h : Nat) (f : StreamState → StreamState) (s : State) : State :=
  { s with streams := sset s.streams h (f (s.stream h)) }
/-- A field of a stream, meter or recovery entry; the entry as a number (R426). -/
def State.tsnEntry (s : State) (u h : Nat) : Nat := s.num (tsnStoreA u (h * 16)) 16
def natFld (n hi lo : Nat) : Nat := n / 2 ^ lo % 2 ^ (hi + 1 - lo)
/-- A saturating counter of `n` bytes in the record of a stream. -/
def streamCount (h off n : Nat) (s : State) : State :=
  let a := tsnStoreA 4 (h * 32 + off)
  putNum a n (min (s.num a n + 1) (256 ^ n - 1)) s

/-- A copy's length in bytes, FCS included. -/
def State.copyLen (s : State) (c : TmCopy) : Nat :=
  match c.deep with
  | some b => b.length
  | none => (s.chainBytes c.cells).length

/-- The stream filter: whether the frame goes on (R397). A blocked stream's drops count with the oversize ones. -/
def streamFilter (h len : Nat) (s : State) : Bool × State :=
  let e := s.tsnEntry 1 h
  let max := natFld e 15 0
  let tooLong := max != 0 && decide (max < len)
  let s' := if tooLong && natFld e 17 17 == 1 then putNum (tsnStoreA 1 (h * 16 + 2)) 1 (natFld e 23 16 % 4 + 4 + natFld e 23 19 * 8) s else s
  if tooLong || natFld e 18 18 == 1 then (false, streamCount h 16 4 s') else (true, s)
/-- The colours of a two-rate three-colour marker. -/
inductive Colour where
  | green | yellow | red
deriving DecidableEq, Repr
/-- The flow meter of a stream: the frame's colour and the buckets after it (R398). -/
def meter (e now len : Nat) (x : StreamState) : Colour × StreamState :=
  let u := 8000000
  let cMax := natFld e 87 64 * u
  let eMax := natFld e 111 88 * u
  let dt := now - x.at_
  let c0 := if x.live then x.cTok + natFld e 31 0 * dt else cMax
  let spill := if natFld e 112 112 = 1 then c0 - cMax else 0
  let e0 := if x.live then x.eTok + natFld e 63 32 * dt + spill else eMax
  let c := min c0 cMax
  let g := min e0 eMax
  let need := len * u
  let put (c g : Nat) : StreamState := { x with cTok := c, eTok := g, at_ := now, live := true }
  if need ≤ c then (.green, put (c - need) g) else if need ≤ g then (.yellow, put c (g - need)) else (.red, put c g)
def streamMeter (h len : Nat) (s : State) : Colour × State :=
  if natFld (s.tsnEntry 1 h) 19 19 = 0 then (.green, s)
  else
    let (col, x) := meter (s.tsnEntry 2 h) s.time.ticks len (s.stream h)
    let s := { s with streams := sset s.streams h x }
    match col with
    | .green => (.green, s)
    | .yellow => (.yellow, streamCount h 20 4 s)
    | .red => (.red, streamCount h 24 4 s)

/-- What sequence recovery counts of a frame, and whether it passes (IEEE 802.1CB 7.4.3). -/
structure RecOut where
  pass : Bool
  outOfOrder : Bool
  rogue : Bool
  lost : Nat
deriving DecidableEq, Repr
/-- Vector recovery: history of `n` bits, the newest first (IEEE 802.1CB 7.4.3.4). -/
def vectorRecovery (n : Nat) (seq : BitVec 16) (x : StreamState) : RecOut × StreamState :=
  if !x.recUsed then
    ({ pass := true, outOfOrder := false, rogue := false, lost := 0 },
     { x with recUsed := true, recSeq := seq, hist := true :: List.replicate (n - 1) false })
  else
    let d := (seq - x.recSeq).toInt
    if (n : Int) ≤ d ∨ d ≤ -(n : Int) then ({ pass := false, outOfOrder := false, rogue := true, lost := 0 }, x)
    else if d ≤ 0 then
      let i := (-d).toNat
      if x.hist.getD i false then ({ pass := false, outOfOrder := false, rogue := false, lost := 0 }, x)
      else ({ pass := true, outOfOrder := true, rogue := false, lost := 0 }, { x with hist := x.hist.set i true })
    else
      let k := d.toNat
      let all := true :: (List.replicate (k - 1) false ++ x.hist)
      ({ pass := true, outOfOrder := k != 1, rogue := false, lost := ((all.drop n).filter (fun b => !b)).length },
       { x with recSeq := seq, hist := all.take n })
/-- Match recovery (IEEE 802.1CB 7.4.3.5). -/
def matchRecovery (seq : BitVec 16) (x : StreamState) : RecOut × StreamState :=
  if x.recUsed ∧ seq = x.recSeq then ({ pass := false, outOfOrder := false, rogue := false, lost := 0 }, x)
  else
    ({ pass := true, outOfOrder := x.recUsed && seq != x.recSeq + 1, rogue := false, lost := 0 },
     { x with recUsed := true, recSeq := seq })
/-- A recovery's history length, 1 to 32. -/
def histLen (r : Nat) : Nat := max 1 (min 32 (natFld r 6 1))
/-- Sequence recovery of a stream: whether the frame goes on (R399). -/
def streamRecover (h len : Nat) (bytes : Bytes) (s : State) : Bool × State :=
  let e := s.tsnEntry 1 h
  if natFld e 20 20 = 0 then (true, s)
  else
    let r := s.tsnEntry 3 h
    let off := natFld e 59 48
    let pass (s : State) : Bool × State :=
      (true, streamCount h 0 4 s)
    if len < off + 6 then
      let s := streamCount h 28 4 s
      if natFld r 7 7 = 1 then pass s else (false, streamCount h 4 4 s)
    else
      let seq := BitVec.ofNat 16 (beNat (slice bytes off 2))
      let (o, x) := if natFld r 0 0 = 1 then matchRecovery seq (s.stream h) else vectorRecovery (histLen r) seq (s.stream h)
      let s := { s with streams := sset s.streams h x }
      let s := if o.outOfOrder then streamCount h 8 2 s else s
      let s := if o.rogue then streamCount h 10 2 s else s
      let s := putNum (tsnStoreA 4 (h * 32 + 12)) 2 (min (s.num (tsnStoreA 4 (h * 32 + 12)) 2 + o.lost) 65535) s
      if o.pass then pass s else (false, streamCount h 4 4 s)

/-! ### Queues (R401, R402) -/

def PortState.queue (x : PortState) (q : Nat) : List TmCopy := sget [] x.queues q
def setQueue (p q : Nat) (l : List TmCopy) (s : State) : State := updPort p (fun x => { x with queues := sset x.queues q l }) s
/-- Queue entries in use (R401). -/
def State.storeEntries (s : State) : Nat := (s.ports.map (fun e => (e.2.queues.map (fun x => x.2.length)).sum)).sum
/-- Blocks of 256 bytes that deep frames take (R402). -/
def State.deepBlocks (s : State) : Nat :=
  (s.ports.map (fun e => (e.2.queues.map (fun x => (x.2.map (fun c => match c.deep with
    | some b => ceilDiv b.length 256
    | none => 0)).sum)).sum)).sum
/-- A scheduled-send time as time-base nanoseconds; its seconds are the low 32 bits (R246). -/
def State.schedNs (s : State) (w : W64) : Int :=
  (Int.ofNat s.time.sec.toNat + (hi32 w - w32 s.time.sec.toNat).toInt) * 1000000000 + Int.ofNat (lo32 w).toNat
/-- Shaper credit of a queue (R404). -/
def PortState.creditOf (x : PortState) (q : Nat) : Int := sget 0 x.credit q

/-- Line rate of a port in kb/s (R92, R95, R107, R109). -/
def State.portRate (s : State) (p : Nat) : Nat :=
  if p < 1024 then
    (match fld (s.flCfg (p / 8)) 2 0 with
     | 1 => 10000000
     | 2 => 25000000
     | _ => 3086000)
  else if p < 1056 then s.trunkLanesOf p * 100000000 else 1000000
/-- The gate states in force: all open while GATE_EN is 0; GCL_ADMIN_GATES before the first cycle (R405). -/
def State.gates (s : State) (p : Nat) : Byte :=
  if !schedPort p || !bit (s.portCfg p) 1 then 0xFF
  else if (s.port p).gcl.running then (s.port p).gcl.gates else (s.win p 0xA118).setWidth 8
/-- Credits brought to the present tick of the time clock, before anything that changes how they run (R404). -/
def settleCredits (p : Nat) (s : State) : State :=
  let x := s.port p
  let dt : Int := Int.ofNat (s.time.ticks - x.creditAt)
  let one (m : SMap Int) (q : Nat) : SMap Int :=
    if !bit (s.qcfg p q) 17 then m
    else
      let idle : Int := Int.ofNat (s.win p (0xA014 + q * 0x10)).toNat
      let c := sget 0 m q
      if !bit (s.gates p) q then m
      else if (x.tx.map (fun t => t.queue)) = some q then sset m q (c + (idle - Int.ofNat (s.portRate p)) * dt)
      else if !(x.queue q).isEmpty then sset m q (c + idle * dt)
      else sset m q (if c < 0 then min 0 (c + idle * dt) else 0)
  if dt = 0 then s
  else updPort p (fun x => { x with credit := (rangeFrom 0 8).foldl one x.credit, creditAt := s.time.ticks }) s

/-- A copy queued at its port, or dropped there (R401, R402, R407). -/
def enqueue (c : TmCopy) (s : State) : State :=
  let p := c.egress.toNat
  let q := c.queue.toNat
  let cfg := s.qcfg p q
  let l := (s.port p).queue q
  let cnt (o : Nat) : Nat := o + q * 0x20
  if !s.portUp p then dropCopy p (cnt 0xA20C) c s
  else if 262144 ≤ s.storeEntries then dropCopy p 0xA300 c s
  else if fld cfg 15 0 ≤ l.length then dropCopy p (cnt 0xA208) c s
  else if c.yellow ∧ fld cfg 31 20 * 16 ≤ l.length then dropCopy p (cnt 0xA210) c s
  else
    let sched := if schedPort p then c.sched else none
    let late := match sched with
      | some w => decide (s.schedNs w < Int.ofNat s.totalNs)
      | none => false
    let s := if late then bumpWin p (cnt 0xA21C) s else s
    if late && bit (s.portCfg p) 0 then freeCopy c s
    else
      let c := { c with sched := if late then none else sched }
      let s := settleCredits p s
      if bit cfg 18 && decide (256 ≤ l.length) && c.sched.isNone && !(s.preemptOn p && !bit cfg 16) then
        let b := s.chainBytes c.cells
        let n := ceilDiv b.length 256
        if s.rfld pTM 0x108 5 0 * 0x400000 < s.deepBlocks + n then dropCopy p (cnt 0xA214) c s
        else
          let s := freeCopy c ((rangeFrom 0 n).foldl (fun s _ => hbmCount 5 s) s)
          setQueue p q (l ++ [{ c with cells := [], deep := some b }]) s
      else setQueue p q (l ++ [c]) s

/-! ### TM_ADMIT -/

/-- The copies that replication makes on the entry's targets (R400). -/
def replicate (e : Nat) (c : TmCopy) (s : State) : State :=
  let targets := ((rangeFrom 0 4).map (fun j => natFld e (72 + 14 * j + 13) (72 + 14 * j))).filter (fun t => t % 2048 != 0x7FF)
  let aimed (c : TmCopy) (t : Nat) : TmCopy :=
    { c with egress := BitVec.ofNat 11 t, queue := BitVec.ofNat 3 (t / 2048), express := false }
  match targets with
  | [] => freeCopy c s
  | t :: r =>
    -- the further references are taken before the frame's own reference may be given up
    let (cs, s) := r.foldl (fun (a : List TmCopy × State) t => match addRefs c.cells a.2 with
      | some s => (a.1 ++ [aimed c t], s)
      | none => (a.1, bumpWin (t % 2048) 0xA304 a.2)) ([aimed c t], s)
    cs.foldl (fun s c => enqueue c s) s
/-- A frame with a stream handle goes through its stream's functions (R396). -/
def streamAdmit (h : Nat) (c : TmCopy) (s : State) : State :=
  let bytes := s.chainBytes c.cells
  let len := bytes.length
  let e := s.tsnEntry 1 h
  match streamFilter h len s with
  | (false, s) => freeCopy c s
  | (true, s) => match streamMeter h len s with
    | (.red, s) => freeCopy c s
    | (col, s) =>
      if col = .yellow ∧ natFld e 16 16 = 1 then freeCopy c s
      else match streamRecover h len bytes s with
        | (false, s) => freeCopy c s
        | (true, s) =>
          let c := { c with yellow := col == .yellow }
          let (c, s) := if natFld e 21 21 = 1 then
              ({ c with seqGen := some ((s.stream h).genSeq, natFld e 59 48), newFcs := true },
               updStream h (fun x => { x with genSeq := x.genSeq + 1 }) s)
            else (c, s)
          if natFld e 22 22 = 1 then replicate e c s else enqueue c s
/-- The traffic manager takes the oldest frame offered (R393, R396, R401). -/
def execTmAdmit (s : State) : Outcome :=
  .next (match s.live, s.tmInbox with
  | true, c :: r =>
    let s := { s with tmInbox := r }
    match c.handle with
    | some h => streamAdmit h.toNat c s
    | none => enqueue c s
  | _, _ => s)

/-- A recovery that has passed no frame for RESET_MS resets its history (R399). -/
def execRecoveryReset (index : BitVec 16) (s : State) : Outcome :=
  let h := index.toNat
  .next (if s.live && (s.stream h).recUsed then
      streamCount h 14 2 (updStream h (fun x => { x with recUsed := false, recSeq := 0, hist := [] }) s)
    else s)

end Sys2Proof.Machine
end

