-- ==== Sys2Proof/Machine/Egress.lean ====
section
/-! DEFINITION. Transmission: selection, gates, shapers, preemption and guard bands; what the MAC writes; delivery to the Telemark
complex; gate control lists; the TM and TSN pages (R19, R20, R105, R107, R112, R403-R413, R418-R421, R423, R425, R426, R552). -/
namespace Sys2Proof.Machine
open Sys2Proof

/-! ### Gate control lists (R405, R406, R418) -/

def gclPtr (l : Word) : Nat := fld l 17 0
def gclLen (l : Word) : Nat := fld l 28 20
/-- Entry `i` of a list: GATES, OP and INTERVAL. -/
def State.gclEntry (s : State) (l : Word) (i : Nat) : Nat := s.num (tsnStoreA 0 ((gclPtr l + i) * 8)) 8
def entryGates (e : Nat) : Byte := BitVec.ofNat 8 e
def entryOp (e : Nat) : Nat := natFld e 11 8
def entryInterval (e : Nat) : Nat := natFld e 63 32
/-- The entries of one cycle with their durations: the last lasts to the cycle's end, the list is cut there. -/
def gclDurs (s : State) (l : Word) : Nat → Nat → Nat → List (Byte × Nat)
  | 0, _, _ => []
  | n + 1, i, left =>
    if left = 0 then []
    else
      let e := s.gclEntry l i
      let d := if n = 0 then left else min (entryInterval e) left
      (entryGates e, d) :: gclDurs s l n (i + 1) (left - d)
def State.cycleDurs (s : State) (g : GclRun) : List (Byte × Nat) := gclDurs s g.list (gclLen g.list) 0 g.cycle.toNat
/-- Time that a gate stays open over following entries; none where no entry of them closes it. -/
def openRun (q : Nat) : List (Byte × Nat) → Option Nat
  | [] => none
  | (g, d) :: r => if bit g q then (openRun q r).map (· + d) else some 0
/-- The instant at which a queue's gate next closes, none where it stays open (R406). -/
def State.gateClose (s : State) (p q : Nat) : Option Int :=
  let g := (s.port p).gcl
  if !schedPort p || !bit (s.portCfg p) 1 || !g.running then none
  else
    let d := s.cycleDurs g
    (openRun q (d.drop (g.entry + 1) ++ d ++ d)).map (fun n => g.endAt + Int.ofNat n)
/-- The longest open window of a queue: the runs of a doubled cycle; none where it never closes. -/
def longestRun (q : Nat) : Nat → Nat → List (Byte × Nat) → Nat
  | cur, best, [] => max cur best
  | cur, best, (g, d) :: r => if bit g q then longestRun q (cur + d) best r else longestRun q 0 (max cur best) r
def State.longestWindow (s : State) (p q : Nat) : Option Nat :=
  let g := (s.port p).gcl
  if !schedPort p || !bit (s.portCfg p) 1 || !g.running then none
  else
    let d := s.cycleDurs g
    if d.all (fun e => bit e.1 q) then none else some (longestRun q 0 0 (d ++ d))

def updGcl (p : Nat) (f : GclRun → GclRun) (s : State) : State := updPort p (fun x => { x with gcl := f x.gcl }) s
/-- The entry `i` comes into force at an instant. -/
def gclEnter (p i : Nat) (at_ : Int) (s : State) : State :=
  let s := settleCredits p s
  let g := (s.port p).gcl
  let e := s.gclEntry g.list i
  let stop := if i + 1 < gclLen g.list then min (at_ + Int.ofNat (entryInterval e)) g.cycleEnd else g.cycleEnd
  updGcl p (fun g => { g with entry := i, gates := entryGates e, endAt := stop
                              hold := if entryOp e = 1 then true else if entryOp e = 2 then false else g.hold }) s
/-- A cycle starts at an instant. -/
def gclCycle (p : Nat) (at_ : Int) (s : State) : State :=
  gclEnter p 0 at_ (updGcl p (fun g => { g with gap := false, mark := none, cycleEnd := at_ + Int.ofNat g.cycle.toNat }) s)
def GclRun.base (g : GclRun) : Int := Int.ofNat g.baseSec.toNat * 1000000000 + Int.ofNat g.baseNs.toNat
/-- Boundaries of the list's timescale from `a` on and before `b`. -/
def GclRun.boundaries (g : GclRun) (a b : Int) : Nat :=
  let c : Int := Int.ofNat g.cycle.toNat
  ((b - 1 - g.base) / c - (a - 1 - g.base) / c).toNat
/-- The time base has been stepped: the cycle in progress completes on the time clock (R418). -/
def gclStepped (old new : Int) (s : State) (p : Nat) : State :=
  let g := (s.port p).gcl
  if !g.running then s
  else
    let n := match g.mark with
      | some m => g.boundaries m old
      | none => 0
    let d := new - old
    let s := setRegK (tmKey p 0xA30C) (satAdd (s.win p 0xA30C) n) s
    if g.gap then
      -- in the gap already: the next boundary of the new timescale
      let c : Int := Int.ofNat g.cycle.toNat
      updGcl p (fun g => { g with endAt := g.base + ((new - g.base + c - 1) / c) * c, mark := none }) s
    else updGcl p (fun g => { g with endAt := g.endAt + d, cycleEnd := g.cycleEnd + d, mark := some new }) s
/-- The change time that CONFIG_CHANGE has computed. -/
def State.changeTime (s : State) (p : Nat) : Int :=
  (Int.ofNat (s.win p 0xA144).toNat * 0x100000000 + Int.ofNat (s.win p 0xA140).toNat) * 1000000000 +
    Int.ofNat (s.win p 0xA148).toNat
/-- The interval of a gate control entry ends (R405, R418). -/
def entryEnd (p : Nat) (s : State) : State :=
  let g := (s.port p).gcl
  if !g.running then s
  else if g.gap then (if g.pendingChange && s.changeTime p == g.endAt then s else gclCycle p g.endAt s)
  else if g.entry + 1 < gclLen g.list ∧ g.endAt < g.cycleEnd then gclEnter p (g.entry + 1) g.endAt s
  else
    let e := g.cycleEnd
    let n := match g.mark with
      | some m => g.boundaries m e
      | none => 0
    let s := setRegK (tmKey p 0xA30C) (satAdd (s.win p 0xA30C) n) s
    let c : Int := Int.ofNat g.cycle.toNat
    let ct := s.changeTime p
    if g.pendingChange && decide (e < ct) && decide (ct ≤ e + Int.ofNat g.ext.toNat) then
      updGcl p (fun g => { g with gap := true, endAt := ct, mark := none }) s
    else if (e - g.base) % c = 0 then gclCycle p e s
    else
      updGcl p (fun g => { g with gap := true, mark := none, endAt := g.base + ((e - g.base + c - 1) / c) * c })
        (bumpWin p 0xA308 s)
def execGclEntryEnd (port : Port) (s : State) : Outcome :=
  .next (if s.live && schedPort port.toNat then entryEnd port.toNat s else s)
/-- The change time: the administrative list becomes operational (R405). -/
def execGclChangeTime (port : Port) (s : State) : Outcome :=
  let p := port.toNat
  .next (
    if !s.live || !(s.port p).gcl.pendingChange then s
    else
      let t := s.changeTime p
      gclCycle p t (updGcl p (fun g =>
        { g with list := s.win p 0xA114, cycle := s.win p 0xA10C, ext := s.win p 0xA110, running := true
                 baseSec := BitVec.ofNat 48 ((s.win p 0xA104).toNat * 0x100000000 + (s.win p 0xA100).toNat)
                 baseNs := s.win p 0xA108, pendingChange := false }) (settleCredits p s)))
/-- The administrative parameters are ones that R405 supports. -/
def State.adminOk (s : State) (p : Nat) : Bool :=
  let l := s.win p 0xA114
  let c := (s.win p 0xA10C).toNat
  let n := gclLen l
  decide (1 ≤ n) && decide (n ≤ 256) && decide (gclPtr l + n ≤ 262144) && decide (1000 ≤ c) && decide (c ≤ 1000000000) &&
    decide ((s.win p 0xA110).toNat ≤ 1000000000) &&
    (rangeFrom 0 n).all (fun i =>
      let e := s.gclEntry l i
      decide (entryOp e ≤ 2) && decide (8 ≤ entryInterval e) && decide (entryInterval e ≤ 1000000000))
/-- CONFIG_CHANGE of the selected port. -/
def configChange (p : Nat) (s : State) : Status × State :=
  if p < 1058 ∧ s.portPresent p = false then (.absent, s)
  else if !s.adminOk p then (.badArg, s)
  else
    let now : Int := Int.ofNat s.totalNs
    let base : Int := (Int.ofNat (s.win p 0xA104).toNat * 0x100000000 + Int.ofNat (s.win p 0xA100).toNat) * 1000000000 +
      Int.ofNat (s.win p 0xA108).toNat
    let c : Int := Int.ofNat (s.win p 0xA10C).toNat
    let t := (if now < base then base else base + ((now + 1000 - base) / c + 1) * c).toNat
    let s := setRegK (tmKey p 0xA140) (w32 (t / 1000000000)) (setRegK (tmKey p 0xA144) (w32 (t / 1000000000 / 0x100000000)) s)
    (.ok, updGcl p (fun g => { g with pendingChange := true }) (setRegK (tmKey p 0xA148) (w32 (t % 1000000000)) s))

/-! ### The frame as it is sent (R400, R412, R421) -/

/-- The frame check of a copy's packet: none while it has not been made. -/
def State.copyCheck (s : State) (c : TmCopy) : Option Bool :=
  match c.pkt with
  | none => some true
  | some p => match s.pkt p with
    | some k => if k.tail then some k.fail.isNone else none
    | none => some true
/-- A sum in a correction field, held at the largest positive value. -/
def addCorr (field : W64) (resNs : Int) : W64 :=
  let v := field.toInt + resNs * 65536
  if 0x7FFFFFFFFFFFFFFF < v then 0x7FFFFFFFFFFFFFFF else BitVec.ofInt 64 v
/-- The bytes of a copy that starts at an egress instant: cut, numbered, corrected, with its frame check sequence. -/
def State.sendBytes (s : State) (c : TmCopy) (egress : Int) : Bytes :=
  let raw := match c.deep with
    | some b => b
    | none => s.chainBytes c.cells
  let cut := c.trunc != 0 && decide (c.trunc < raw.length)
  let b := if cut then raw.take (c.trunc - 4) else raw.take (raw.length - 4)
  let b := match c.seqGen with
    | some (n, o) => if o + 2 ≤ b.length then splice b o (beBytes 2 n.toNat) else b
    | none => b
  let b := match c.corr with
    | some o =>
      if o + 8 ≤ b.length then
        let arr : Int := Int.ofNat (arrivalNs s.totalNs c.ts)
        splice b o (beBytes 8 (addCorr (w64 (beNat (Machine.slice b o 8))) (egress - arr)).toNat)
      else b
    | none => b
  if cut || c.newFcs || c.corr.isSome then b ++ fcsOf b else b ++ raw.drop (raw.length - 4)

/-! ### Selection (R19, R105, R112, R403-R407) -/

/-- The mode carries no frames out of a port: idles only (R112). -/
def State.noFramesOut (s : State) : Bool :=
  match s.modeNow with
  | .configure => true
  | .safeState => !bit (s.reg pMODE 0x100) 0
  | _ => false
/-- The copy may be sent cut-through: express, itself no further copy, to a port no faster than it came from (R19, R109). -/
def State.cutOk (s : State) (p : Nat) (c : TmCopy) : Bool :=
  c.express && c.mirror.isNone && decide (p < 1056) && decide (c.inPort.toNat < 1056) && c.deep.isNone &&
    decide (s.portRate p ≤ s.portRate c.inPort.toNat)
/-- Time in ns that a transmission of `n` bytes takes, preamble and gap included; slots on an FMX sub-port (R101, R107). -/
def State.sendNs (s : State) (p n : Nat) : Nat :=
  if s.isFmxPort p then ceilDiv (((n - 7) / 8 + 2) * 20736) 1000
  else ceilDiv ((n + 20) * 8 * 1000000) (max 1 (s.portRate p))
/-- Bytes that must fit ahead of the gate's close. -/
def State.guardBytes (s : State) (p q : Nat) (c : TmCopy) : Nat :=
  let n := if (s.copyCheck c).isNone then s.maxFrame p else s.copyLen c
  if s.preemptQueue p q then min n (64 * (1 + fld (s.portCfg p) 5 4)) else n
/-- The head of a queue qualifies to start now. -/
def State.canStart (s : State) (p q : Nat) (c : TmCopy) : Bool :=
  let now : Int := Int.ofNat s.totalNs
  ((s.copyCheck c).isSome || s.cutOk p c) && bit (s.gates p) q &&
    (!bit (s.qcfg p q) 17 || decide (0 ≤ (s.port p).creditOf q)) &&
    (match c.sched with
     | some w => decide (s.schedNs w ≤ now)
     | none => true) &&
    (match s.gateClose p q with
     | some t => decide (now + Int.ofNat (s.sendNs p (s.guardBytes p q c)) ≤ t)
     | none => true)
/-- Heads that are never sent leave their queue: frames that failed their check, and frames longer than every window. -/
def dropHeads (p q : Nat) : Nat → State → State
  | 0, s => s
  | n + 1, s =>
    match (s.port p).queue q with
    | [] => s
    | c :: r =>
      let tooLong := match s.longestWindow p q with
        | some w => decide (w < s.sendNs p (s.guardBytes p q c))
        | none => false
      if s.copyCheck c = some false then dropHeads p q n (freeCopy c (setQueue p q r s))
      else if tooLong then dropHeads p q n (freeCopy c (bumpWin p (0xA218 + q * 0x20) (setQueue p q r s)))
      else s
/-- The queues that may start beside what the MAC is doing: all when it is idle, the express ones otherwise (R411). -/
def State.mayStart (s : State) (p q : Nat) : Bool :=
  let x := s.port p
  let pre := s.preemptQueue p q
  match x.tx with
  | none => !pre || (x.held.isNone && !x.gcl.hold)
  | some t => !pre && s.preemptQueue p t.queue && x.held.isNone
/-- The highest queue that qualifies. -/
def State.pickQueue (s : State) (p : Nat) : Option (Nat × TmCopy) :=
  (rangeFrom 0 8).reverse.findSome? (fun q => match (s.port p).queue q with
    | c :: _ => if s.mayStart p q && s.canStart p q c then some (q, c) else none
    | [] => none)
/-- A port's MAC starts its next frame (R403). -/
def execTxStart (port : Port) (s : State) : Outcome :=
  let p := port.toNat
  .next (
    if !s.live || !isLine p || !s.portUp p || s.noFramesOut || (s.isFmxPort p && bit (s.fmxLane (p / 8)).hold (p % 8)) then s
    else
      let s := (rangeFrom 0 8).foldl (fun s q => dropHeads p q ((s.port p).queue q).length s) (settleCredits p s)
      match s.pickQueue p with
      | none => s
      | some (q, c) =>
        let x := s.port p
        let e : Int := Int.ofNat s.totalNs + s.txAdj p
        let t : TxNow :=
          { copy := c, queue := q, startSec := BitVec.ofNat 48 (e.toNat / 1000000000), startNs := w32 (e.toNat % 1000000000)
            data := s.sendBytes c e, sent := 0, bad := s.cellsBad c.cells }
        let s := match c.deep with
          | some b => (rangeFrom 0 (ceilDiv b.length 256)).foldl (fun s _ => hbmCount 6 s) s
          | none => s
        let s := setQueue p q ((x.queue q).drop 1) (bump64AtWin p (0xA200 + q * 0x20) s)
        let s := if x.tx.isSome then bumpWin p 0xA310 s else s
        updPort p (fun y => { y with tx := some t, held := if x.tx.isSome then x.tx else y.held }) s)
where
  /-- A 64-bit counter of a window raised by one. -/
  bump64AtWin (p off : Nat) (s : State) : State :=
    let v := cat32 (s.win p (off + 4)) (s.win p off) + 1
    setRegK (tmKey p (off + 4)) (hi32 v) (setRegK (tmKey p off) (lo32 v) s)

/-! ### TX_COMPLETE (R20, R115, R347, R420) -/

/-- A frame with its frame check sequence inverted. -/
def stomp (b : Bytes) : Bytes := b.take (b.length - 4) ++ (b.drop (b.length - 4)).map (fun x => ~~~x)
/-- A sent frame counted. -/
def txCount (p n : Nat) (s : State) : State :=
  let pg := portPage p
  let b := statBase p
  let s := setReg64 pg (b + 0x48) (w64 ((s.reg64 pg (b + 0x48)).toNat + 1 &&& 0xFFFFFFFFFFFF)) s
  bump64By pg (b + 0x40) n s
/-- A transmit timestamp record (R420). -/
def txRecord (p tag : Nat) (sec : BitVec 48) (ns : Word) (piste : Nat) (s : State) : State :=
  let q := (s.piste piste).tsRecs
  if 256 ≤ q.recs.length then bump (pTSN 5) (0x9018 + piste * 0x40) s
  else
    let b := leBytes 4 (tag + p * 0x10000 + 0x80000000) ++ leBytes 4 ns.toNat ++ leBytes 6 sec.toNat ++ leBytes 2 0
    updPiste piste (fun x => { x with tsRecs := { q with recs := q.recs ++ [{ bytes := b }] } }) s
/-- The blocks of a frame on an FMX sub-port: START, DATA and END_k (R101). -/
def fmxBlocks (b : Bytes) : Nat := if b.length < 7 then 0 else (b.length - 7) / 8 + 2
/-- A frame's transmission ends: counted, timestamped, its cells returned, and a preempted frame goes on. -/
def execTxComplete (port : Port) (s : State) : Outcome :=
  let p := port.toNat
  .next (match s.live, (s.port p).tx with
  | true, some t =>
    match s.copyCheck t.copy with
    | none => s
    | some good =>
      if s.isFmxPort p && decide (t.sent < fmxBlocks t.data) then s
      else
        let s := settleCredits p s
        let ok := good && !t.bad
        let s := emit (.frame port (if ok then t.data else stomp t.data) (!ok)) s
        let s := if ok then txCount p t.data.length s else if t.bad then bump pPBUF 0x8008 (reportCells t.copy.cells s) else stat p 0x50 s
        let s := match t.copy.txts with
          | some tag => txRecord p tag.toNat t.startSec t.startNs t.copy.piste.toNat s
          | none => s
        updPort p (fun x => { x with tx := x.held, held := none }) (freeCopy t.copy s)
  | _, _ => s)

/-! ### Delivery to the Telemark complex (R413) -/

/-- The descriptor that a delivery carries: complete, with the length that is delivered; a built frame's own. -/
def State.deliveredDesc (s : State) (c : TmCopy) : Bytes :=
  let d := if c.desc.isEmpty then
      (Packet.new c.inPort c.piste.toNat c.cells c.owner.toNat (s.copyLen c) c.ts).desc
    else c.desc
  let n := s.copyLen c
  let len := if c.trunc ≠ 0 ∧ c.trunc < n then c.trunc else n
  let d := splice d 4 (leBytes 2 len)
  let head := splice (d.take 28) 20 (leBytes 1 ((Machine.slice d 20 1).headD 0 &&& 0xFD).toNat)
  head ++ leBytes 4 (crc32c head).toNat
/-- The head frame of a queue of port 1344 goes to its thread's mailbox; its cells are the thread's to free. -/
def execTelDelivery (queue : BitVec 3) (s : State) : Outcome :=
  let q := queue.toNat
  .next (
    if !s.live then s
    else
      let s := dropHeads 1344 q ((s.port 1344).queue q).length s
      match (s.port 1344).queue q with
      | [] => s
      | c :: r =>
        let t := 2048 + s.rfld pTM (0x110 + q * 4) 2 0
        if (s.copyCheck c).isNone || !s.mailRoom t then s
        else
          let d := s.deliveredDesc c
          let words := (rangeFrom 0 4).map (fun i => w64 (leNat (slice d (8 * i) 8)))
          wake t (updThr t (fun th => { th with mbox := th.mbox ++ [{ sender := 0, words := words }] }) (setQueue 1344 q r s)))

/-! ### Preemption verification (R410) -/

def execVerifyResult (port : Port) (ok : Bool) (s : State) : Outcome :=
  let p := port.toNat
  .next (
    let c := s.portCfg p
    if !s.live || !s.preemptible p || !bit c 2 || bit c 3 then s
    else updPort p (fun x => { x with verified := ok }) (if ok then s else bumpWin p 0xA314 s))

/-! ### The TM page (R404, R405, R408, R409, R425) -/

def State.tmSel (s : State) : Nat := s.rfld pTM 0x8100 10 0
/-- The idleSlopes of a port's shaped queues keep within 75% of its rate, with one queue's registers as given (R404). -/
def State.slopesOk (s : State) (p q : Nat) (cfg slope : Word) : Bool :=
  !isLine p || !s.portPresent p ||
    decide (((rangeFrom 0 8).map (fun i =>
      let c := if i = q then cfg else s.qcfg p i
      let v := if i = q then slope else s.win p (0xA014 + i * 0x10)
      if bit c 17 then v.toNat else 0)).sum * 4 ≤ s.portRate p * 3)
/-- A port's window command (R61). -/
def winCommand (p : Nat) (body : State → Status × State) (s : State) : WRes :=
  let (st, s) := body s
  .ok (raiseBit pTM 4 (setRegK (tmKey p 0xA120) (w32 (0x80000000 + st.code)) s))
/-- GCL_CMD (R405, R408). -/
def gclCmd (p code : Nat) (s : State) : WRes :=
  if s.locked pTM then .refuse .locked
  else if !schedPort p then .refuse .badArg
  else if code = 1 then winCommand p (configChange p) s else winCommand p (fun s => (.badArg, s)) s
/-- A write of the port window. -/
def windowWrite (off : Nat) (v mask : Word) (s : State) : WRes :=
  let p := s.tmSel
  let put (s : State) : WRes := .ok (setRegK (tmKey p off) (v &&& mask) s)
  let when_ (ok : Bool) : WRes := if ok then put (settleCredits p s) else .refuse .badArg
  let q := (off - 0xA010) / 16
  if off = 0xA11C then gclCmd p (fld v 3 0) s
  else if s.locked pTM then .refuse .locked
  else if off = 0xA000 then
    let ok := decide (1 ≤ fld v 15 8) && decide (fld v 15 8 ≤ 128) && (!bit v 2 || s.preemptible p) && (!bit v 1 || schedPort p)
    if ok then put (if bit v 2 then settleCredits p s else updPort p (fun x => { x with verified := false }) (settleCredits p s))
    else .refuse .badArg
  else if 0xA010 ≤ off ∧ off < 0xA090 then
    match off % 16 with
    | 0 => when_ (fld v 15 0 != 0 && (!bit v 18 || decide (p < 1058)) && s.slopesOk p q v (s.win p (off + 4)))
    | 4 => when_ (s.slopesOk p q (s.qcfg p q) v)
    | _ => put s
  else if off = 0xA108 then when_ (decide (v.toNat < 1000000000))
  else put s
def tmWrite (_ : Requester) (off : Nat) (v mask : Word) (s : State) : WRes :=
  if 0xA000 ≤ off then windowWrite off v mask s
  else if off = 0x108 then storeIf (decide (fld v 5 0 ≤ 16)) pTM off mask v s
  else if off = 0x8100 then
    storeIf (decide (fld v 10 0 ≤ 1057) || (decide (1088 ≤ fld v 10 0) && decide (fld v 10 0 ≤ 1344))) pTM off mask v s
  else .ok (store pTM off mask v s)
def tmWrite64 (_ : Requester) (off : Nat) (v : W64) (s : State) : WRes :=
  if 0xA000 ≤ off then
    if s.locked pTM then .refuse .locked
    else .ok (setRegK (tmKey s.tmSel off) (lo32 v) (setRegK (tmKey s.tmSel (off + 4)) (hi32 v &&& 0xFFFF) s))
  else
    let b := fld v 39 30 * 0x40000000
    if (hbmOff s.part b 1).isSome then .ok (setReg64 pTM off (w64 b) s) else .refuse .badArg
/-- GCL_STATE. -/
def State.gclState (s : State) (p : Nat) : Word :=
  let g := (s.port p).gcl
  w32 (g.entry % 256 + (if g.running then g.gates else (s.win p 0xA118).setWidth 8).toNat * 256 + b2n g.pendingChange * 0x10000)
def tmRead (s : State) (off : Nat) : Option Word :=
  let p := s.tmSel
  if off = 0x8000 then some (w32 s.storeEntries)
  else if off = 0xA130 then some (s.port p).gcl.list
  else if off = 0xA134 then some (s.port p).gcl.cycle
  else if off = 0xA138 then some (s.gclState p)
  else if off = 0xA318 then some (w32 (b2n (s.preemptOn p)))
  else if 0xA000 ≤ off then some (s.win p off)
  else none
def execConfigChange (req : Requester) (s : State) : Outcome :=
  .next (regRow req pTM 0xA11C (fun s => gclCmd s.tmSel 1 s) s)

/-! ### TM_TBL_CHECK (R425) -/

/-- The writable registers of a port's window, as bytes. -/
def State.windowBytes (s : State) (p : Nat) : Bytes := wordsBytes ((rangeFrom 0 71).map (fun i => s.win p (0xA000 + 4 * i)))
/-- The ports present, ascending. -/
def State.presentPorts (s : State) : List Nat := (rangeFrom 0 1345).filter s.portPresent
def State.tmTblBytes (s : State) : Bytes :=
  s.presentPorts.flatMap s.windowBytes ++ s.bytes (tsnStoreA 0 0) 0x200000 ++ s.bytes (tsnStoreA 1 0) 0x100000 ++
    s.bytes (tsnStoreA 2 0) 0x100000 ++ s.bytes (tsnStoreA 3 0) 0x100000 ++ wordsBytes ((rangeFrom 0 16).map s.mirCfg)
def execTmTblPass (s : State) : Outcome := .next (if s.live then setReg pTM 0x8004 (crc32c s.tmTblBytes) s else s)

/-! ### The TSN pages (R412, R420, R426) -/

/-- Bytes of a TSN store. -/
def tsnSize (u : Nat) : Nat := if u = 0 ∨ u = 4 then 0x200000 else 0x100000
def State.tsnAddr (s : State) (u off : Nat) : Nat := s.rfld (pTSN u) 0x8100 8 0 * 8192 + (off - 0xC000)
/-- A target of a stream entry names an absent port. -/
def State.targetAbsent (s : State) (e : Nat) : Bool :=
  natFld e 22 22 == 1 && (rangeFrom 0 4).any (fun j =>
    let p := natFld e (72 + 14 * j + 10) (72 + 14 * j)
    p != 0x7FF && !s.portPresent p)
/-- The code of such an entry: ABSENT, or BAD_ARG where its numbers name no port (R10). -/
def State.targetCode (s : State) (e : Nat) : Status :=
  if (rangeFrom 0 4).any (fun j =>
    let p := natFld e (72 + 14 * j + 10) (72 + 14 * j)
    egressRange p && !s.portPresent p) then .absent else .badArg
/-- A dword written to a TSN store; an entry written starts afresh (R426). -/
def tsnStoreWrite (u off : Nat) (v : Word) (s : State) : WRes :=
  let a := s.tsnAddr u off
  if s.locked pTM then .refuse .locked
  else if tsnSize u < a + 4 then .ok s
  else
    let h := a / 16
    let s' := putNum (tsnStoreA u a) 4 v.toNat s
    if u = 1 ∧ s'.targetAbsent (s'.tsnEntry 1 h) then .refuse (s'.targetCode (s'.tsnEntry 1 h))
    else .ok (match u with
      | 1 => updStream h (fun x => { x with genSeq := 0 }) s'
      | 2 => updStream h (fun x => { x with live := false }) s'
      | 3 => updStream h (fun x => { x with recUsed := false, recSeq := 0, hist := [] }) s'
      | _ => s')
/-- A write of MIR_CFG (R412). -/
def mirWrite (off : Nat) (v mask : Word) (s : State) : WRes :=
  if bit v 31 && !s.portPresent (fld v 10 0) then .refuse (if egressRange (fld v 10 0) then .absent else .badArg)
  else storeIf (fld v 27 16 == 0 || (decide (64 ≤ fld v 27 16) && decide (fld v 27 16 ≤ 2048))) (pTSN 6) off mask v s
def tsPopGo (piste : Nat) : State → WRes :=
  popWrite (fun s => (s.piste piste).tsRecs.recs.isEmpty)
    (updPiste piste (fun x => { x with tsRecs := { x.tsRecs with recs := x.tsRecs.recs.drop 1 } }))
def tsnWrite (u : Nat) (_ : Requester) (off : Nat) (v mask : Word) (s : State) : WRes :=
  if u < 4 ∧ 0xC000 ≤ off then tsnStoreWrite u off v s
  else if u = 5 ∧ (off = 0x8204 ∨ off = 0x8208) then .ok (setRegK (tmKey (s.rfld (pTSN 5) 0x8200 10 0) off) (v &&& mask) s)
  else if u = 5 ∧ 0x9010 ≤ off then tsPopGo ((off - 0x9010) / 0x40) s
  else if u = 6 ∧ 0x100 ≤ off ∧ off < 0x140 then mirWrite off v mask s
  else .ok (store (pTSN u) off mask v s)
def tsnRead (u : Nat) (s : State) (off : Nat) : Option Word :=
  if u < 5 ∧ 0xC000 ≤ off then
    let a := s.tsnAddr u off
    some (if tsnSize u < a + 4 then 0 else w32 (s.num (tsnStoreA u a) 4))
  else if u = 5 ∧ (off = 0x8204 ∨ off = 0x8208) then some (s.regK (tmKey (s.rfld (pTSN 5) 0x8200 10 0) off))
  else if u = 5 ∧ 0x9000 ≤ off then
    let p := (off - 0x9000) / 0x40
    let o := off % 0x40
    let q := (s.piste p).tsRecs.recs
    if o < 16 then some (match q with
      | r :: _ => w32 (leNat (slice r.bytes o 4))
      | [] => 0)
    else if o = 0x14 then some (w32 q.length) else none
  else none
def execStreamEntryWrite (req : Requester) (page : Page) (off : Off) (value : Word) (s : State) : Outcome :=
  let u := page.toNat - 0x049
  .next (if 0x04A ≤ page.toNat ∧ page.toNat ≤ 0x04C ∧ 0xC000 ≤ off.toNat ∧ off.toNat < 0xE000 ∧ off.toNat % 4 = 0 then
      regRow req page.toNat off.toNat (tsnStoreWrite u off.toNat value) s
    else s)
def execTsPop (req : Requester) (piste : BitVec 2) (s : State) : Outcome :=
  .next (regRow req (pTSN 5) (0x9010 + piste.toNat * 0x40) (tsPopGo piste.toNat) s)

/-- Soft reset of a TSN page: its store is cleared, and what its entries hold (R49). -/
def tsnSoftReset (u : Nat) (s : State) : State :=
  let s := if u < 5 then clearMem (tsnStoreA u 0) (tsnSize u) s else s
  let all (f : StreamState → StreamState) (s : State) : State := { s with streams := s.streams.map (fun e => (e.1, f e.2)) }
  match u with
  | 1 => all (fun x => { x with genSeq := 0 }) s
  | 2 => all (fun x => { x with live := false }) s
  | 3 => all (fun x => { x with recUsed := false, recSeq := 0, hist := [] }) s
  | _ => s

end Sys2Proof.Machine
end

