-- ==== Sys2Proof/Machine/Links.lean ====
section
/-! DEFINITION. Links: what a port that leaves UP gives up, negotiation, lane configuration, the Field Multiplex, and the FLG, TRG
and MGP pages (R92-R115, R401). -/
namespace Sys2Proof.Machine
open Sys2Proof

/-! ### Leaving UP (R103, R110, R113, R401) -/

/-- Packets of the port still arriving end as aborted; a frame in FMX slots is dropped. -/
def abortRx (p : Nat) (s : State) : State :=
  let open_ := s.pkts.filterMap (fun e => match e.2 with
    | some k => if k.port.toNat = p ∧ k.tail = false then some e.1 else none
    | none => none)
  let s := open_.foldl (fun s n => fcsCheck n true s) s
  if (s.port p).rx.isSome then stat p 0x38 (updPort p (fun x => { x with rx := none }) s) else s
/-- Frames in transmission are cut short: ABORT in the sub-port's next slot, an inverted FCS elsewhere. -/
def abortTx (p : Nat) (s : State) : State :=
  let x := s.port p
  let cut (s : State) (t : TxNow) : State :=
    let s := stat p 0x58 (freeCopy t.copy s)
    if s.isFmxPort p then updFmx (p / 8) (fun l => { l with abortDue := setBit l.abortDue (p % 8) true }) s
    else emit (.abort (BitVec.ofNat 11 p)) s
  (x.tx.toList ++ x.held.toList).foldl cut (updPort p (fun x => { x with tx := none, held := none }) s)
/-- Queued frames are drained to drop (R28). -/
def drainQueues (p : Nat) (s : State) : State :=
  (rangeFrom 0 8).foldl (fun s q =>
    ((s.port p).queue q).foldl (fun s c => dropCopy p (0xA20C + q * 0x20) c s) (setQueue p q [] s)) s
/-- The state in which a lane comes up: negotiating, training, or waiting for its signal. -/
def startState (an lt : Bool) : BitVec 3 := if an then 2 else if lt then 3 else 1
/-- The state in which a port's own link starts anew under its settings (R93, R109, R111). -/
def State.startOf (s : State) (p : Nat) : BitVec 3 :=
  if p < 1024 then startState (bit (s.flCfg (p / 8)) 8) (bit (s.flCfg (p / 8)) 9)
  else if p < 1056 then
    let c := s.reg (portPage p) (0x100 + (p - 1024) % 4 * 0x40)
    startState (bit c 8) (bit c 9)
  else startState (bit (s.reg pMGP 0x100) (8 + (p - 1056))) false
/-- A port has left UP; a link that was cut from this end starts anew when it may run again. -/
def linkFell (p : Nat) (s : State) : State :=
  let s := drainQueues p (abortTx p (abortRx p (stat p 0x68 (settleCredits p s))))
  updPort p (fun x => { x with verified := false, state := if x.state = 4 then s.startOf p else x.state }) s
/-- Line and management ports that may be UP: those with a state of their own, and the sub-ports of FMX lanes. -/
def State.upPorts (s : State) : List Nat :=
  let own := (s.ports.map (fun e => e.1)).filter (fun p => isLine p && !s.isFmxPort p)
  let subs := s.fmx.flatMap (fun e => rangeFrom (e.1 * 8) 8)
  (own ++ subs.filter s.isFmxPort).filter s.portUp
/-- The lane's transmitter runs FMX (R98, R112). -/
def State.fmxRuns (s : State) (lane : Nat) : Bool :=
  decide (lane < Config.fieldLanes s.part) && s.isFmxLane lane && bit (s.reg (pFLG (lane / 8)) 0x10) 0 &&
    !s.lost (s.portPiste (lane * 8)) && linkMode s.modeNow (lane * 8)
/-- Lanes that run FMX no more hold no marker lock. -/
def unlockIdle (s : State) : State :=
  { s with fmx := s.fmx.map (fun e =>
      if e.2.lock && !s.fmxRuns e.1 then (e.1, { e.2 with lock := false, good := 0, bad := 0, lastRound := none }) else e) }
/-- A change of the state with its consequence for links: every port that was UP and is so no more falls. -/
def withLinks (f : State → State) (s : State) : State :=
  let up := s.upPorts
  let s := unlockIdle (f s)
  (up.filter (fun p => !s.portUp p)).foldl (fun s p => linkFell p s) s
/-- The same for a register's own rules. -/
def WRes.links (s : State) : WRes → WRes
  | .refuse st => .refuse st
  | .ok s' => .ok (withLinks (fun _ => s') s)

/-! ### LINK_UP, LINK_DOWN, AN_FAIL (R93, R103, R110, R111) -/

/-- The port's own link may run: present, enabled, with its reference, its piste not lost, in a mode that runs links. -/
def State.linkRuns (s : State) (p : Nat) : Bool :=
  isLine p && s.portPresent p && s.portEnabled p && s.refUp p && !s.lost (s.portPiste p) && linkMode s.modeNow p
/-- The lane loses marker lock (R103). -/
def loseLock (lane : Nat) (s : State) : State :=
  if (s.fmxLane lane).lock then
    withLinks (fun s => bump (pFLG (lane / 8)) (0x800C + lane % 8 * 0x40)
      (updFmx lane (fun l => { l with lock := false, good := 0, bad := 0 }) s)) s
  else s
/-- A port enters UP; the sub-ports of an FMX lane are UP by their markers (R104). -/
def execLinkUp (port : Port) (s : State) : Outcome :=
  let p := port.toNat
  .next (if s.live && s.linkRuns p && !s.isFmxPort p then updPort p (fun x => { x with state := 4 }) s else s)
/-- A port leaves UP, or passes between states short of it; on an FMX lane block lock is lost, and marker lock with it. -/
def execLinkDown (port : Port) (state : BitVec 3) (s : State) : Outcome :=
  let p := port.toNat
  .next (
    if !s.live || !s.linkRuns p || state = 0 || state = 4 || state = 7 then s
    else if s.isFmxPort p then loseLock (p / 8) s
    else withLinks (updPort p (fun x => { x with state := state })) s)
/-- The port that a lane belongs to, none where it forms none. -/
def State.lanePort (s : State) (lane : Nat) : Option Nat :=
  if lane < 128 then (if fld (s.flCfg lane) 2 0 = 0 then none else some (lane * 8))
  else if lane < 160 then
    let g := (lane - 128) / 4
    ((trunkPorts (s.reg (pTRG g) 0x200)).find? (fun e => decide (e.1 ≤ (lane - 128) % 4) && decide ((lane - 128) % 4 < e.1 + e.2))).map
      (fun e => 1024 + g * 4 + e.1)
  else if lane < 162 then some (1056 + (lane - 160)) else none
/-- Clause 73 or Clause 37 negotiation is on for the lane. -/
def State.laneAn (s : State) (lane : Nat) : Bool :=
  if lane < 128 then bit (s.flCfg lane) 8
  else if lane < 160 then bit (s.reg (pTRG ((lane - 128) / 4)) (0x100 + (lane - 128) % 4 * 0x40)) 8
  else bit (s.reg pMGP 0x100) (8 + (lane - 160))
/-- A negotiation fails: counted, and the lane stays NEGOTIATING; management ports have no counter of it. -/
def execAnFail (lane : Lane) (s : State) : Outcome :=
  let l := lane.toNat
  .next (match s.live, s.lanePort l with
  | true, some p =>
    if !s.linkRuns p || !s.laneAn l then s
    else
      let s := if l < 128 then bump (pFLG (l / 8)) (0x8014 + l % 8 * 0x40) s
        else if l < 160 then bump (pTRG ((l - 128) / 4)) (0x8014 + (l - 128) % 4 * 0x40) s else s
      withLinks (updPort p (fun x => { x with state := 2 })) s
  | _, _ => s)

/-! ### Lane configuration (R94, R95, R97, R104, R113, R114) -/

/-- A field lane starts anew under its settings. -/
def restartField (lane : Nat) (s : State) : State :=
  let c := s.flCfg lane
  let s := { s with fmx := sset s.fmx lane { FmxLane.reset with ownRound := (s.fmxLane lane).ownRound, abortDue := (s.fmxLane lane).abortDue } }
  (rangeFrom (lane * 8) 8).foldl (fun s p => updPort p (fun x => { x with state := startState (bit c 8) (bit c 9) }) s) s
/-- The lane takes a write that restarts it: what was in progress on it ends first. -/
def restartLinks (ports : List Nat) (write start : State → State) (s : State) : State :=
  let s := ports.foldl (fun s p => abortTx p (abortRx p (settleCredits p s))) s
  withLinks (fun s => start (write s)) s
def flLaneWrite (lane off : Nat) (v mask : Word) (s : State) : WRes :=
  let pg := pFLG (lane / 8)
  let m := fld v 2 0
  let f := fld v 5 4
  let max := s.rfld pg (0x108 + lane % 8 * 0x40) 13 0
  if 4 ≤ m ∨ f = 3 ∨ (f = 2 ∧ m = 1) ∨ ((bit v 8 || bit v 9) ∧ m = 3) ∨ (m = 3 ∧ 2048 < max) ∨ fld v 13 12 = 3 then .refuse .badArg
  else if (v ^^^ s.reg pg off) &&& 0x337 = 0 then .ok (store pg off mask v s)
  else .ok (restartLinks (rangeFrom (lane * 8) 8) (store pg off mask v) (restartField lane) s)
def flFmxWrite (lane off : Nat) (v mask : Word) (s : State) : WRes :=
  let pg := pFLG (lane / 8)
  let d := v ^^^ s.reg pg off
  let hit := BitVec.ofNat 8 ((d ||| (d >>> 8)).toNat % 256)
  if !s.isFmxLane lane || hit = 0 then .ok (store pg off mask v s)
  else
    let cfg := v &&& mask
    .ok (withLinks (fun s =>
      let l := s.fmxLane lane
      let bad := BitVec.ofNat 8 cfg.toNat &&& (l.rate ^^^ BitVec.ofNat 8 (cfg.toNat / 256))
      let bad := if l.lock then bad else 0
      let fresh := (rangeFrom 0 8).filter (fun k => bit bad k && !bit l.mismatch k)
      bumpBy pg (0x8010 + lane % 8 * 0x40) fresh.length
        (updFmx lane (fun l => { l with settle := l.settle ||| hit, mismatch := bad }) (store pg off mask v s))) s)
def maxFrameWrite (page off : Nat) (limit : Nat) (v mask : Word) (s : State) : WRes :=
  storeIf (decide (64 ≤ fld v 13 0) && decide (fld v 13 0 ≤ limit)) page off mask v s
def txEqWrite (page off : Nat) (v mask : Word) (s : State) : WRes :=
  storeIf (decide (fld v 5 0 + fld v 13 8 + fld v 21 16 ≤ 63)) page off mask v s
def flgWrite (g : Nat) (_ : Requester) (off : Nat) (v mask : Word) (s : State) : WRes :=
  let lane := g * 8 + (off - 0x100) / 0x40
  if 0x100 ≤ off ∧ off < 0x300 then
    match off % 0x40 with
    | 0 => flLaneWrite lane off v mask s
    | 4 => flFmxWrite lane off v mask s
    | 8 => maxFrameWrite (pFLG g) off (if s.isFmxLane lane then 2048 else 9216) v mask s
    | _ => txEqWrite (pFLG g) off v mask s
  else .ok (store (pFLG g) off mask v s)
/-- Ports of a trunk group, and their lanes. -/
def restartTrunk (g : Nat) (lanes : List Nat) (s : State) : State :=
  lanes.foldl (fun s n =>
    let c := s.reg (pTRG g) (0x100 + n * 0x40)
    updPort (1024 + g * 4 + n) (fun x => { x with state := startState (bit c 8) (bit c 9) }) s) s
/-- The lanes of the port that a lane of the group belongs to. -/
def State.portLanes (s : State) (g n : Nat) : List Nat :=
  match (trunkPorts (s.reg (pTRG g) 0x200)).find? (fun e => decide (e.1 ≤ n) && decide (n < e.1 + e.2)) with
  | some e => rangeFrom e.1 e.2
  | none => [n]
def trLaneWrite (g n : Nat) (v mask : Word) (s : State) : WRes :=
  let pg := pTRG g
  if fld v 13 12 = 3 then .refuse .badArg
  else if s.reg pg (0x100 + n * 0x40) = v &&& mask then .ok s
  else
    let ls := s.portLanes g n
    .ok (restartLinks (ls.map (fun l => 1024 + g * 4 + l)) (fun s => ls.foldl (fun s l => store pg (0x100 + l * 0x40) mask v s) s)
      (restartTrunk g ls) s)
def trGroupWrite (g : Nat) (v mask : Word) (s : State) : WRes :=
  let pg := pTRG g
  if bit v 2 ∧ fld v 1 0 ≠ 0 then .refuse .badArg
  else if s.reg pg 0x200 = v &&& mask then .ok s
  else
    let write (s : State) : State :=
      (trunkPorts (v &&& mask)).foldl (fun s e =>
        (rangeFrom e.1 e.2).foldl (fun s l => setReg pg (0x100 + l * 0x40) (s.reg pg (0x100 + e.1 * 0x40)) s) s)
        (store pg 0x200 mask v s)
    .ok (restartLinks (rangeFrom (1024 + g * 4) 4) write (restartTrunk g (rangeFrom 0 4)) s)
def trgWrite (g : Nat) (_ : Requester) (off : Nat) (v mask : Word) (s : State) : WRes :=
  if off = 0x200 then trGroupWrite g v mask s
  else if 0x210 ≤ off ∧ off < 0x220 then maxFrameWrite (pTRG g) off 9216 v mask s
  else if 0x100 ≤ off ∧ off < 0x200 then
    (if off % 0x40 = 0 then trLaneWrite g ((off - 0x100) / 0x40) v mask s else txEqWrite (pTRG g) off v mask s)
  else .ok (store (pTRG g) off mask v s)
def mgpCfgWrite (v mask : Word) (s : State) : WRes :=
  let n := Config.pistes s.part
  if n ≤ fld v 1 0 ∨ n ≤ fld v 3 2 then .refuse .absent
  else
    let d := v ^^^ s.reg pMGP 0x100
    let start (s : State) : State := (rangeFrom 0 2).foldl (fun s i =>
      if bit d (16 + i) then updPort (1056 + i) (fun x => { x with state := startState (bit v (8 + i)) false }) s else s) s
    .ok (restartLinks (((rangeFrom 0 2).filter (fun i => bit d (16 + i))).map (1056 + ·)) (store pMGP 0x100 mask v) start s)
def mgpWrite (_ : Requester) (off : Nat) (v mask : Word) (s : State) : WRes :=
  if off = 0x100 then mgpCfgWrite v mask s
  else if off = 0x104 then maxFrameWrite pMGP off 9216 v mask s
  else .ok (store pMGP off mask v s)

def execFlLaneCfgWrite (req : Requester) (lane : BitVec 7) (value : Word) (s : State) : Outcome :=
  let l := lane.toNat
  .next (regRow req (pFLG (l / 8)) (0x100 + l % 8 * 0x40) (flLaneWrite l (0x100 + l % 8 * 0x40) value 0x3337) s)
def execFlFmxCfgWrite (req : Requester) (lane : BitVec 7) (value : Word) (s : State) : Outcome :=
  let l := lane.toNat
  .next (regRow req (pFLG (l / 8)) (0x104 + l % 8 * 0x40) (flFmxWrite l (0x104 + l % 8 * 0x40) value 0xFFFF) s)
def execTrLaneCfgWrite (req : Requester) (lane : BitVec 5) (value : Word) (s : State) : Outcome :=
  let l := lane.toNat
  .next (regRow req (pTRG (l / 4)) (0x100 + l % 4 * 0x40) (trLaneWrite (l / 4) (l % 4) value 0x3301) s)
def execTrGroupCfgWrite (req : Requester) (group : BitVec 3) (value : Word) (s : State) : Outcome :=
  .next (regRow req (pTRG group.toNat) 0x200 (trGroupWrite group.toNat value 7) s)
def execMgpCfgWrite (req : Requester) (value : Word) (s : State) : Outcome :=
  .next (regRow req pMGP 0x100 (mgpCfgWrite value 0x3030F) s)

/-! ### The Field Multiplex (R98-R105) -/

/-- CRC-8, polynomial 0x07, initial value 0, not reflected (R100). -/
def crc8Bits : Nat → Nat → Nat
  | 0, c => c
  | n + 1, c => crc8Bits n (if 128 ≤ c then ((c * 2) % 256) ^^^ 7 else c * 2)
def crc8 (b : Bytes) : Nat := b.foldl (fun c x => crc8Bits 8 (c ^^^ x.toNat)) 0
/-- A block of eight bytes, byte 0 least significant. -/
def blockOf (b : Bytes) : W64 := w64 (leNat (slice b 0 8))
/-- The block types of END_0 to END_7 (R99). -/
def endTypes : List Byte := [0x87, 0x99, 0xAA, 0xB4, 0xCC, 0xD2, 0xE1, 0xFF]
/-- Block `i` of a frame, with its sync header (R101). -/
def fmxBlock (b : Bytes) (i : Nat) : BitVec 2 × W64 :=
  let n := (b.length - 7) / 8
  let k := (b.length - 7) % 8
  if i = 0 then (2, blockOf (0x78 :: b.take 7))
  else if i ≤ n then (1, blockOf ((b.drop (7 + 8 * (i - 1))).take 8))
  else (2, blockOf (endTypes.getD k 0x87 :: b.drop (7 + 8 * n)))
/-- What a data slot of a sub-port carries: ABORT, the next block of its frame, or IDLE. -/
def fmxSlot (lane : Nat) (s : State) (i : Nat) : State :=
  let k := (i - 1) % 8
  let p := lane * 8 + k
  let out (sync : BitVec 2) (d : W64) (s : State) : State := emit (.block (BitVec.ofNat 7 lane) i sync d) s
  if bit (s.fmxLane lane).abortDue k then
    out 2 0x4B (updFmx lane (fun l => { l with abortDue := setBit l.abortDue k false }) s)
  else match (s.port p).tx with
  | some t =>
    if t.sent < fmxBlocks t.data then
      let d := if t.bad || s.copyCheck t.copy == some false then stomp t.data else t.data
      let (sync, w) := fmxBlock d t.sent
      out sync w (updPort p (fun x => { x with tx := some { t with sent := t.sent + 1 } }) s)
    else out 2 0x1E s
  | none => out 2 0x1E s
/-- The device's marker (R100). -/
def State.marker (s : State) (lane : Nat) : Bytes :=
  let l := s.fmxLane lane
  let c := s.flFmx lane
  let b := [0x2D, l.ownRound, 0, BitVec.ofNat 8 c.toNat, BitVec.ofNat 8 (c.toNat / 256), BitVec.ofNat 8 (0x10 + b2n (!l.lock) * 0x80), 0]
  b ++ [BitVec.ofNat 8 (crc8 b)]
/-- One round: the marker block and the 80 slots (R98). -/
def execFmxRoundTx (lane : BitVec 7) (s : State) : Outcome :=
  let l := lane.toNat
  .next (
    if !s.live || !s.fmxRuns l then s
    else
      let held := (rangeFrom 0 8).filter (fun k => bit (s.fmxLane l).hold k)
      let s := held.foldl (fun s k => stat (l * 8 + k) 0x60 s) s
      let s := emit (.block lane 0 2 (blockOf (s.marker l))) s
      let s := (rangeFrom 1 80).foldl (fmxSlot l) s
      updFmx l (fun x => { x with ownRound := x.ownRound + 1, settled := x.settle, settle := 0 }) s)
/-- A good marker: its fields taken, lock after four in a row (R100, R103, R104). -/
def markerGood (l : Nat) (b : Bytes) (s : State) : State :=
  let byte (i : Nat) : Byte := b.getD i 0
  let pg := pFLG (l / 8)
  let gap := match (s.fmxLane l).lastRound with
    | some r => byte 1 != r + 1
    | none => false
  let s := if gap then bump pg (0x8008 + l % 8 * 0x40) s else s
  withLinks (fun s =>
    let x := s.fmxLane l
    let c := s.flFmx l
    let bad := BitVec.ofNat 8 c.toNat &&& (byte 4 ^^^ BitVec.ofNat 8 (c.toNat / 256))
    let fresh := (rangeFrom 0 8).filter (fun k => bit bad k && !bit x.mismatch k)
    bumpBy pg (0x8010 + l % 8 * 0x40) fresh.length
      (updFmx l (fun x =>
        { x with hold := byte 2, link := byte 3, rate := byte 4, remoteFault := bit (byte 5) 7, lastRound := some (byte 1)
                 mismatch := bad, bad := 0, good := min 4 (x.good + 1), lock := x.lock || decide (4 ≤ x.good + 1) }) s)) s
/-- A bad or missing marker: three in a row lose the lock (R103). -/
def markerBad (l : Nat) (s : State) : State :=
  let s := bump (pFLG (l / 8)) (0x8008 + l % 8 * 0x40) s
  let s := updFmx l (fun x => { x with good := 0, bad := min 3 (x.bad + 1) }) s
  if 3 ≤ (s.fmxLane l).bad then loseLock l s else s
def execFmxMarkerRx (lane : BitVec 7) (block : W64) (s : State) : Outcome :=
  let l := lane.toNat
  let b := leBytes 8 block.toNat
  .next (
    if !s.live || !s.fmxRuns l then s
    else if b.headD 0 = 0x2D ∧ crc8 (b.take 7) = (b.getD 7 0).toNat then markerGood l b s else markerBad l s)
/-- The frame in progress on a sub-port ends as bad. -/
def fmxAbort (p : Nat) (s : State) : State :=
  if (s.port p).rx.isSome then stat p 0x38 (updPort p (fun x => { x with rx := none }) s) else s
/-- A whole frame received on a sub-port: the ingress writer's work and the check at once. -/
def fmxFrame (p : Nat) (b : Bytes) (s : State) : State :=
  if s.noTraffic then notAdmitted p b s
  else
    let n := s.nextPkt
    let s := arrive p (s.portPiste p) b s
    if n < s.nextPkt then fcsCheck n false s else s
/-- A slot block of a sub-port that is UP (R101, R102). -/
def fmxRx (p : Nat) (sync : BitVec 2) (b : Bytes) (s : State) : State :=
  let t := b.headD 0
  let put (f : Option Bytes) (s : State) : State := updPort p (fun x => { x with rx := f }) s
  match (s.port p).rx with
  | some f =>
    if sync = 1 then put (some (f ++ b)) s
    else if sync = 2 ∧ t = 0x78 then put (some (b.drop 1)) (fmxAbort p s)
    else if sync = 2 ∧ endTypes.contains t then
      fmxFrame p (f ++ (b.drop 1).take ((endTypes.findIdx? (· == t)).getD 0)) (put none s)
    else fmxAbort p s
  | none =>
    if sync = 1 then stat p 0x38 s
    else if sync = 2 ∧ t = 0x78 then put (some (b.drop 1)) s
    else if sync = 2 ∧ endTypes.contains t then stat p 0x38 s
    else s
def execFmxSlotBlockRx (lane : BitVec 7) (sub : BitVec 3) (sync : BitVec 2) (block : W64) (s : State) : Outcome :=
  let p := lane.toNat * 8 + sub.toNat
  .next (if s.live && s.fmxRuns lane.toNat && s.portUp p then fmxRx p sync (leBytes 8 block.toNat) s else s)

/-! ### Status (R96, R110, R114, R115) -/

/-- Bits 8 to 11 of a lane status: locks in UP and REMOTE_FAULT; in LOCAL_FAULT which of them fails is left open. -/
def State.laneLocks (s : State) (st : Nat) (fec third : Bool) : Nat :=
  if st = 4 ∨ st = 6 then 0x100 + b2n fec * 0x200 + b2n third * 0x400
  else if st = 5 then (Config.value s.free).toNat / 256 % 16 * 256 &&& (0x900 + b2n fec * 0x200 + b2n third * 0x400) else 0
/-- State of a field lane: its marker lock on an FMX lane, its port's otherwise. -/
def State.fieldLane (s : State) (lane : Nat) : Nat :=
  let p := lane * 8
  if fld (s.flCfg lane) 2 0 = 0 ∨ bit (s.reg (pFLG (lane / 8)) 0x10) 0 = false then 0
  else if !s.isFmxLane lane then s.portState p
  else if s.lost (s.portPiste p) || !linkMode s.modeNow p then 7
  else
    let x := s.fmxLane lane
    if !s.refUp p then 1 else if x.remoteFault then 6 else if x.lock then 4 else 1
def State.flStatus (s : State) (lane : Nat) : Word :=
  let st := s.fieldLane lane
  let up := (rangeFrom 0 8).foldl (fun w k => w + b2n (s.portUp (lane * 8 + k)) * 2 ^ k) 0
  let fmx := s.isFmxLane lane
  w32 (st + s.laneLocks st (fld (s.flCfg lane) 5 4 != 0) false +
    (if fmx then b2n (s.fmxLane lane).lock * 0x400 + up * 0x10000 else 0))
def State.trStatus (s : State) (g n : Nat) : Word :=
  let p := match s.lanePort (128 + g * 4 + n) with
    | some p => p
    | none => 1024 + g * 4 + n
  let st := s.portState p
  w32 (st + s.laneLocks st true true)
/-- A dword of a statistics slot that is not a plain counter: zero for an absent port, and PORT_STATE. -/
def slotRead (s : State) (p o : Nat) : Option Word :=
  if !s.portPresent p then some 0
  else if o = 0x78 then some (w32 (s.portState p + b2n (s.isFmxPort p && bit (s.flFmx (p / 8)) (8 + p % 8)) * 8))
  else none
def flgRead (g : Nat) (s : State) (off : Nat) : Option Word :=
  if 0x8000 ≤ off ∧ off < 0x8200 ∧ off % 0x40 = 0 then some (s.flStatus (g * 8 + (off - 0x8000) / 0x40))
  else if 0xA000 ≤ off ∧ off < 0xC000 then slotRead s (g * 64 + (off - 0xA000) / 0x80) (off % 0x80)
  else none
def trgRead (g : Nat) (s : State) (off : Nat) : Option Word :=
  if 0x8000 ≤ off ∧ off < 0x8100 ∧ off % 0x40 = 0 then some (s.trStatus g ((off - 0x8000) / 0x40))
  else if 0xA000 ≤ off ∧ off < 0xA200 then slotRead s (1024 + g * 4 + (off - 0xA000) / 0x80) (off % 0x80)
  else none
def mgpRead (s : State) (off : Nat) : Option Word :=
  if 0xA000 ≤ off ∧ off < 0xA100 then slotRead s (1056 + (off - 0xA000) / 0x80) (off % 0x80) else none

/-- Soft reset of a FLG, TRG or MGP page: its lanes start anew (R49). -/
def portSoftReset (k : PageKind) (s : State) : State :=
  match k with
  | .flg g => (rangeFrom (g * 8) 8).foldl (fun s l => restartField l s) s
  | .trg g => restartTrunk g (rangeFrom 0 4) s
  | .mgp => (rangeFrom 1056 2).foldl (fun s p => updPort p (fun x => { x with state := 2 }) s) s
  | _ => s

end Sys2Proof.Machine
end

