-- ==== Sys2Proof/Machine/Mode.lean ====
section
/-! DEFINITION. Causes of mode transitions: the loss of a piste, faults whose reaction is the safe state, tamper events, and
MODE_REQ requests and restarts (R63-R72, R343, R364, R466, R471). The transition itself stands in Transition.lean. -/
namespace Sys2Proof.Machine
open Sys2Proof

/-! ### Watchdogs (R466) -/

/-- Watchdogs 0 to 3 belong to the pistes, 4 and 5 to the Telemark pairs. -/
def Watchdog.off : Watchdog := { armed := false, first := false, expected := 0, since := 0 }
def State.wd (s : State) (n : Nat) : Watchdog := sget .off s.safety.wds n
def updSafety (f : SafetyState → SafetyState) (s : State) : State := { s with safety := f s.safety }
def setWd (n : Nat) (w : Watchdog) (s : State) : State := updSafety (fun u => { u with wds := sset u.wds n w }) s
/-- The watchdog exists and its piste is not lost. -/
def State.wdUp (s : State) (n : Nat) : Bool := if n < 4 then s.pisteUp n else decide (n < 6)
/-- SAFE_WD_CFG.EN of a watchdog. -/
def State.wdEn (s : State) (n : Nat) : Bool := bit (s.reg pSAFE 0x108) (24 + n)
/-- Armed, waiting for its first kick; a watchdog that is armed keeps its schedule. -/
def armWd (n : Nat) (s : State) : State :=
  if (s.wd n).armed then s else setWd n { armed := true, first := true, expected := 0xA55A, since := s.time.ticks } s
/-- What an entry to a mode does to the watchdogs. -/
def watchdogsAt (m : Mode) (s : State) : State :=
  (rangeFrom 0 6).foldl (fun s n =>
    match m with
    | .safeOperate | .degraded => if s.wdUp n then armWd n s else setWd n .off s
    | .commission | .operate | .maintenance => if s.wdEn n && s.wdUp n then armWd n s else setWd n .off s
    | _ => setWd n .off s) s

/-! ### Transitions begun and ended (R65, R66) -/

def updMode (f : ModeState → ModeState) (s : State) : State := { s with mode := f s.mode }
/-- The request in progress, if any, completes with STATE_REFUSED (R66). -/
def endRequest (s : State) : State :=
  match s.mode.trans with
  | some { target := m, req := some r, .. } =>
    cmdDone pMODE 0x8108 .stateRefused (stateRefused r pMODE 0x8104 (m == .safeOperate) s)
  | _ => s
/-- A transition is begun; one in progress is ended. -/
def beginTrans (target : Mode) (cause : Nat) (req : Option Requester) (s : State) : State :=
  updMode (fun m => { m with trans := some { target := target, cause := BitVec.ofNat 8 cause, req := req } }) (endRequest s)
/-- The transition in progress is one that the device caused. -/
def State.deviceTrans (s : State) : Bool :=
  match s.mode.trans with
  | some t => t.req.isNone
  | none => false
def State.transTarget (s : State) : Option Mode := s.mode.trans.map (·.target)
/-- Modes 4 to 8 and 10, which lead to SAFE-STATE on a request or a fault (R64). -/
def safeable : Mode → Bool
  | .configure | .commission | .operate | .safeOperate | .degraded | .maintenance => true
  | _ => false
/-- A device cause of SAFE-STATE: taken at once unless the device goes to ZEROIZE, or to SAFE-STATE on its own already. -/
def safeCause (cause : Nat) (s : State) : State :=
  if !safeable s.modeNow || s.transTarget == some .zeroize || (s.deviceTrans && s.transTarget == some .safeState) then s
  else beginTrans .safeState cause none s
/-- A cause of ZEROIZE: taken at once in modes 2 to 10 (R64, R494). -/
def zeroCause (cause : Nat) (s : State) : State :=
  match s.modeNow with
  | .off | .reset | .zeroize => s
  | _ => if s.transTarget == some .zeroize then s else beginTrans .zeroize cause none s

/-! ### The loss of a piste (R67, R79, R343, R364) -/

/-- Some piste pair of the part is whole. -/
def State.someWhole (s : State) : Bool :=
  (rangeFrom 0 (Config.pistes s.part / 2)).any (fun k => !s.lost (2 * k) && !s.lost (2 * k + 1))
/-- The mode that a piste loss leads to from a mode; none: it stays (R67). -/
def lossTarget (s : State) : Mode → Option Mode
  | .operate => some .degraded
  | .safeOperate => some (if s.someWhole then .degraded else .safeState)
  | .degraded => some .safeState
  | _ => none
/-- The mode consequence of one loss (R65, R67): SAFE-STATE at once, DEGRADED after the transition in progress. -/
def lossCause (s : State) : State :=
  match lossTarget s s.modeNow with
  | some .safeState => safeCause 0x09 s
  | some m => if s.mode.trans.isSome then updMode (fun x => { x with lossDue := x.lossDue + 1 }) s else beginTrans m 0x09 none s
  | none => if s.mode.trans.isSome then updMode (fun x => { x with lossDue := x.lossDue + 1 }) s else s
/-- Packets that the piste's dispatcher and Gate hold are discarded; their cells stay allocated (R343). -/
def discardPackets (p : Nat) (s : State) : State :=
  let mine := s.pkts.filterMap (fun e => match e.2 with
    | some k =>
      if k.tgt.toNat = p ∧ (k.st = .offered ∨ k.st = .listed ∨ k.st = .spilled ∨ k.st = .bound ∨ k.st = .committed) then
        some e.1 else none
    | none => none)
  mine.foldl (fun s n => updPkt n (fun k => { k with st := .gone, cells := [] }) (leaveBank n s)) s
/-- The piste's threads hold no item any more, and their semaphore units are ORPHANED (R364). -/
def orphanPiste (p : Nat) (s : State) : State :=
  (s.threads.filter (fun e => !isTel e.1 && tPiste e.1 == p)).foldl (fun s e =>
    updThr e.1 (fun th => { th with item := none }) (orphanThread e.1 s)) s
/-- The piste is lost: everything of it but the mode. -/
def dropPiste (p : Nat) (s : State) : State :=
  let s := withLinks (updMode (fun m => { m with lost := setBit m.lost p true })) s
  let s := setWd p .off (losePisteGraphs p s)
  let s := discardPackets p (orphanPiste p s)
  updPiste p (fun q => { q with lists := [], spill := [], offers := [], tracker := [], snow := [], deadlock := false }) s
/-- A piste declared lost, with its mode consequence. -/
def losePiste (p : Nat) (s : State) : State :=
  if s.pisteUp p then lossCause (dropPiste p s) else s

/-! ### The conditions of SAFE-OPERATE (R68) -/

/-- Pages that condition 2 does not ask to be locked. -/
def lockExempt : PageKind → Bool
  | .mode | .log | .dbg | .inst _ => true
  | _ => false
/-- MODE_ENTRY_FAIL: the conditions that fail; at the end of BOOT lost pistes do not count. -/
def State.entryFail (s : State) (atBoot : Bool) : Word :=
  let pages := presentPages s.part
  let golden := pages.any (fun p => s.rfld p 0x14 7 6 != 0)
  let unlocked := pages.any (fun p => !bit (s.reg p 0x10) 2 && match pageKind s.part p with
    | some k => !lockExempt k
    | none => false)
  let pair := (!atBoot && s.mode.lost != 0) || (rangeFrom 0 (Config.pistes s.part / 2)).any (fun k => s.pairFault k)
  let safeIn := !(s.safety.inA && s.safety.inB)
  let halted := s.threads.any (fun e => e.2.st == .halted)
  let fails := s.rfld pMODE 0x8004 15 8
  let selftest := if atBoot then fails / 16 != 0 else fails != 0
  w32 (b2n golden + b2n unlocked * 2 + b2n pair * 4 + b2n safeIn * 8 + b2n s.mode.ssLatch * 16 + b2n halted * 32 +
    b2n selftest * 64)

/-! ### MODE_REQ (R64, R65, R71) -/

/-- A request for a mode is listed in Table Transitions for the present mode. -/
def requestListed (target : Mode) : Mode → Bool
  | .configure => match target with
    | .commission | .operate | .maintenance | .safeOperate | .safeState | .zeroize => true
    | _ => false
  | .commission | .operate | .maintenance => match target with
    | .configure | .commission | .operate | .maintenance | .safeOperate | .safeState | .zeroize => true
    | _ => false
  | .safeOperate => match target with
    | .operate | .maintenance | .safeState | .zeroize => true
    | _ => false
  | .degraded => match target with
    | .maintenance | .safeState | .zeroize => true
    | _ => false
  | .safeState => match target with
    | .maintenance | .zeroize => true
    | _ => false
  | .fallback => target == .zeroize
  | _ => false
/-- A device transition in progress holds the request off: every one but ZEROIZE and, ahead of DEGRADED, SAFE-STATE. -/
def heldOff (s : State) (target : Mode) : Bool :=
  s.deviceTrans && !(match target with
    | .zeroize => s.transTarget != some .zeroize
    | .safeState => s.transTarget == some .degraded
    | _ => false)
/-- A mode request with the right KEY: completes now, or stays BUSY until its transition instant. -/
def requestMode (req : Requester) (target : Mode) (s : State) : Option Status × State :=
  let no := cmdState req pMODE 0x8104 (target == .safeOperate)
  if target = .safeOperate ∧ Config.hasSafe s.part = false then cmdFail .absent s
  else if target = .degraded then no s
  else if target = s.modeNow then (some .ok, s)
  else if !requestListed target s.modeNow || heldOff s target then no s
  else
    let fails := s.entryFail false
    let s := if target = .safeOperate then setReg pMODE 0x8014 fails s else s
    if target = .safeOperate ∧ fails ≠ 0 then no s
    else (none, beginTrans target 0x02 (some req) s)
/-- The mode of a listed mode code. -/
def reqTarget (code : Nat) : Option Mode := if 4 ≤ code ∧ code ≤ 11 then modeOf code else none
/-- A restart request: the reset itself; its status register reads as reset (R71). -/
def restartGo (warm : Bool) (s : State) : WRes :=
  let slot := s.rfld pMODE 0x8100 1 0
  if slot = 3 then .ok (cmdDone pMODE 0x8108 .badArg s)
  else
    let s := enterReset warm (if warm then 3 else 2) s
    .ok { s with boot := { s.boot with trialSlot := slot } }
/-- A write of MODE_REQ: KEY, then CODE, then the mode. -/
def modeReqWrite (req : Requester) (v : Word) (s : State) : WRes :=
  let code := fld v 15 0 % 256
  if bit (s.reg pMODE 0x8108) 30 then .refuse .busy
  else if fld v 31 16 ≠ 0x5A17 then .ok (cmdDone pMODE 0x8108 .badArg s)
  else if code = 0x10 then restartGo true s
  else if code = 0x11 then restartGo false s
  else match reqTarget code with
    | some m => command pMODE 0x8108 (requestMode req m) s
    | none => .ok (cmdDone pMODE 0x8108 .badArg s)
/-- A write of MODE_REQ refused in BOOT whose request is SAFE-OPERATE touches a safety function (R74, R75). -/
def noteSafeRequest (req : Requester) (page off : Nat) (v : Word) (s : State) (r : State × Option Status) : State × Option Status :=
  if page = pMODE ∧ off = 0x8104 ∧ fld v 15 0 % 256 = 7 ∧ s.modeNow = .boot then
    match r with
    | (s', some .stateRefused) =>
      (bump pSAFE 0x8014 (post 0x08 page (reqForm req + off) (page * 65536 + off) s'), some .stateRefused)
    | r => r
  else r
/-- A row of MODE_REQ. -/
def modeRow (code : Nat) (req : Requester) (key : BitVec 16) (s : State) : State :=
  let v := w32 (key.toNat * 0x10000 + code)
  if reqOk s.part req then (noteSafeRequest req pMODE 0x8104 v s (writeReg req pMODE 0x8104 (modeReqWrite req v) s)).1 else s

def execReqConfigure (req : Requester) (key : BitVec 16) (s : State) : Outcome := .next (modeRow 0x04 req key s)
def execReqCommission (req : Requester) (key : BitVec 16) (s : State) : Outcome := .next (modeRow 0x05 req key s)
def execReqOperate (req : Requester) (key : BitVec 16) (s : State) : Outcome := .next (modeRow 0x06 req key s)
def execReqSafeOperate (req : Requester) (key : BitVec 16) (s : State) : Outcome := .next (modeRow 0x07 req key s)
def execReqDegraded (req : Requester) (key : BitVec 16) (s : State) : Outcome := .next (modeRow 0x08 req key s)
def execReqSafeState (req : Requester) (key : BitVec 16) (s : State) : Outcome := .next (modeRow 0x09 req key s)
def execReqMaintenance (req : Requester) (key : BitVec 16) (s : State) : Outcome := .next (modeRow 0x0A req key s)
def execReqZeroize (req : Requester) (key : BitVec 16) (s : State) : Outcome := .next (modeRow 0x0B req key s)
def execWarmRestart (req : Requester) (key : BitVec 16) (s : State) : Outcome := .next (modeRow 0x10 req key s)
def execColdRestart (req : Requester) (key : BitVec 16) (s : State) : Outcome := .next (modeRow 0x11 req key s)

end Sys2Proof.Machine
end

