-- ==== Sys2Proof/Machine/Flash.lean ====
section
/-! DEFINITION. The FLASH command interface and the MODE page (R70, R73, R84-R87). -/
namespace Sys2Proof.Machine
open Sys2Proof

/-- Bytes of the flash that FLASH_ADDR and FLASH_LEN name. -/
def State.flashAddr (s : State) : Nat := (s.reg pMODE 0x8200).toNat
def State.flashLen (s : State) : Nat := (s.reg pMODE 0x8204).toNat
/-- The slot of a flash address, 0 above both (R80). -/
def slotOf (a : Nat) : Nat := if a < 0x4000000 then 1 else if a < 0x8000000 then 2 else 0
/-- The address lies in the slot that MODE_STATUS.SLOT names (R85). -/
def State.inActive (s : State) (a : Nat) : Bool := slotOf a != 0 && slotOf a == s.mode.slot.toNat
/-- FLASH_ADDR and FLASH_LEN are legal (R70). -/
def State.flashRangeOk (s : State) : Bool :=
  s.flashAddr % 4 == 0 && s.flashLen % 4 == 0 && decide (4 ≤ s.flashLen) && decide (s.flashLen ≤ 4096)
/-- Sector 0 of the address's slot. -/
def inSector0 (a : Nat) : Bool := slotOf a != 0 && decide (a % 0x4000000 < 0x1000)
/-- The arguments of a flash command are legal (R84, R85). -/
def State.flashArgsOk (s : State) (code slot : Nat) : Bool :=
  let a := s.flashAddr
  match code with
  | 1 => s.flashRangeOk
  | 2 => s.flashRangeOk && a / 256 == (a + s.flashLen - 1) / 256 && !inSector0 a && !s.inActive a
  | 3 => a % 4 == 0 && !s.inActive a
  | 4 => (slot == 1 || slot == 2) && slot != s.mode.slot.toNat &&
      (s.bytes (flashA (slotBase slot)) 4096).all (· == 0xFF)
  | 5 => (slot == 1 || slot == 2) && slot != s.mode.slot.toNat
  | _ => false
/-- A flash command accepted: it runs on until FLASH_COMPLETE (R84, R86). -/
def flashBody (code slot : Nat) (req : Requester) (s : State) : Option Status × State :=
  let noWe := decide (2 ≤ code) && decide (code ≤ 5) && !bit (s.reg pMODE 0x100) 8
  if (1 ≤ code ∧ code ≤ 5) ∧ (s.modeNow = .zeroize ∨ s.modeNow = .boot) then cmdState req pMODE 0x8208 false s
  else if noWe then cmdFail .notOwner s
  else if !s.flashArgsOk code slot then cmdFail .badArg s
  else
    (none, { s with fabric := { s.fabric with
      flash := some { code := code, slot := slot, addr := s.flashAddr, len := s.flashLen } } })
def flashCmd (req : Requester) (v : Word) : State → WRes :=
  command pMODE 0x820C (flashBody (fld v 3 0) (fld v 5 4) req)
def flashRow (code slot : Nat) (req : Requester) (s : State) : State :=
  cmdRow req pMODE 0x8208 0x820C (flashBody code slot req) s
def execFlashRead (req : Requester) (s : State) : Outcome := .next (flashRow 1 0 req s)
def execFlashProgram (req : Requester) (s : State) : Outcome := .next (flashRow 2 0 req s)
def execFlashErase (req : Requester) (s : State) : Outcome := .next (flashRow 3 0 req s)
def execValidate (req : Requester) (slot : BitVec 2) (s : State) : Outcome := .next (flashRow 4 slot.toNat req s)
def execInvalidate (req : Requester) (slot : BitVec 2) (s : State) : Outcome := .next (flashRow 5 slot.toNat req s)

/-- FLASH_BUF as bytes, and bytes put into it. -/
def State.flashBuf (s : State) (n : Nat) : Bytes :=
  ((rangeFrom 0 (ceilDiv n 4)).flatMap (fun i => leBytes 4 (s.reg pMODE (0x9000 + 4 * i)).toNat)).take n
def putBuf (base : Nat) (page : Nat) (b : Bytes) (s : State) : State :=
  (rangeFrom 0 (ceilDiv b.length 4)).foldl (fun s i => setReg page (base + 4 * i) (w32 (leNat (slice b (4 * i) 4))) s) s
/-- Programming clears bits and sets none, as NOR flash does. -/
def flashPut (a : Nat) (b : Bytes) (s : State) : State :=
  putBytes (flashA a) (List.zipWith (fun x y => x &&& y) (s.bytes (flashA a) b.length) b) s
/-- What a finished flash command has done, and its code. -/
def flashDone (f : FlashOp) (s : State) : Status × State :=
  match f.code with
  | 1 => (.ok, putBuf 0x9000 pMODE (s.bytes (flashA f.addr) f.len) s)
  | 2 => (.ok, flashPut f.addr (s.flashBuf f.len) s)
  | 3 => (.ok, clearMem (flashA (f.addr / 4096 * 4096)) 4096 s)
  | 4 => match s.validate f.slot with
    | some b => (.ok, flashPut (slotBase f.slot) b s)
    | none => (.badArg, s)
  | _ => (.ok, flashPut (slotBase f.slot + 4) [0, 0, 0, 0] s)
/-- What a flash command that failed in the flash leaves: data that the spec does not state, and a code among those that fit. -/
def flashFailed (f : FlashOp) (s : State) : Status × State :=
  let st := if Config.flag s.free then Status.timeout else .ecc
  let s := { s with free := s.free + 1 }
  match f.code with
  | 1 =>
    let b := (rangeFrom 0 (ceilDiv f.len 8)).flatMap (fun i => leBytes 8 (Config.value (s.free + i)).toNat)
    (st, putBuf 0x9000 pMODE (b.take f.len) { s with free := s.free + ceilDiv f.len 8 })
  | 2 => (st, scrambleFlash f.addr f.len s)
  | 3 => (st, scrambleFlash (f.addr / 4096 * 4096) 4096 s)
  | 4 => (st, scrambleFlash (slotBase f.slot) 64 s)
  | _ => (st, scrambleFlash (slotBase f.slot + 4) 4 s)
def execFlashComplete (ok : Bool) (s : State) : Outcome :=
  .next (match s.live, s.fabric.flash with
  | true, some f =>
    let (st, s) := (if ok then flashDone else flashFailed) f { s with fabric := { s.fabric with flash := none } }
    cmdDone pMODE 0x820C st s
  | _, _ => s)

/-! ### The MODE page (R70) -/

def modeWrite (req : Requester) (off : Nat) (v mask : Word) (s : State) : WRes :=
  if off = 0x8104 then modeReqWrite req v s
  else if off = 0x8208 then flashCmd req v s
  else .ok (store pMODE off mask v s)
def modeRead (s : State) (off : Nat) : Option Word := if off = 0x8000 then some s.modeStatus else none

end Sys2Proof.Machine
end

