-- ==== Sys2Proof/Machine/Hbm.lean ====
section
/-! DEFINITION. The HBM controller: client ports and their order, refresh and temperature, scrub, HBM_FENCE, and the HBM pages
(R370-R392, R528). -/
namespace Sys2Proof.Machine
open Sys2Proof

/-! ### Client ports (R374-R377, R386) -/

/-- Requests that a port holds at most (R374). -/
def portDepth : Nat → Nat
  | 0 => 1024 | 7 => 64 | 8 => 512 | 9 => 64 | 14 => 16 | 15 => 64 | _ => 256
/-- The port's client is present on the part: spill and core ports belong to their pistes. -/
def clientPresent (part : Part) (port : Nat) : Bool :=
  if 1 ≤ port ∧ port ≤ 4 then decide (port - 1 < Config.pistes part)
  else if 10 ≤ port ∧ port ≤ 13 then decide (port - 10 < Config.pistes part)
  else true
/-- Requests accepted at a port and not completed, oldest first. -/
def State.portQ (s : State) (port : Nat) : List HbmReq := sget [] s.hbm.ports port
def setPortQ (port : Nat) (q : List HbmReq) (s : State) : State :=
  updHbm (fun h => { h with ports := sset h.ports port q }) s

/-- A client request: a read of as many bytes as `data` has, or a write of `data`. One that the controller serves with
ABSENT reaches no stack and changes nothing (R371, R372). -/
def execHbmRequest (port : BitVec 4) (addr : BitVec 40) (write : Bool) (data : Bytes) (s : State) : Outcome :=
  let n := port.toNat
  .next (
    if !s.live || !hbmServes s || !clientPresent s.part n || data.isEmpty then s
    else match hbmOff s.part addr.toNat data.length with
    | none => s
    | some a =>
      let q := s.portQ n
      if portDepth n ≤ q.length then bump pHBM (0xA00C + n * 0x10) s
      else setPortQ n (q ++ [{ addr := a, write := write, data := data, late := false }]) (hbmCount n s))

/-- An error of a read: 1 corrected, 2 uncorrectable, 3 address error; an uncorrectable burst stays so until it is written
whole (R386, R387). -/
def hbmErr (port a n err : Nat) (s : State) : State :=
  match err with
  | 1 => memError (pHBMS (hbmStack s.part a)) (hbmPc s.part a % 32) ((Config.errorInfo s.free).toNat % 65536) (a / 32) false
      { s with free := s.free + 1 }
  | 2 => hbmUe port a false (poisonMem (hbmA (a / 32 * 32)) ((a + n + 31) / 32 * 32 - a / 32 * 32) s)
  | _ => hbmUe port a true s
/-- The flow whose context an HBM offset lies in. -/
def State.flowAt (s : State) (a : Nat) : Option Nat :=
  let f := (a - s.flowOff 0) / 256
  if s.flowOff 0 ≤ a ∧ f < Config.flows s.part then some f else none
/-- A finished request carried out: a write stored; a read's data returned, or the client's reaction to its error. -/
def hbmGo (port : Nat) (r : HbmReq) (err : Nat) (s : State) : State :=
  let n := r.data.length
  let whole := r.addr % 32 == 0 && n % 32 == 0
  if r.write then
    if whole || err == 0 then putBytes (hbmA r.addr) r.data s
    else
      let s := hbmErr port r.addr n err s
      if err = 1 then putBytes (hbmA r.addr) r.data s else s
  else
    let err := if s.poisoned (hbmA r.addr) n && decide (err < 2) then 2 else err
    let s := if err = 0 then s else hbmErr port r.addr n err s
    let s := if port = 0 ∧ 2 ≤ err then (match s.flowAt r.addr with
        | some f => quarantineFlow f 0 (0x1000000000 + r.addr) s
        | none => s)
      else s
    updHbm (fun h => { h with result := sset h.result port (s.bytes (hbmA r.addr) n) }) s
/-- A completion counted by an HBM_FENCE in progress; the last one ends it (R378). -/
def fenceStep (port : Nat) (s : State) : State :=
  if s.hbm.fence.isEmpty then s
  else
    let f := ((s.hbm.fence.map (fun e => if e.1 = port then (e.1, e.2 - 1) else e)).filter (fun e => e.2 != 0))
    let s := updHbm (fun h => { h with fence := f }) s
    if f.isEmpty then cmdDone pHBM 0x8108 .ok s else s
/-- The oldest request of a port completes: no later one of the port can complete before it (R377). -/
def execHbmRequestComplete (port : BitVec 4) (err : BitVec 2) (s : State) : Outcome :=
  let n := port.toNat
  .next (match s.live, s.portQ n with
    | true, r :: q => fenceStep n (hbmGo n r err.toNat (setPortQ n q s))
    | _, _ => s)
/-- The first request of a list that is not late becomes so; none where every one is. -/
def markLate : List HbmReq → Option (List HbmReq)
  | [] => none
  | r :: q => if r.late then (markLate q).map (r :: ·) else some ({ r with late := true } :: q)
/-- A request reaches urgency 3, once (R375). -/
def execRequestLate (port : BitVec 4) (s : State) : Outcome :=
  let n := port.toNat
  .next (match s.live, markLate (s.portQ n) with
    | true, some q => bump pHBM (0xA008 + n * 0x10) (setPortQ n q s)
    | _, _ => s)

/-! ### HBM_FENCE (R378) -/

/-- Requests of a port up to the last write accepted. -/
def untilWrite : List HbmReq → Nat
  | [] => 0
  | r :: q => match untilWrite q with
    | 0 => if r.write then 1 else 0
    | n => n + 1
def fenceBody (s : State) : Option Status × State :=
  let mask := s.reg pHBM 0x8100
  let ports := (rangeFrom 0 16).filter (fun n => bit mask n)
  if ports.isEmpty || ports.any (fun n => !clientPresent s.part n) then cmdFail .badArg s
  else
    let f := (ports.map (fun n => (n, untilWrite (s.portQ n)))).filter (fun e => e.2 != 0)
    if f.isEmpty then (some .ok, s) else (none, updHbm (fun h => { h with fence := f }) s)
def fenceCmd (v : Word) : State → WRes :=
  command pHBM 0x8108 (fun s => if fld v 3 0 = 1 then fenceBody s else cmdFail .badArg s)
def execHbmFence (req : Requester) (s : State) : Outcome := .next (cmdRow req pHBM 0x8104 0x8108 fenceBody s)

/-! ### Refresh and temperature (R380-R384, R528) -/

/-- A pseudo-channel of a present stack that has been trained (R381). -/
def State.refreshes (s : State) (pc : Nat) : Bool :=
  s.live && stackOk s.part (pc / 32) && bit (s.reg (pHBMS (pc / 32)) 0x8000) 0
def State.refOwed (s : State) (pc : Nat) : Nat := sget 0 s.hbm.owed pc
def setRefOwed (pc n : Nat) (s : State) : State := updHbm (fun h => { h with owed := sset h.owed pc n }) s
/-- Some request is pending on the pseudo-channel. -/
def State.pcBusy (s : State) (pc : Nat) : Bool :=
  s.hbm.ports.any (fun e => e.2.any (fun r => hbmPc s.part r.addr == pc))
/-- One more refresh is owed: issued at once where no request is pending, urgent at the allowance, else postponed. -/
def execRefreshDue (pc : BitVec 6) (s : State) : Outcome :=
  let c := pc.toNat
  .next (
    if !s.refreshes c then s
    else
      let n := s.refOwed c + 1
      let allowance := if bit s.hbm.high (c / 32) then 4 else 8
      if !s.pcBusy c then setRefOwed c 0 s
      else if allowance ≤ n then setRefOwed c (allowance - 1) (bump (pHBMS (c / 32)) 0x8014 s)
      else setRefOwed c n s)
/-- A refresh owed beyond its limit (R381). -/
def execRefreshViolation (pc : BitVec 6) (s : State) : Outcome :=
  let st := pc.toNat / 32
  .next (
    if !s.refreshes pc.toNat then s
    else post 0x16 (pHBMS st) st (pc.toNat % 32) (raiseBit (pHBMS st) 9 (bump (pHBMS st) 0x8018 s)))
/-- Entry of a stack to the high regime: every owed refresh issued back to back (R383). -/
def catchUp (st : Nat) (s : State) : State :=
  (rangeFrom (32 * st) 32).foldl (fun s c => if s.refOwed c = 0 then s else setRefOwed c 0 (bump (pHBMS st) 0x8010 s)) s
/-- A reading of a stack's sensor (R382, R527, R528). HBM_TEMP_MAX keeps in bit 31 that it holds a reading. -/
def execHbmTempRead (stack : BitVec 1) (temp : BitVec 8) (s : State) : Outcome :=
  let st := stack.toNat
  let pg := pHBMS st
  .next (
    if !s.live || !stackOk s.part st then s
    else
      let t := temp.toInt
      let was := bit s.hbm.high st
      let high := if was then decide (82 ≤ t) else decide (85 < t)
      let s := if high && !was then catchUp st s else s
      let s := updHbm (fun h => { h with high := setBit h.high st high }) s
      let m := s.reg pg 0x8008
      let s := if bit m 31 = false ∨ (m.setWidth 8).toInt < t then setReg pg 0x8008 (w32 (0x80000000 + temp.toNat)) s else s
      let s := setReg pg 0x8004 (w32 (temp.toNat + b2n high * 0x100)) s
      let s := setReg pRST (0x8010 + 4 * (16 + st)) (w32 (0x80000000 + temp.toNat)) s
      if 95 < t then raiseBit pg 8 s else s)
/-- A stack reading of 105 °C or more has persisted for 1 ms (R528). -/
def execHbmTempFault (stack : BitVec 1) (s : State) : Outcome :=
  let st := stack.toNat
  let r := s.reg (pHBMS st) 0x8004
  .next (
    if !s.live || !stackOk s.part st || decide ((r.setWidth 8).toInt < 105) then s
    else post 0x13 0x3FF (16 + st) (fld r 7 0) s)

/-! ### Scrub (R387) -/

/-- Bursts of HBM present. -/
def bursts (part : Part) : Nat := Config.hbmBytes part / 32
/-- The bursts of a list counted once each. -/
def dedup : List Nat → List Nat
  | [] => []
  | a :: r => if r.contains a then dedup r else a :: dedup r
/-- The scrub reads the bursts from one to another, both included, and logs those that read uncorrectable. -/
def scrubSpan (from_ upto : Nat) (s : State) : State :=
  let s := bump64By pHBM (0xA000 + 14 * 0x10) (upto + 1 - from_) s
  let bad := dedup ((s.poison.map (fun w => w / 4)).filter (fun b => decide (from_ ≤ b) && decide (b ≤ upto)))
  bad.foldl (fun s b => hbmUe 14 (b * 32) false s) s
/-- The scrub has come as far as the burst at an address, which shows an error or none (2 uncorrectable, 3 address error);
a pass ends at the end of the HBM present. -/
def execHbmScrubPass (addr : BitVec 40) (err : BitVec 2) (s : State) : Outcome :=
  .next (match s.live && hbmServes s && bit (s.reg pHBM 0x100) 0, hbmOff s.part addr.toNat 1 with
    | true, some a =>
      let b := a / 32
      let last := bursts s.part - 1
      let s := match err.toNat with
        | 2 => poisonMem (hbmA (b * 32)) 32 s
        | _ => s
      let passed := fun (s : State) => (rangeFrom 0 (Config.hbmStacks s.part)).foldl (fun s k => bump (pHBMS k) 0x801C s) s
      let s := if b < s.hbm.scrubPos then scrubSpan 0 b (passed (scrubSpan s.hbm.scrubPos last s))
        else scrubSpan s.hbm.scrubPos b s
      let s := match err.toNat with
        | 1 => hbmErr 14 (b * 32) 32 1 s
        | 3 => hbmErr 14 (b * 32) 32 3 s
        | _ => s
      if b = last then updHbm (fun h => { h with scrubPos := 0 }) (passed s)
      else updHbm (fun h => { h with scrubPos := b + 1 }) s
    | _, _ => s)

/-! ### Pages (R391, R392) -/

/-- HBM_CFG: scrub hours 1 to 255; SCRUB_EN set again restarts the pass (R387). -/
def hbmCfgWrite (v mask : Word) (s : State) : WRes :=
  if fld v 15 8 = 0 then .refuse .badArg
  else
    let restart := bit v 0 && !bit (s.reg pHBM 0x100) 0
    let s := store pHBM 0x100 mask v s
    .ok (if restart then updHbm (fun h => { h with scrubPos := 0 }) s else s)
/-- FC_CTRL: CONFIGURE, COMMISSION, MAINTENANCE and the loader (R391). -/
def fcCtrlWrite (req : Requester) (v mask : Word) (s : State) : WRes :=
  match s.modeNow, req with
  | .configure, _ | .commission, _ | .maintenance, _ | _, .loader => .ok (store pHBM 0x110 mask v s)
  | _, _ => .refuse .stateRefused
/-- HBM_PORT_CFG: WEIGHT and TARGET in range (R391). -/
def portCfgOk (v : Word) : Bool := fld v 27 24 != 0 && decide (100 ≤ fld v 19 0) && decide (fld v 19 0 ≤ 1000000)
def hbmWrite (req : Requester) (off : Nat) (v mask : Word) (s : State) : WRes :=
  if off = 0x100 then hbmCfgWrite v mask s
  else if off = 0x110 then fcCtrlWrite req v mask s
  else if 0x200 ≤ off ∧ off < 0x240 then storeIf (portCfgOk v) pHBM off mask v s
  else if off = 0x8104 then fenceCmd v s
  else if off = 0x8204 then flowCmd req v s
  else if off = 0x9020 then quarPop s
  else .ok (store pHBM off mask v s)
def hbmWrite64 (req : Requester) (off : Nat) (v : W64) (s : State) : WRes :=
  if off = 0x108 then flowBaseWrite req v s else .ok (setReg64 pHBM off v s)
def hbmRead (s : State) (off : Nat) : Option Word :=
  if off = 0x8000 then
    let up := (rangeFrom 0 (Config.hbmStacks s.part)).foldl (fun a k => a + b2n (fld (s.reg (pHBMS k) 0x8000) 1 0 == 1) * 2 ^ k) 0
    some (w32 (up + s.hbm.high.toNat * 16))
  else if 0x9000 ≤ off ∧ off < 0x9020 then
    some (w32 (match s.hbm.quar.recs with
      | r :: _ => leNat (Machine.slice r.bytes (off - 0x9000) 4)
      | [] => 0))
  else if off = 0x9028 then some (w32 s.hbm.quar.recs.length)
  else none
def hbmsRead (k : Nat) (s : State) (off : Nat) : Option Word :=
  if off = 0x8008 then some (s.reg (pHBMS k) off &&& 0xFF)
  else if off = 0x8030 then some (s.reg (pHBMS k) off &&& 0x1F)
  else none

end Sys2Proof.Machine
end

