-- ==== Sys2Proof/Machine/Time.lean ====
section
/-! DEFINITION. The time base: its tick, steps and settings, PPS input and output, and the TIME page (R414-R418, R424). -/
namespace Sys2Proof.Machine
open Sys2Proof

def updTime (f : TimeState → TimeState) (s : State) : State := { s with time := f s.time }

/-! ### The value (R414) -/

/-- One second, and one past the greatest time base, in units of 2^-32 ns. -/
def fracSec : Nat := 1000000000 * 0x100000000
def fracWrap : Nat := 0x1000000000000 * fracSec
/-- The time base in units of 2^-32 ns. -/
def State.frac (s : State) : Nat := s.totalNs * 0x100000000 + s.time.frac.toNat
/-- The time base set to a value in units of 2^-32 ns; it runs over to 0. -/
def setFrac (v : Nat) (s : State) : State :=
  let v := v % fracWrap
  updTime (fun t => { t with sec := BitVec.ofNat 48 (v / fracSec), ns := w32 (v / 0x100000000 % 1000000000), frac := w32 v }) s
/-- The increment of a tick: 1 ns and ADJ. -/
def State.increment (s : State) : Nat := (0x100000000 + (s.reg pTIME 0x8010).toInt).toNat

/-! ### Steps (R415, R418) -/

/-- The time base moved from one value to another in one step: counted and logged; cycles in progress complete on the time
clock. -/
def stepTo (old new : Nat) (s : State) : State :=
  let s := setFrac new s
  let ns (v : Nat) : Int := Int.ofNat (v / 0x100000000)
  let o := v32 old
  let s := logAdd 0x04 pTIME (old / fracSec % 0x100000000) o (v32 new) (bump pTIME 0x8030 s)
  let s := s.presentPorts.foldl (gclStepped (ns old) (ns new)) s
  if Config.hasSige s.part then
    (rangeFrom 0 (Config.pistes s.part * 8)).foldl (fun s i => timerStepped (ns old) (ns new) s (i / 8) (i % 8)) s
  else s
where
  /-- Nanoseconds field of a value. -/
  v32 (v : Nat) : Nat := v / 0x100000000 % 1000000000
/-- A step accepted before is carried out at the tick; `old` is what the tick has led to. -/
def applyJump (j : TimeJump) (s : State) : State :=
  let old := s.frac
  let new := match j with
    | .set sec ns => (sec.toNat * 1000000000 + ns.toNat) * 0x100000000
    | .step d => (Int.ofNat old + d * 0x100000000).toNat
  cmdDone pTIME 0x8110 .ok (stepTo old new (updTime (fun t => { t with nextSet := none }) s))

/-- The arguments of TIME_CMD. -/
def State.argSec (s : State) : BitVec 48 := BitVec.ofNat 48 ((s.reg pTIME 0x8104).toNat * 0x100000000 + (s.reg pTIME 0x8100).toNat)
def State.argNs (s : State) : Word := s.reg pTIME 0x8108
/-- TIME_CMD's codes 1 to 3: refused in BOOT and ZEROIZE; accepted, they run on to the tick or the edge (R415). -/
def timeBody (code : Nat) (req : Requester) (s : State) : Option Status × State :=
  let ns := s.argNs
  let d := ns.toInt
  let after := Int.ofNat s.frac + d * 0x100000000
  if (s.modeNow == .boot && req != .loader) || s.modeNow == .zeroize then cmdState req pTIME 0x810C false s
  else match code with
    | 1 =>
      if 1000000000 ≤ ns.toNat then cmdFail .badArg s
      else (none, updTime (fun t => { t with nextSet := some (.set s.argSec ns) }) s)
    | 2 =>
      if d < -1000000000 ∨ 1000000000 < d ∨ after < 0 ∨ Int.ofNat fracWrap ≤ after then cmdFail .badArg s
      else (none, updTime (fun t => { t with nextSet := some (.step d) }) s)
    | 3 =>
      if 1000000000 ≤ ns.toNat ∨ bit (s.reg pTIME 0x100) 1 = false then cmdFail .badArg s
      else (none, updTime (fun t => { t with atPps := some (s.argSec, ns) }) s)
    | _ => cmdFail .badArg s
def timeCmd (req : Requester) (v : Word) : State → WRes := command pTIME 0x8110 (timeBody (fld v 3 0) req)
def timeRow (code : Nat) (req : Requester) (s : State) : State := cmdRow req pTIME 0x810C 0x8110 (timeBody code req) s
def execSet (req : Requester) (s : State) : Outcome := .next (timeRow 1 req s)
def execTimeStep (req : Requester) (s : State) : Outcome := .next (timeRow 2 req s)
def execSetAtPps (req : Requester) (s : State) : Outcome := .next (timeRow 3 req s)

/-- TIME_ADJ: at most 1,000 ppm either way (R414). -/
def adjWrite (v : Word) (s : State) : WRes :=
  storeIf (decide (-4294967 ≤ v.toInt) && decide (v.toInt ≤ 4294967)) pTIME 0x8010 0xFFFFFFFF v s
def execTimeAdjWrite (req : Requester) (value : Word) (s : State) : Outcome := .next (regRow req pTIME 0x8010 (adjWrite value) s)

/-! ### PPS (R415-R417) -/

/-- A rising edge of PPS_IN: captured, and the time base set where SET_AT_PPS waits for it; an edge less than 1 ms after the
last accepted one is ignored. -/
def execPpsInEdge (s : State) : Outcome :=
  .next (
    if !s.live || !bit (s.reg pTIME 0x100) 1 then s
    else if s.time.lastPps.any (fun t => decide (s.time.ticks < t + 1000000)) then bump pTIME 0x8038 s
    else
      let s := setReg pTIME 0x8020 s.time.ns s
      let s := setReg pTIME 0x8028 (w32 (s.time.sec.toNat / 0x100000000)) (setReg pTIME 0x8024 (w32 s.time.sec.toNat) s)
      let s := raiseBit pTIME 8 (bumpWrap pTIME 0x8034 s)
      let s := updTime (fun t => { t with lastPps := some t.ticks }) s
      match s.time.atPps with
      | some (sec, ns) =>
        let new := (sec.toNat * 1000000000 + ns.toNat) * 0x100000000
        cmdDone pTIME 0x8110 .ok (stepTo s.frac new (updTime (fun t => { t with atPps := none }) s))
      | none => s)
def execPpsOutRise (s : State) : Outcome :=
  .next (if s.live && bit (s.reg pTIME 0x100) 0 then updTime (fun t => { t with ppsOut := true }) s else s)
def execPpsOutFall (s : State) : Outcome := .next (if s.live then updTime (fun t => { t with ppsOut := false }) s else s)

/-! ### The TIME page (R424) -/

/-- PPS_CTRL: with OUT_EN 0 the output is low (R416). -/
def ppsCtrlWrite (v mask : Word) (s : State) : WRes :=
  let s := store pTIME 0x100 mask v s
  .ok (if bit v 0 then s else updTime (fun t => { t with ppsOut := false }) s)
def timeWrite (req : Requester) (off : Nat) (v mask : Word) (s : State) : WRes :=
  if off = 0x100 then ppsCtrlWrite v mask s
  else if off = 0x104 then storeIf (decide (1000 ≤ fld v 29 0) && decide (fld v 29 0 ≤ 999999000)) pTIME off mask v s
  else if off = 0x108 then
    let c := (BitVec.ofNat 16 v.toNat).toInt
    storeIf (decide (-1000 ≤ c) && decide (c ≤ 1000)) pTIME off mask v s
  else if off = 0x8010 then adjWrite v s
  else if off = 0x810C then timeCmd req v s
  else .ok (store pTIME off mask v s)
/-- The registers of the time base as they read where no latch of the requester holds them. -/
def timeRead (s : State) (off : Nat) : Option Word :=
  if off = 0x8000 then some s.time.ns
  else if off = 0x8004 then some (w32 s.time.sec.toNat)
  else if off = 0x8008 then some (w32 (s.time.sec.toNat / 0x100000000))
  else if off = 0x800C then some (w32 (s.time.frac.toNat / 0x10000))
  else none

end Sys2Proof.Machine
end

