-- ==== Sys2Proof/Machine/Host.lean ====
section
/-! DEFINITION. The host interface: doorbells, rings and their transfers, instance reset, mediation, dirty-page logging, bulk
transfers, link loss, and the INST, IOV and HOST pages (R427-R454). -/
namespace Sys2Proof.Machine
open Sys2Proof

/-! ### Instances -/

/-- Port of an instance's frames. -/
def instPort (i : Nat) : Nat := 1088 + i
/-- PAGE_CTRL.EN of the INST page. -/
def State.instOn (s : State) (i : Nat) : Bool := bit (s.reg (pINST i) 0x10) 0
/-- The instance is ACTIVE and the link up: its rings run. -/
def State.instRuns (s : State) (i : Nat) : Bool := s.live && s.host.linkUp && (s.inst i).st == .active
/-- Cells of a copy or a frame returned on the host lane (R437). -/
def freeHost (cells : List Nat) (owner : BitVec 17) (s : State) : State :=
  match cells with
  | [] => s
  | h :: _ => (freeChain 12 h (some (owner.toNat % 65536)) s).2
/-- A transfer is in an engine: its cells are granted and its reads asked for. -/
def TxXfer.going (x : TxXfer) : Bool := !x.cells.isEmpty
def TxXfer.total (x : TxXfer) : Nat := (x.bufs.map (·.2)).sum

/-- Every transfer of the instance ended without effect: cells freed, completions still to come remembered (R442, R449). -/
def squashXfers (i : Nat) (s : State) : State :=
  let xs := (s.inst i).xfers.filter (·.going)
  let s := xs.foldl (fun s x => freeHost x.cells x.owner s) s
  updInst i (fun x => { x with xfers := [], squashed := x.squashed + xs.length, lateReads := x.lateReads + xs.length }) s
/-- A DMA error: the transfers end and the instance enters ERROR (R449). -/
def dmaError (i : Nat) (s : State) : State :=
  let s := squashXfers i s
  raiseBit (pINST i) 9 (bump (pINST i) 0x803C (updInst i (fun x => { x with st := .error, lateReads := x.lateReads - 1 }) s))

/-! ### Doorbells (R438) -/

/-- A new TAIL of a ring, or the write discarded. -/
def doorbell (i ring tail : Nat) (s : State) : State :=
  if !s.live then s
  else if !s.instRuns i || !s.ringOn i ring || decide (s.ringSize i ring ≤ tail) then bump (pINST i) 0x8030 s
  else setTail i ring tail s
def execTxDb (inst : BitVec 8) (ring : BitVec 4) (tail : BitVec 16) (s : State) : Outcome :=
  .next (doorbell inst.toNat ring.toNat tail.toNat s)
def execRxDb (inst : BitVec 8) (ring : BitVec 4) (tail : BitVec 16) (s : State) : Outcome :=
  .next (doorbell inst.toNat (16 + ring.toNat) tail.toNat s)
def execEvtDb (inst : BitVec 8) (s : State) : Outcome :=
  let i := inst.toNat
  let sub := s.reg (pINST i) 0x110
  .next (
    if !s.live then s
    else if !s.instRuns i then bump (pINST i) 0x8030 s
    else if bit sub 31 && decide (fld sub 10 0 / 512 < Config.pistes s.part) then setEvent (fld sub 10 0) 5 s
    else s)

/-! ### Transmit (R434, R435, R440, R441) -/

/-- A transmit descriptor. -/
structure TxDesc where
  addr : Nat
  len : Nat
  eop : Bool
  zeros : Bool
def txDesc (b : Bytes) : TxDesc :=
  let f := leNat (slice b 10 2)
  { addr := leNat (slice b 0 8), len := leNat (slice b 8 2), eop := f % 2 == 1, zeros := f / 2 == 0 && leNat (slice b 12 4) == 0 }
/-- The descriptors of the first frame, up to its EOP. -/
def frameRun : List TxDesc → Option (List TxDesc)
  | [] => none
  | d :: r => if d.eop then some [d] else (frameRun r).map (d :: ·)
/-- A frame that the device takes. -/
def frameLegal (f : List TxDesc) : Bool :=
  let n := (f.map (·.len)).sum
  f.all (fun d => d.len != 0 && d.zeros) && decide (f.length ≤ 8) && decide (60 ≤ n) && decide (n ≤ 9212)
/-- Host address of an entry of a ring. -/
def State.entryAddr (s : State) (i ring k size : Nat) : Nat := s.ringBase i ring + k % s.ringSize i ring * size
def addXfer (i : Nat) (x : TxXfer) (s : State) : State :=
  updInst i (fun y => { y with xfers := y.xfers.filter (fun z => z.ring != x.ring) ++ [x] }) s
/-- Cells asked for a frame: its data reads begin, or it waits to ask again. -/
def startTx (i : Nat) (x : TxXfer) (s : State) : State :=
  let owner := BitVec.ofNat 17 (keyOf s.time.ns * 2048 + instPort i)
  match requestCells 12 (instPort i) (keyOf s.time.ns) (ceilDiv (x.total + 4) 256) [] s with
  | (none, s) => bump (pINST i) 0x8028 (addXfer i { x with cells := [] } s)
  | (some cells, s) =>
    x.bufs.foldl (fun s b => dmaRead b.1.toNat b.2 s) (addXfer i { x with cells := cells, owner := owner } s)
/-- A block by the CEILING: descriptors left in the ring count once each while OVER_SHARE is 1 (R441). -/
def shareSpills (i ring : Nat) (s : State) : State :=
  let x := s.inst i
  if !x.overShare then s
  else
    let posted := s.posted i ring
    let size := s.ringSize i ring
    let counted := match sfind x.spillMark ring with
      | some m => (m + size - x.head ring) % size
      | none => 0
    let fresh := if counted ≤ posted then posted - counted else posted
    bumpBy (pINST i) 0x802C fresh (updInst i (fun y => { y with spillMark := sset y.spillMark ring (x.tail ring) }) s)
/-- A batch of descriptors read from HEAD: its first frame is begun, or skipped where it is malformed. A frame whose EOP has
not been posted yet waits. -/
def fetchGo (i ring : Nat) (ds : List TxDesc) (s : State) : State :=
  let head := (s.inst i).head ring
  let bad (n : Nat) (s : State) : State := advanceTx i ring (head + n) (bump (pINST i) 0x8020 s)
  match frameRun ds with
  | none => if 8 ≤ ds.length then bad ds.length s else s
  | some f =>
    if !frameLegal f then bad f.length s
    else if !f.all (fun d => s.windowOk i d.addr d.len) then windowViolation i s
    else startTx i { ring := ring, head := head + f.length, bufs := f.map (fun d => (w64 d.addr, d.len)), got := [], cells := []
                     piste := BitVec.ofNat 2 (fld (s.ringCfg i ring) 29 28), owner := 0 } s
def execDescriptorFetch (inst : BitVec 8) (ring : BitVec 4) (descs : Bytes) (s : State) : Outcome :=
  let i := inst.toNat
  let r := ring.toNat
  .next (
    if !s.instRuns i || !s.ringOn i r || (s.inst i).xfers.any (fun x => x.ring == r) then s
    else if s.ceiling i ≤ (s.inst i).admitQ.length then shareSpills i r s
    else if !s.admitRoom then s
    else
      let n := min (min (s.posted i r) 16) (descs.length / 16)
      if n = 0 then s
      else
        let at_ := (rangeFrom 0 n).map (fun k => s.entryAddr i r ((s.inst i).head r + k) 16)
        if !at_.all (fun a => s.windowOk i a 16) then windowViolation i s
        else
          let s := bump64By pHOST 0x8010 (16 * n) (at_.foldl (fun s a => dmaRead a 16 s) s)
          fetchGo i r ((chunks 16 n descs).map txDesc) s)
/-- A ring that was refused cells asks again (R435). -/
def execTxRetry (inst : BitVec 8) (ring : BitVec 4) (s : State) : Outcome :=
  let i := inst.toNat
  .next (match s.instRuns i, (s.inst i).xfers.find? (fun x => x.ring == ring.toNat && !x.going) with
    | true, some x => startTx i x s
    | _, _ => s)
/-- A whole frame has been read: it enters its piste's parser, with its FCS, and HEAD passes it. -/
def finishTx (i : Nat) (x : TxXfer) (s : State) : State :=
  let b := x.got.take x.total
  let b := b ++ fcsOf b
  let port := instPort i
  let k := Packet.new (BitVec.ofNat 11 port) x.piste.toNat x.cells x.owner.toNat b.length (s.stamp port)
  let k := { k with tail := true, instance_ := BitVec.ofNat 8 i }
  let id := s.nextPkt
  let s := addPkt k (fillCells x.cells b s)
  let reset := (s.inst i).st == .resetting
  let s := updInst i (fun y => { y with xfers := y.xfers.filter (fun z => z.ring != x.ring), admitQ := y.admitQ ++ [id]
                                        drained := y.drained + b2n reset }) s
  if s.ringOn i x.ring then advanceTx i x.ring x.head s else s
/-- A read completion: data of a frame in progress, in order; a failed one; or one that comes for a squashed transfer. -/
def execHostReadCompletion (inst : BitVec 8) (ring : BitVec 4) (data : Bytes) (err : Bool) (s : State) : Outcome :=
  let i := inst.toNat
  let st := (s.inst i).st
  .next (
    if !s.live || !s.host.linkUp then s
    else match (s.inst i).xfers.find? (fun x => x.ring == ring.toNat && x.going) with
    | some x =>
      if st != .active && st != .resetting then s
      else if err then dmaError i s
      else
        let s := bump64By pHOST 0x8010 data.length s
        let x := { x with got := x.got ++ data }
        if x.total ≤ x.got.length then finishTx i x s else addXfer i x s
    | none =>
      if (s.inst i).lateReads = 0 then s
      else bump pHOST 0x8008 (updInst i (fun y => { y with lateReads := y.lateReads - 1 }) s))
/-- A read of the instance gets no completion in time (R449). -/
def execCompletionTimeout (inst : BitVec 8) (s : State) : Outcome :=
  let i := inst.toNat
  let st := (s.inst i).st
  .next (if s.live && s.host.linkUp && (st == .active || st == .resetting) && (s.inst i).xfers.any (·.going) then dmaError i s else s)

/-! ### Receive (R436, R437, R439) -/

/-- A posted entry: its address and buffer, and whether it is well formed. -/
def rxEntry (b : Bytes) : Option RxEntry :=
  let n := leNat (slice b 8 2)
  if n % 64 = 0 ∧ 256 ≤ n ∧ n ≤ 16384 ∧ (slice b 10 22).all (· == 0) then some { addr := w64 (leNat (slice b 0 8)), len := n } else none
/-- The entries that a frame of `n` bytes takes, from the `k`-th on: those it is written to, with their bytes, and how many are
consumed; none where they do not suffice. -/
def rxPlan : List (Option RxEntry) → Nat → Nat → Option (List (Nat × RxEntry × Nat) × Nat × Nat)
  | [], _, _ => none
  | none :: r, k, n => (rxPlan r (k + 1) n).map (fun e => (e.1, e.2.1, e.2.2 + 1))
  | some e :: r, k, n =>
    if n ≤ e.len then some ([(k, e, n)], k + 1, 0)
    else (rxPlan r (k + 1) (n - e.len)).map (fun p => ((k, e, e.len) :: p.1, p.2.1, p.2.2))
/-- One entry written: data, then its completion. -/
def rxEntryGo (i ring : Nat) (c : TmCopy) (b : Bytes) (bad : Bool) (d : Bytes) (s : State) (e : Nat × Nat × RxEntry × Nat × Bool) : State :=
  let (off, k, en, n, more) := e
  let word (o : Nat) : Nat := leNat (slice d o 4)
  let w0 := word 8 / 0x100000 % 2048 + word 0 / 0x1000000 * 0x10000 + word 12 / 0x10000000 % 4 * 0x1000000
  let w1 := word 12 % 0x100000 + word 12 / 0x40000000 % 2 * 0x40000000
  let s := dmaWrite i en.addr.toNat (slice b off n) s
  let s := dmaWrite i (s.entryAddr i ring ((s.inst i).head ring + k) 32 + 16)
    (completion w0 w1 c.ts n 0 more 0 (if bad then 12 else 0)) s
  ringIrq i ring s
/-- Offsets of the pieces of a frame. -/
def rxPieces : List (Nat × RxEntry × Nat) → Nat → List (Nat × Nat × RxEntry × Nat × Bool)
  | [], _ => []
  | (k, e, n) :: r, off => (off, k, e, n, !r.isEmpty) :: rxPieces r (off + n)
/-- The head frame of a queue of the instance's port delivered into posted entries, which the host memory holds and the row
gives; a frame for a ring that is not enabled is dropped. -/
def rxGo (i q : Nat) (c : TmCopy) (rest : List TmCopy) (entries : Bytes) (s : State) : State :=
  let ring := 16 + s.rfld (pINST i) 0x9400 (4 * q + 3) (4 * q)
  let p := instPort i
  if !s.ringOn i ring then freeHost c.cells c.owner (bump (pINST i) 0x8034 (setQueue p q rest s))
  else
    let b := s.sendBytes c (Int.ofNat s.totalNs)
    let b := b.take (b.length - 4)
    let n := min (s.posted i ring) (entries.length / 32)
    let head := (s.inst i).head ring
    match rxPlan ((chunks 32 n entries).map rxEntry) 0 b.length with
    | none => s
    | some (plan, used, malformed) =>
      let s := (rangeFrom 0 used).foldl (fun s k => dmaRead (s.entryAddr i ring (head + k) 32) 32 s) s
      let inside := (rangeFrom 0 used).all (fun k => s.windowOk i (s.entryAddr i ring (head + k) 32) 32) &&
        plan.all (fun e => s.windowOk i e.2.1.addr.toNat e.2.2)
      let s := setQueue p q rest s
      if !inside then freeHost c.cells c.owner (windowViolation i s)
      else
        let bad := s.cellsBad c.cells
        let s := reportCells c.cells s
        let s := bumpBy (pINST i) 0x8024 malformed (bump64By pHOST 0x8010 (32 * used) s)
        let s := (rxPieces plan 0).foldl (rxEntryGo i ring c b bad (s.deliveredDesc c)) s
        let s := setHead i ring ((head + used) % s.ringSize i ring) s
        freeHost c.cells c.owner (bump64 (pINST i) 0x8018 s)
def execRxDelivery (inst : BitVec 8) (queue : BitVec 3) (entries : Bytes) (s : State) : Outcome :=
  let i := inst.toNat
  let q := queue.toNat
  .next (
    if !s.instRuns i then s
    else
      let s := dropHeads (instPort i) q ((s.port (instPort i)).queue q).length s
      match (s.port (instPort i)).queue q with
      | [] => s
      | c :: r => if (s.copyCheck c).isNone then s else rxGo i q c r entries s)
/-- The interrupt of a ring that waited for its interval leaves: 0 to 15 transmit, 16 to 31 receive. -/
def execMsixMessage (inst : BitVec 8) (ring : BitVec 5) (s : State) : Outcome :=
  let i := inst.toNat
  let r := ring.toNat
  .next (if s.live && s.host.linkUp && (s.inst i).irqWait.contains r then
      emit (.msix (.inst inst) (s.ringVec i r)) (updInst i (fun x => { x with irqWait := x.irqWait.filter (· != r) }) s)
    else s)

/-! ### Instance reset (R442) -/

/-- The mailbox without an instance's records; MEDIATE falls with the last one. -/
def medFilter (keep : MedRec → Bool) (s : State) : State :=
  let m := s.host.med.filter keep
  let s := updHost (fun h => { h with med := m }) s
  if m.isEmpty then setRfld pIOV 0x20 8 8 0 s else s
/-- Steps 1 and 2: semaphore units orphaned, queued frames and mediation records dropped, rings that wait for cells given up. -/
def resetBegin (i : Nat) (s : State) : State :=
  let s := orphanHolder 3 i s
  let p := instPort i
  let frames := (rangeFrom 0 8).flatMap (fun q => (s.port p).queue q)
  let s := frames.foldl (fun s c => freeHost c.cells c.owner s) (bumpBy (pINST i) 0x8038 frames.length s)
  let s := (rangeFrom 0 8).foldl (fun s q => setQueue p q [] s) s
  let s := medFilter (fun r => r.inst.toNat != i) s
  updInst i (fun x => { x with xfers := x.xfers.filter (·.going), drained := 0, squashed := 0 }) s
/-- Step 5: the ring table back at reset and the result written; the state is the caller's. -/
def resetFinish (i : Nat) (st : IState) (s : State) : State :=
  let x := s.inst i
  let pg := pINST i
  let s := { s with regs := sdrop (fun k => decide (regKey pg 0x9000 ≤ k) && decide (k < regKey pg 0x9404)) s.regs }
  let s := setReg pg 0x810C (w32 (min x.drained 0xFFFF + min x.squashed 0xFFFF * 0x10000)) s
  updInst i (fun x => { x with st := st, txHead := [], txTail := [], rxHead := [], rxTail := [], irqWait := [], spillMark := []
                               byCmd := false }) s
/-- The state that an instance's reset ends in. -/
def State.afterReset (s : State) (i : Nat) : IState := if s.instOn i then .active else .disabled
/-- A reset without drain time, as link loss, its return and a function level reset make it; a command in progress ends
with the code given. -/
def resetNow (st : IState) (code : Status) (i : Nat) (s : State) : State :=
  let byCmd := (s.inst i).byCmd
  let s := if (s.inst i).st = .resetting then s else resetBegin i s
  let s := resetFinish i st (squashXfers i s)
  if byCmd then cmdDone (pINST i) 0x8108 code s else s
/-- An instance reset starts. With the link down its transfers are squashed at once. -/
def startReset (i : Nat) (byCmd : Bool) (s : State) : State :=
  if (s.inst i).st = .resetting then updInst i (fun x => { x with byCmd := x.byCmd || byCmd }) s
  else if !s.host.linkUp then
    let s := updInst i (fun x => { x with byCmd := byCmd }) s
    resetNow (if (s.inst i).st = .disabled then .disabled else .frozen) .timeout i s
  else updInst i (fun x => { x with st := .resetting, byCmd := byCmd }) (resetBegin i s)
/-- INST_CMD (R442). -/
def instCmdBody (i : Nat) (req : Requester) (s : State) : Option Status × State :=
  if (s.modeNow == .boot && req != .loader) || s.modeNow == .zeroize then cmdState req (pINST i) 0x8104 false s
  else
    let s := startReset i true s
    if (s.inst i).byCmd then (none, s) else (some .timeout, s)
/-- INST_CMD's code: RESET, which stays BUSY until the reset is complete. -/
def instCmd (i : Nat) (req : Requester) (v : Word) : State → WRes :=
  command (pINST i) 0x8108 (fun s => if fld v 3 0 = 1 then instCmdBody i req s else cmdFail .badArg s)
/-- The drain time of a reset ends: what remains is squashed. -/
def execInstDrainTimeout (inst : BitVec 8) (s : State) : Outcome :=
  .next (if s.live && (s.inst inst.toNat).st == .resetting then squashXfers inst.toNat s else s)
/-- No transfer of the instance remains: the reset is complete. -/
def execInstResetComplete (inst : BitVec 8) (s : State) : Outcome :=
  let i := inst.toNat
  .next (
    if s.live && (s.inst i).st == .resetting && (s.inst i).xfers.isEmpty then
      let byCmd := (s.inst i).byCmd
      let s := resetFinish i (s.afterReset i) s
      if byCmd then cmdDone (pINST i) 0x8108 .ok s else s
    else s)

/-! ### The INST page's own rules (R431-R433, R439, R441, R445, R452) -/

/-- Refusals by their order, or the write. -/
def judged (l : List (Bool × Status)) (s : State) : WRes :=
  match firstStatus ((l.filter (·.1)).map (·.2)) with
  | some st => .refuse st
  | none => .ok s
/-- Instances enabled in mediated mode. -/
def State.mediatedOn (s : State) : Nat := ((rangeFrom 0 256).filter (fun i => s.instOn i && s.mediated i)).length
/-- A write of PAGE_CTRL.EN (R432). The PASID Enable bit belongs to configuration space and is a free value. -/
def instEn (i : Nat) (req : Requester) (en : Bool) (s : State) : WRes :=
  let pg := pINST i
  let set (s : State) : State := setRfld pg 0x10 0 0 (b2n en) s
  if en == s.instOn i then .ok s
  else if en then
    let noMode := match s.modeNow with
      | .boot => req != .loader
      | .fallback | .zeroize => true
      | _ => false
    let pasid := Config.flag s.free
    let st := if (s.inst i).st = .resetting then .resetting else if s.host.linkUp then IState.active else .frozen
    let full := s.mediated i && decide (64 ≤ s.mediatedOn)
    judged [(noMode, .stateRefused), ((!s.mediated i && !pasid) || full, .badArg)]
      (updInst i (fun x => { x with st := st }) (set { s with free := s.free + 1 }))
  else .ok (startReset i false (set s))
def execInstEnable (req : Requester) (inst : BitVec 8) (en : Bool) (s : State) : Outcome :=
  .next (regRow req (pINST inst.toNat) 0x10 (instEn inst.toNat req en) s)
/-- INST_SHARE (R441). -/
def shareWrite (i : Nat) (v : Word) (s : State) : WRes :=
  let c := fld v 29 16
  if fld v 7 0 = 0 ∨ c = 0 ∨ 8192 < c then .refuse .badArg
  else
    let tooMany := decide (c ≤ (s.inst i).admitQ.length)
    let s := updInst i (fun x => { x with overShare := tooMany }) (store (pINST i) 0x108 0x3FFF00FF v s)
    .ok (if tooMany then raiseBit (pINST i) 8 s else s)
def execInstShareWrite (req : Requester) (inst : BitVec 8) (value : Word) (s : State) : Outcome :=
  .next (regRow req (pINST inst.toNat) 0x108 (shareWrite inst.toNat value) s)
/-- INST_VEC overlaps the vectors of another instance. -/
def State.vecOverlaps (s : State) (i : Nat) (v : Word) : Bool :=
  let b := fld v 10 0
  let n := fld v 27 16
  (rangeFrom 0 256).any (fun j =>
    let w := s.reg (pINST j) 0x10C
    j != i && decide (b < fld w 10 0 + fld w 27 16) && decide (fld w 10 0 < b + n) && n != 0 && fld w 27 16 != 0)
/-- A ring's CFG (R433, R439): clearing EN stops the ring, whose HEAD and TAIL then read 0. -/
def ringCfgWrite (i ring : Nat) (v mask : Word) (s : State) : WRes :=
  let pg := pINST i
  let off := ringOff ring + 8
  let old := s.reg pg off
  let new := v &&& mask
  let log2 := fld new 4 0
  let tx := decide (ring < 16)
  let drop (x : Instance) : Instance :=
    { x with txHead := if tx then sset x.txHead ring 0 else x.txHead, txTail := if tx then sset x.txTail ring 0 else x.txTail
             rxHead := if tx then x.rxHead else sset x.rxHead (ring - 16) 0
             rxTail := if tx then x.rxTail else sset x.rxTail (ring - 16) 0
             xfers := if tx then x.xfers.filter (fun t => t.ring != ring || t.going) else x.xfers
             irqWait := x.irqWait.filter (· != ring), spillMark := sdrop (· == ring) x.spillMark }
  let s' := setReg pg off new s
  judged [(tx && decide (Config.pistes s.part ≤ fld new 29 28), .absent),
    (decide (log2 < 6) || decide (16 < log2) || decide (s.rfld pg 0x10C 27 16 ≤ fld new 26 16), .badArg),
    ((s.inst i).st != .active || (bit old 31 && setBit old 31 false != setBit new 31 false), .busy)]
    (if bit old 31 && bit new 31 then s' else updInst i drop s')
/-- A window's CFG: a size of 2^12 to 2^48, at a base so aligned. -/
def windowOkCfg (s : State) (i off : Nat) (v : Word) : Bool :=
  let n := fld v 5 0
  decide (12 ≤ n) && decide (n ≤ 48) && (s.reg64 (pINST i) (off - 8)).toNat % 2 ^ n == 0
/-- A write applied to an INST page, mediation apart. -/
def instGo (i : Nat) (req : Requester) (off : Nat) (v mask : Word) (s : State) : WRes :=
  let pg := pINST i
  if off = 0x100 ∨ off = 0x104 then judged [(s.instOn i, .busy)] (store pg off mask v s)
  else if off = 0x108 then shareWrite i v s
  else if off = 0x10C then storeIf (decide (fld v 27 16 ≤ 2048) && decide (fld v 10 0 + fld v 27 16 ≤ 2048) && !s.vecOverlaps i v) pg off mask v s
  else if 0x200 ≤ off ∧ off < 0x280 then storeIf (windowOkCfg s i off v) pg off mask v s
  else if off = 0x8104 then instCmd i req v s
  else if 0x9000 ≤ off ∧ off < 0x9400 then ringCfgWrite i ((off - 0x9000) / 0x20) v mask s
  else if off = 0x9400 then judged [((s.inst i).st != .active, .busy)] (store pg off mask v s)
  else .ok (store pg off mask v s)
def instGo64 (i : Nat) (off : Nat) (v : W64) (s : State) : WRes :=
  let pg := pINST i
  if 0x9000 ≤ off then
    let ring := (off - 0x9000) / 0x20
    judged [((s.inst i).st != .active || (s.ringOn i ring && s.reg64 pg off != v), .busy)] (setReg64 pg off v s)
  else .ok (setReg64 pg off v s)
/-- A mediated instance's write is entered in the mailbox (R444). -/
def mediate (i : Nat) (req : Requester) (off : Nat) (wide : Bool) (v : W64) (h : State → WRes) (s : State) : WRes :=
  match req with
  | .inst _ =>
    if !s.mediated i then h s
    else if 64 ≤ s.host.med.length then .refuse .busy
    else
      let r : MedRec := { off := BitVec.ofNat 16 off, inst := BitVec.ofNat 8 i, wide := wide, value := v, time := s.time.ns }
      .ok (raiseBit pIOV 8 (updHost (fun x => { x with med := x.med ++ [r] }) s))
  | _ => h s
def instWrite (i : Nat) (req : Requester) (off : Nat) (v mask : Word) (s : State) : WRes :=
  mediate i req off false (w64 v.toNat) (instGo i req off v mask) s
def instWrite64 (i : Nat) (req : Requester) (off : Nat) (v : W64) (s : State) : WRes := mediate i req off true v (instGo64 i off v) s
def execInstReset (req : Requester) (inst : BitVec 8) (s : State) : Outcome :=
  let i := inst.toNat
  .next (regRow req (pINST i) 0x8104 (instWrite i req 0x8104 1 0) s)
def State.instStatus (s : State) (i : Nat) : Word :=
  let x := s.inst i
  let st := match x.st with
    | .disabled => 0 | .active => 1 | .resetting => 2 | .error => 3 | .frozen => 4
  let pend := (s.host.med.filter (fun r => r.inst.toNat == i)).length
  w32 (st + b2n x.overShare * 0x100 + b2n (decide (s.ceiling i ≤ x.admitQ.length)) * 0x200 + pend * 0x10000 + x.medLast.toNat * 0x1000000)
def instRead (i : Nat) (s : State) (off : Nat) : Option Word :=
  let x := s.inst i
  if off = 0x8000 then some (s.instStatus i)
  else if off = 0x8004 then some (w32 x.admitQ.length)
  else if 0x9800 ≤ off ∧ off < 0x9880 then
    some (w32 (if off % 8 = 0 then x.head ((off - 0x9800) / 8) else x.tail ((off - 0x9800) / 8)))
  else if 0x9900 ≤ off ∧ off < 0x9980 then
    some (w32 (if off % 8 = 0 then x.head (16 + (off - 0x9900) / 8) else x.tail (16 + (off - 0x9900) / 8)))
  else none

/-! ### Mediation and the dirty log (R444, R447, R453) -/

/-- The head record resolved: removed, its outcome in MED_LAST. -/
def medPop (r : MedRec) (s : State) : State :=
  let s := updHost (fun h => { h with med := h.med.drop 1 }) s
  let s := updInst r.inst.toNat (fun x => { x with medLast := 0 }) s
  if s.host.med.isEmpty then setRfld pIOV 0x20 8 8 0 s else s
def medLast (r : MedRec) (st : Status) (s : State) : State :=
  updInst r.inst.toNat (fun x => { x with medLast := BitVec.ofNat 4 st.code }) s
/-- APPLY: MED_VALUE written to the recorded offset with the instance's rights. -/
def applyBody (s : State) : Option Status × State :=
  match s.host.med with
  | [] => cmdFail .empty s
  | r :: _ =>
    let i := r.inst.toNat
    let off := r.off.toNat
    let v := s.reg64 pIOV 0x8200
    let mask : Word := if off = 0x8104 ∨ off = 0x9400 then 0xFFFFFFFF else if off < 0x9200 then 0xBFFFFF1F else 0x8FFFFF1F
    let align : W64 := if off % 0x20 = 0x10 then 0xFFFFFFFFFFFFFFFC else 0xFFFFFFFFFFFFFFC0
    let h := if r.wide then instGo64 i off (v &&& align) else instGo i (.inst r.inst) off (lo32 v) mask
    let (s, st) := writeReg (.inst r.inst) (pINST i) off h (medPop r s)
    let st := st.getD .ok
    (some st, medLast r st s)
def rejectBody (s : State) : Option Status × State :=
  match s.host.med with
  | [] => cmdFail .empty s
  | r :: _ => (some .ok, medLast r .notOwner (medPop r s))
def medCmd (v : Word) : State → WRes :=
  command pIOV 0x820C (fun s => match fld v 3 0 with
    | 1 => applyBody s
    | 2 => rejectBody s
    | _ => cmdFail .badArg s)
def execApply (req : Requester) (s : State) : Outcome := .next (cmdRow req pIOV 0x8208 0x820C applyBody s)
def execReject (req : Requester) (s : State) : Outcome := .next (cmdRow req pIOV 0x8208 0x820C rejectBody s)
def syncBody (s : State) : Option Status × State :=
  (some .ok, setReg pIOV 0x8008 (s.reg pIOV 0x8000) (updHost (fun h => { h with filter := [] }) s))
def dirtyRestartBody (s : State) : Option Status × State :=
  (some .ok, setReg pIOV 0x8000 (s.reg pIOV 0x8004) (setReg pIOV 0x800C 0 (updHost (fun h => { h with filter := [] }) s)))
def dirtyCmd (v : Word) : State → WRes :=
  command pIOV 0x8108 (fun s => match fld v 3 0 with
    | 1 => syncBody s
    | 2 => dirtyRestartBody s
    | _ => cmdFail .badArg s)
def execSync (req : Requester) (s : State) : Outcome := .next (cmdRow req pIOV 0x8104 0x8108 syncBody s)
def execDirtyRestart (req : Requester) (s : State) : Outcome := .next (cmdRow req pIOV 0x8104 0x8108 dirtyRestartBody s)
def iovWrite (_ : Requester) (off : Nat) (v mask : Word) (s : State) : WRes :=
  if off = 0x100 then storeIf (decide (10 ≤ fld v 23 0) && decide (fld v 23 0 ≤ 100000)) pIOV off mask v s
  else if off = 0x8104 then dirtyCmd v s
  else if off = 0x8208 then medCmd v s
  else .ok (store pIOV off mask v s)
/-- The 16 bytes of a mediation record. -/
def MedRec.bytes (r : MedRec) : Bytes :=
  leBytes 4 (r.off.toNat + r.inst.toNat * 0x10000 + b2n r.wide * 0x1000000) ++ leBytes 8 r.value.toNat ++ leBytes 4 r.time.toNat
def iovRead (s : State) (off : Nat) : Option Word :=
  if off = 0x8210 then some (w32 s.host.med.length)
  else if 0x9000 ≤ off ∧ off < 0x9010 then
    some (w32 (match s.host.med with
      | r :: _ => leNat (Machine.slice r.bytes (off - 0x9000) 4)
      | [] => 0))
  else none

/-! ### Bulk transfers and the HOST page (R454) -/

/-- The requester may issue bulk transfers. -/
def bulkReq : Requester → Bool
  | .pf | .dbg | .tel _ | .loader => true
  | _ => false
def State.xferLen (s : State) : Nat := (s.reg pHOST 0x8110).toNat
/-- A bulk transfer's common judgement; with the link down the engines issue nothing and it times out. -/
def xferBody (act : Nat → State → Option Status × State) (s : State) : Option Status × State :=
  let n := s.xferLen
  if !hbmServes s then cmdFail .absent s
  else match hbmOff s.part (s.reg64 pHOST 0x8108).toNat n with
  | none => cmdFail .badArg s
  | some a =>
    if n % 64 ≠ 0 ∨ 0x1000000 < n then cmdFail .badArg s
    else if !s.host.linkUp then cmdFail .timeout s
    else act a ((rangeFrom 0 (ceilDiv n 256)).foldl (fun s _ => hbmCount 8 s) s)
/-- Host memory's bytes, which the row gives, into HBM. -/
def toHbmBody (data : Bytes) : State → Option Status × State :=
  xferBody (fun a s =>
    let n := s.xferLen
    (some .ok, putBytes (hbmA a) (slice data 0 n) (bump64By pHOST 0x8010 n (dmaRead (s.reg64 pHOST 0x8100).toNat n s))))
def fromHbmBody : State → Option Status × State :=
  xferBody (fun a s =>
    let n := s.xferLen
    if s.poisoned (hbmA a) n then (some .ecc, hbmUe 8 a false s)
    else (some .ok, bump64By pHOST 0x8018 n (emit (.hostWrite (s.reg64 pHOST 0x8100) (s.bytes (hbmA a) n)) s)))
/-- XFER_CMD: bulk transfers belong to the physical function and the Telemark complex. -/
def xferWrite (req : Requester) (body : State → Option Status × State) (s : State) : WRes :=
  if !bulkReq req then .refuse .notOwner else command pHOST 0x8118 body s
def execToHbm (req : Requester) (data : Bytes) (s : State) : Outcome :=
  .next (regRow req pHOST 0x8114 (xferWrite req (toHbmBody data)) s)
def execFromHbm (req : Requester) (s : State) : Outcome := .next (regRow req pHOST 0x8114 (xferWrite req fromHbmBody) s)
/-- A write of XFER_CMD through the register row gives no host bytes: they are free values. -/
def freeBytes (n : Nat) (s : State) : Bytes × State :=
  ((rangeFrom 0 (ceilDiv n 8)).flatMap (fun k => leBytes 8 (Config.value (s.free + k)).toNat), { s with free := s.free + ceilDiv n 8 })
def xferCmd (req : Requester) (v : Word) : State → WRes :=
  xferWrite req (fun s => match fld v 3 0 with
    | 1 => let (b, s) := freeBytes s.xferLen s
           toHbmBody b s
    | 2 => fromHbmBody s
    | _ => cmdFail .badArg s)
def hostPageWrite (req : Requester) (off : Nat) (v mask : Word) (s : State) : WRes :=
  if off = 0x100 then storeIf (fld v 7 0 != 0) pHOST off mask v s
  else if off = 0x8114 then xferCmd req v s
  else .ok (store pHOST off mask v s)

/-! ### The link (R450, R518, R523) -/

/-- The instances that anything has been done with. -/
def State.instList (s : State) : List Nat := s.host.insts.map (·.1)
/-- Link-down: every running instance freezes where it stands; a reset in progress ends with TIMEOUT. -/
def freezeInst (s : State) (i : Nat) : State :=
  match (s.inst i).st with
  | .active | .error => updInst i (fun x => { x with st := .frozen }) s
  | .resetting => resetNow (if s.instOn i then .frozen else .disabled) .timeout i s
  | _ => s
def linkDown (s : State) : State :=
  if !s.host.linkUp then s
  else
    let s := updHost (fun h => { h with linkUp := false }) (s.instList.foldl freezeInst s)
    let s := raiseBit pHOST 8 (bump pHOST 0x8004 (setRfld pHOST 0x8000 16 16 0 s))
    if bit (s.reg pHOST 0x2C) 30 then s else emit (.irq pHOST 1 0x100) s
/-- The host interface is reset: every instance without drain time. -/
def hostReset (s : State) : State :=
  s.instList.foldl (fun s i =>
    if (s.inst i).st = .disabled ∧ s.instOn i = false then s else resetNow (s.afterReset i) .ok i s) s
def execPcieLinkDown (s : State) : Outcome := .next (if s.live then linkDown s else s)
/-- The link comes up at a speed and width that the spec leaves to training; without its reference it stays down. -/
def execPcieLinkUp (s : State) : Outcome :=
  .next (
    if !s.live || s.host.linkUp || !bit s.refOk 25 then s
    else
      let (sp, s) := drawFree 5 s
      let (w, s) := drawFree 5 s
      let s := setReg pHOST 0x8000 (w32 (sp + 1 + 2 ^ w * 0x10 + 0x10000)) s
      hostReset (updHost (fun h => { h with linkUp := true }) s))
def execFunctionLevelReset (s : State) : Outcome :=
  .next (if s.live && s.host.linkUp then raiseBit pHOST 9 (hostReset s) else s)

end Sys2Proof.Machine
end

