-- ==== Sys2Proof/Machine/SafetyCtl.lean ====
section
/-! DEFINITION. The safety controller: records, classes and reactions, monitors, watchdogs, core logic self-test, safety pins, fault
injection, and the SAFE page (R459-R483, R527). -/
namespace Sys2Proof.Machine
open Sys2Proof

/-! ### Classes (R470) -/

/-- The column "SO, DEG" applies: SAFE-OPERATE, and DEGRADED entered from it, at the record's detection. -/
def SafeRec.so (r : SafeRec) : Bool := r.mode == .safeOperate || (r.mode == .degraded && r.degFromSafe)
/-- The page is a cross-check page. -/
def isXchkPage (s : State) (page : Nat) : Bool := match pageKind s.part page with
  | some (.xchk _) => true
  | _ => false
/-- Classes: 0 RECORD, 1 GRAPH, 2 PISTE, 3 DEVICE. `rejects` is the number of BPM rejects of the last second, this one
among them. -/
def recClass (s : State) (r : SafeRec) (rejects : Nat) : Nat :=
  let page := r.page.toNat
  match r.kind.toNat with
  | 0x01 => if page = pSAFE ∨ page = pTEL ∨ (r.so && isXchkPage s page) then 3 else 0
  | 0x02 => if r.so || page == pSAFE then 3 else 0
  | 0x03 => if r.so && decide (s.rfld pSAFE 0x100 23 16 ≤ rejects) then 3 else 0
  | 0x04 | 0x05 => if r.so && bit (s.reg pSAFE 0x100) 0 then 3 else 1
  | 0x06 | 0x07 => 1
  | 0x09 | 0x0A | 0x0C | 0x0D => 2
  | 0x0E | 0x0F | 0x11 | 0x12 | 0x13 | 0x14 | 0x15 | 0x16 | 0x17 | 0x18 => 3
  | _ => 0
/-- The piste that a record names. -/
def SafeRec.piste (r : SafeRec) : Nat :=
  match r.kind.toNat with
  | 0x04 | 0x05 | 0x06 | 0x07 => fld r.d0 7 6
  | 0x0A | 0x0C => fld r.d0 9 8
  | _ => fld r.d0 1 0

/-! ### Reactions (R471) -/

/-- A SAFETY graph that overruns in OVERRUN_LIMIT consecutive cycles enters SUBST. The count is kept above the last cycle that
overran, so a cycle without a record starts it again. -/
def overrun (g : Nat) (cycle : Word) (s : State) : State :=
  let was := sget 0 s.safety.overruns g
  let run := was / 0x100000000
  let n := if run = 0 then 1 else if w32 was = cycle then run else if w32 was + 1 = cycle then run + 1 else 1
  let s := updSafety (fun u => { u with overruns := sset u.overruns g (n * 0x100000000 + cycle.toNat) }) s
  if s.rfld pSAFE 0x100 11 8 ≤ n ∧ s.gSafe g then enterSubst g s else s
/-- What a DEVICE record does in the mode in force: SAFE-STATE, or the end of BOOT; in FALLBACK, ZEROIZE and RESET the record
alone is kept. A SAFE_IN request while SS_LATCH is set has no further effect (R476). -/
def deviceReaction (kind : Nat) (s : State) : State :=
  let taken (s : State) : State := setReg pSAFE 0x8004 (w32 kind) s
  if kind = 0x14 ∧ s.mode.ssLatch then s
  else match s.modeNow with
    | .boot => taken (updSafety (fun u => { u with devTaken := true }) s)
    | .safeState => taken s
    | m => if safeable m then safeCause (if kind = 0x14 then 0x08 else 0x07) (taken (updSafety (fun u => { u with devTaken := true }) s)) else s
/-- The reaction of a record's class, and what its kind changes. -/
def react (r : SafeRec) (cls : Nat) (s : State) : State :=
  let kind := r.kind.toNat
  let s := match kind with
    | 0x04 | 0x05 => updSafety (fun u => { u with suspect := setBit u.suspect (fld r.d0 7 7) true }) s
    | 0x07 => overrun (fld r.d0 7 0) r.d1 s
    | 0x18 => updSafety (fun u => { u with scaOk := false, scbOk := false }) s
    | _ => s
  match cls with
  | 2 => losePiste r.piste s
  | 3 => deviceReaction kind s
  | _ => s

/-! ### SAFETY_RECORD (R460, R478, R479) -/

/-- The kind of record that an injection waits for. -/
def injKinds : Nat → List Nat
  | 1 => [0x04] | 2 => [0x06] | 3 => [0x0F] | 4 => [0x11] | 5 => [0x12] | 6 => [0x0D, 0x0E] | 7 => [0x18] | 8 => [0x17] | _ => []
/-- An injection whose record has been classed completes. -/
def injDone (r : SafeRec) (s : State) : State :=
  match s.safety.inj with
  | some (code, _) =>
    if r.forced && (injKinds code).contains r.kind.toNat then cmdDone pSAFE 0x8308 .ok (updSafety (fun u => { u with inj := none }) s)
    else s
  | none => s
/-- A record queued for the Telemark complex, its class filled in. -/
def queueRec (r : SafeRec) (cls : Nat) (s : State) : State :=
  let q := s.safety.queue
  if q.recs.length < 256 then
    let r := { r with cls := BitVec.ofNat 2 cls, lostBefore := q.lostBefore }
    setEvent s.safetyTid 10 (updSafety (fun u => { u with queue := { recs := q.recs ++ [r], lostBefore := false } }) s)
  else bump pSAFE 0x800C (updSafety (fun u => { u with queue := { q with lostBefore := true } }) s)
/-- The SAFETY event of the piste concerned (R460). -/
def notifyPiste (r : SafeRec) (cls : Nat) (s : State) : State :=
  if (cls = 1 ∨ cls = 2) ∧ r.piste < Config.pistes s.part then setEvent (s.faultTid r.piste) 10 s else s
/-- The oldest record detected reaches both channels: counted, classed, queued and reacted to. -/
def execSafetyRecord (s : State) : Outcome :=
  .next (match s.mode.powered, s.safety.inbox with
    | true, r :: rest =>
      let now := s.nowUs
      let times := if r.kind = 0x03 then now :: s.safety.bpmTimes.filter (fun t => decide (now < t + 1000000)) else s.safety.bpmTimes
      let cls := recClass s r times.length
      let s := updSafety (fun u => { u with inbox := rest, bpmTimes := times, lastClass := BitVec.ofNat 2 cls }) s
      let s := bump pSAFE 0x8008 s
      let s := if r.forced then bump pSAFE 0x8010 s else s
      injDone r (react r cls (notifyPiste r cls (queueRec r cls s)))
    | _, _ => s)
def safePop : State → WRes :=
  popWrite (fun s => s.safety.queue.recs.isEmpty)
    (updSafety (fun u => { u with queue := { u.queue with recs := u.queue.recs.drop 1 } }))
def execSafeRecPop (req : Requester) (s : State) : Outcome := .next (regRow req pSAFE 0x9020 safePop s)
/-- The bytes of a queued record (R460). -/
def SafeRec.bytes (r : SafeRec) : Bytes :=
  leBytes 4 (r.kind.toNat + r.cls.toNat * 0x100 + b2n r.forced * 0x1000 + b2n r.lostBefore * 0x2000 + r.mode.code * 0x10000 +
    r.page.toNat * 0x100000) ++ leBytes 4 r.d0.toNat ++ leBytes 4 r.d1.toNat ++ leBytes 4 0 ++ leBytes 4 r.ns.toNat ++
    leBytes 4 r.sec.toNat ++ leBytes 4 r.us.toNat ++ leBytes 4 0

/-! ### Monitors (R459, R463-R465, R477, R527) -/

/-- The safety controller runs and is out of reset. -/
def State.monitors (s : State) : Bool := s.mode.powered && !s.mode.inReset
/-- An injection of a code waits. -/
def State.injWaits (s : State) (code : Nat) : Bool := match s.safety.inj with
  | some (c, _) => c == code
  | none => false
/-- The channels compare their class states; how a record spells them is a free value. -/
def execScCompare (differ : Bool) (s : State) : Outcome :=
  let forced := s.injWaits 7
  .next (if s.monitors && (differ || forced) then
      postF (forced && !differ) 0x18 0x3FF (Config.value s.free).toNat 0 { s with free := s.free + 1 }
    else s)
/-- Expected counts of a 10 µs window (R534). -/
def clockExpect : List Nat := [1000, 120000, 20000, 15000, 15000, 30000, 10000, 10000, 10000, 5000, 1000]
/-- A window of one clock ends; injection 4 makes the core clock read 5% high. -/
def execClockWindow (clk : BitVec 4) (count : BitVec 20) (s : State) : Outcome :=
  let c := clk.toNat
  .next (
    if !s.monitors || decide (11 ≤ c) then s
    else
      let inj := c == 2 && s.injWaits 4
      let n := if inj then count.toNat * 105 / 100 else count.toNat
      let e := clockExpect.getD c 0
      let bad := decide (n * 50 < e * 49) || decide (e * 51 < n * 50)
      let s := setReg pCLK (0x8010 + 4 * c) (w32 n) (setRfld pSAFE 0x8408 c c (b2n bad) s)
      if bad then postF inj 0x11 0x3FF c n s else s)
/-- A rail leaves its window (R464, R482). -/
def execVoltageDeparture (rail : BitVec 4) (high : Bool) (s : State) : Outcome :=
  let r := rail.toNat
  .next (if s.monitors && decide (r < 9) then post 0x12 0x3FF r (b2n high) (setRfld pSAFE 0x8400 r r 1 s) else s)
/-- A die sensor is read: the reading, its maximum (bit 31 of the stored TMON_MAX: it holds one), warning and fault. -/
def execDieTempRead (sensor : BitVec 4) (temp : BitVec 8) (s : State) : Outcome :=
  .next (
    if !s.monitors then s
    else
      let t := temp.toInt
      let s := setReg pRST (0x8010 + 4 * sensor.toNat) (w32 (0x80000000 + temp.toNat)) s
      let m := s.reg pSAFE 0x8404
      let s := if bit m 31 = false ∨ (m.setWidth 8).toInt < t then setReg pSAFE 0x8404 (w32 (0x80000000 + temp.toNat)) s else s
      let s := if Int.ofNat (s.rfld pRST 0x100 7 0) ≤ t then raiseBit pRST 8 s else s
      if 110 ≤ t then post 0x13 0x3FF sensor.toNat temp.toNat s else s)
/-- THERMTRIP_N goes low and stays low until power is removed; the reading that its record carries is a free value. -/
def execThermtrip (s : State) : Outcome :=
  .next (if s.mode.powered && !s.safety.trip then
      let (t, s) := drawFree 256 s
      post 0x13 0x3FF 0xFF t (updSafety (fun u => { u with trip := true }) s)
    else s)
/-- The comparator self-check of a pair: bit 0 of the outcome a false match, bit 1 a false mismatch. -/
def execXchkSelfcheck (pair : BitVec 1) (outcome : BitVec 2) (s : State) : Outcome :=
  let k := pair.toNat
  let runs := match s.modeNow with
    | .off | .reset | .boot | .fallback | .zeroize => false
    | _ => true
  .next (
    if !s.live || !pairOk s.part k || !runs then s
    else
      let inj := (s.xchk k).selfFail
      let s := updXchk k (fun x => { x with selfFail := false }) s
      let s := setReg pSAFE 0x8018 (s.reg pSAFE 0x8018 + 2) s
      let s := if inj || bit outcome 0 then postF inj 0x17 (pXCHK k) k 0 s else s
      if bit outcome 1 then post 0x17 (pXCHK k) k 1 s else s)

/-! ### Watchdogs (R466, R467) -/

/-- An expiry: 0 late, 1 early, 2 wrong value. It disarms the watchdog. -/
def wdExpire (forced : Bool) (n reason : Nat) (s : State) : State :=
  postF forced (if n < 4 then 0x0D else 0x0E) 0x3FF (if n < 4 then n else n - 4) reason (setWd n .off s)
/-- SAFE_WD_CFG.TIMEOUT in ns. -/
def State.wdTimeout (s : State) : Nat := s.rfld pSAFE 0x108 19 0 * 1000
/-- A kick. -/
def wdKick (n : Nat) (v : Word) (s : State) : State :=
  let w := s.wd n
  let age := s.time.ticks - w.since
  let due := if w.first then 10000000 else s.wdTimeout
  if !w.armed then s
  else if due < age then wdExpire false n 0 s
  else if !w.first && decide (age * 4 < s.wdTimeout) then wdExpire false n 1 s
  else if v ≠ w.expected then wdExpire false n 2 s
  else setWd n { armed := true, first := false, expected := if w.expected = 0xA55A then 0x5AA5 else 0xA55A, since := s.time.ticks } s
/-- PST_WD_KICK: the piste's supervisor core only. -/
def pstKick (p : Nat) (req : Requester) (v : Word) (s : State) : WRes :=
  match req with
  | .core t => if isSup t.toNat && tPiste t.toNat == p then .ok (wdKick p v s) else .refuse .notOwner
  | _ => .refuse .notOwner
def execPstWdKick (req : Requester) (piste : BitVec 2) (value : Word) (s : State) : Outcome :=
  .next (regRow req (pPST piste.toNat) 0x8200 (pstKick piste.toNat req value) s)
/-- SAFE_WD_KICK_TEL(n): a thread of pair n. -/
def telKick (n : Nat) (req : Requester) (v : Word) (s : State) : WRes :=
  match req with
  | .tel t => if t.toNat / 4 = n then .ok (wdKick (4 + n) v s) else .refuse .notOwner
  | _ => .refuse .notOwner
def execSafeWdKickTel (req : Requester) (n : BitVec 1) (value : Word) (s : State) : Outcome :=
  .next (regRow req pSAFE (0x8040 + 4 * n.toNat) (telKick n.toNat req value) s)
/-- A kick has not come in time. -/
def execWatchdogExpiry (wd : BitVec 3) (s : State) : Outcome :=
  .next (if s.monitors && (s.wd wd.toNat).armed then wdExpire false wd.toNat 0 s else s)

/-! ### SAFE_IN and PENNANT (R474-R476) -/

/-- Input levels as a record carries them: A in bit 0, B in bit 1, 1 high. -/
def inLevels (a b : Bool) : Nat := b2n a + 2 * b2n b
/-- Filtered levels: both low is a request, at the change that makes them so. -/
def execSafeInSample (a b : Bool) (s : State) : Outcome :=
  .next (
    if !s.mode.powered then s
    else
      let u := s.safety
      let fresh := !u.inSeen || u.inA != a || u.inB != b
      let s := updSafety (fun u => { u with inA := a, inB := b, inSeen := true, disc := u.disc && a != b }) s
      if !a && !b && fresh then post 0x14 0x3FF (inLevels a b) 0 s else s)
/-- The inputs have disagreed for more than 10 ms. -/
def execSafeInDisc (s : State) : Outcome :=
  let u := s.safety
  .next (if s.mode.powered && u.inSeen && u.inA != u.inB then
      post 0x15 0x3FF (inLevels u.inA u.inB) 0 (updSafety (fun u => { u with disc := true }) s)
    else s)
/-- PENNANT toggles (R63, R474): the mode lets it, both channels are sound, and none has taken a DEVICE reaction. -/
def State.pennantRuns (s : State) : Bool :=
  s.live && (s.modeNow == .safeOperate || (s.modeNow == .degraded && s.mode.degFromSafe)) && s.safety.scaOk && s.safety.scbOk &&
    !s.safety.devTaken
def execPennantEdge (s : State) : Outcome :=
  .next (if s.pennantRuns then
      updSafety (fun u => { u with pennantP := !u.pennantP, pennantN := u.pennantP }) s
    else s)
/-- FAULT_N is driven low (R31, R63, R475). -/
def State.faultLow (s : State) : Bool :=
  s.mode.ssLatch || s.safety.devTaken || !s.safety.scaOk || !s.safety.scbOk || s.mode.pllLost || match s.modeNow with
    | .off | .reset | .boot | .fallback | .safeState | .zeroize => true
    | _ => false

/-! ### Core logic self-test (R183, R468, R469) -/

def SelfTest.reset : SelfTest := { core := 0, active := false, offline := false, retried := false, skips := [] }
def State.selfTest (s : State) (p : Nat) : SelfTest := sget .reset s.safety.st p
def setTest (p : Nat) (x : SelfTest) (s : State) : State := updSafety (fun u => { u with st := sset u.st p x }) s
/-- The mode has the rotation run. -/
def State.testMode (s : State) : Bool := match s.modeNow with
  | .commission | .safeOperate | .degraded => true
  | .operate | .maintenance => bit (s.reg pSAFE 0x100) 31
  | _ => false
/-- Threads of a core of a piste. -/
def coreThreads (p core : Nat) : List Nat := rangeFrom (p * 512 + core * 8) 8
/-- Every thread of the core is STOPPED, or WAITING without a work item (R183). -/
def State.coreIdle (s : State) (p core : Nat) : Bool :=
  (coreThreads p core).all (fun t => let th := s.thr t; th.st == .stopped || (th.st == .waiting && th.item.isNone))
/-- An OFFLINE thread returns to its previous state; a pending event wakes it. -/
def onlineThr (s : State) (t : Nat) : State :=
  if (s.thr t).st = .offline then wake t (updThr t (fun th => { th with st := th.prev }) s) else s
/-- The slot of the core in test ends; the rotation moves on, with a round counted after core 63. -/
def nextCore (p : Nat) (skips : Nat) (s : State) : State :=
  let x := s.selfTest p
  let c := x.core.toNat
  let s := (coreThreads p c).foldl onlineThr s
  let s := if c = 63 then bumpWrap pSAFE (0x8100 + p * 0x10) s else s
  setTest p { core := x.core + 1, active := false, offline := false, retried := false, skips := sset x.skips c skips } s
def execStSlotStart (piste : BitVec 2) (s : State) : Outcome :=
  let p := piste.toNat
  .next (if s.live && s.pisteUp p && s.testMode && !(s.selfTest p).active then
      setTest p { s.selfTest p with active := true } s
    else s)
def execStCoreOffline (piste : BitVec 2) (s : State) : Outcome :=
  let p := piste.toNat
  let x := s.selfTest p
  .next (if s.live && s.pisteUp p && x.active && !x.offline && s.coreIdle p x.core.toNat then
      let s := (coreThreads p x.core.toNat).foldl (fun s t => updThr t (fun th => { th with st := .offline, prev := th.st }) s) s
      setTest p { x with offline := true } s
    else s)
/-- The test of a core ends: released, tried again, or failed at the second wrong signature. -/
def execStTestDone (piste : BitVec 2) (ok : Bool) (signature : Word) (s : State) : Outcome :=
  let p := piste.toNat
  let x := s.selfTest p
  let c := x.core.toNat
  .next (
    if !s.live || !s.pisteUp p || !x.offline then s
    else if ok then nextCore p 0 s
    else if !x.retried then setTest p { x with retried := true } s
    else
      let s := setReg pSAFE (0x810C + p * 0x10) (w32 (0x80000000 + c)) s
      post 0x0A 0x3FF (c + p * 0x100) signature.toNat (nextCore p 0 s))
/-- The core has not become idle within 1 ms of its slot's start: skipped, STALE in its eighth round in a row. -/
def execStIdleTimeout (piste : BitVec 2) (s : State) : Outcome :=
  let p := piste.toNat
  let x := s.selfTest p
  let c := x.core.toNat
  let n := sget 0 x.skips c + 1
  .next (
    if !s.live || !s.pisteUp p || !x.active || x.offline then s
    else
      let s := post 0x0B 0x3FF (c + p * 0x100) n (bump pSAFE (0x8104 + p * 0x10) s)
      let s := if 8 ≤ n then post 0x0C 0x3FF (c + p * 0x100) n s else s
      nextCore p n s)
/-- The rotation of every piste stops where the mode does not have it run: cores in test are released. -/
def stopTests (s : State) : State :=
  if s.testMode then s
  else (rangeFrom 0 4).foldl (fun s p =>
    let x := s.selfTest p
    if x.active then setTest p { x with active := false, offline := false, retried := false } ((coreThreads p x.core.toNat).foldl onlineThr s)
    else s) s

/-! ### Fault injection (R479) -/

/-- The SAFETY graph that SAFE_INJ_ARG names: its pair, or the code it is refused with. -/
def State.injGraph (s : State) : Except Status Nat :=
  let g := s.rfld pSAFE 0x8300 7 0
  if !Config.hasSafe s.part || decide (Config.pistes s.part ≤ g / 64) then .error .absent
  else if s.gSafe g then .ok (gEven g) else .error .badArg
/-- An injection accepted: it completes when its record has been classed. -/
def injWait (code : Nat) (s : State) : Option Status × State :=
  (none, updSafety (fun u => { u with inj := some (code, s.reg pSAFE 0x8300), injAt := s.time.ticks }) s)
/-- An injection of a code. -/
def injBody (code : Nat) (req : Requester) (s : State) : Option Status × State :=
  let arg := s.reg pSAFE 0x8300
  if !(s.modeNow == .commission || s.modeNow == .maintenance) then cmdState req pSAFE 0x8304 true s
  else match code with
    | 1 => match s.injGraph with
      | .error st => cmdFail st s
      | .ok g => injWait 1 (updXchk (g / 128) (fun x => { x with flip := some (BitVec.ofNat 8 g) }) s)
    | 2 => match s.injGraph with
      | .error st => cmdFail st s
      | .ok g => injWait 2 (updXchk (g / 128) (fun x => { x with withhold := some (BitVec.ofNat 8 g, none) }) s)
    | 3 =>
      let pair := b2n (bit arg 8)
      injWait 3 (postF true 0x0F 0x3FF pair (Config.value s.free).toNat { s with free := s.free + 1 })
    | 4 => injWait 4 s
    | 5 =>
      if 9 ≤ fld arg 3 0 then cmdFail .badArg s
      else injWait 5 (postF true 0x12 0x3FF (fld arg 3 0) (b2n (Config.flag s.free)) { s with free := s.free + 1 })
    | 6 =>
      if bit arg 8 then injWait 6 (wdExpire true (4 + b2n (bit arg 9)) 0 s)
      else if Config.pistes s.part ≤ fld arg 1 0 then cmdFail .absent s
      else injWait 6 (wdExpire true (fld arg 1 0) 0 s)
    | 7 => injWait 7 s
    | 8 =>
      let k := b2n (bit arg 8)
      if pairOk s.part k then injWait 8 (updXchk k (fun x => { x with selfFail := true }) s) else cmdFail .absent s
    | _ => cmdFail .badArg s
def injCmd (req : Requester) (v : Word) : State → WRes := command pSAFE 0x8308 (injBody (fld v 3 0) req)
def injRow (code : Nat) (req : Requester) (s : State) : State := cmdRow req pSAFE 0x8304 0x8308 (injBody code req) s
def execInjTokenFlip (req : Requester) (s : State) : Outcome := .next (injRow 1 req s)
def execInjTokenWithhold (req : Requester) (s : State) : Outcome := .next (injRow 2 req s)
def execInjLockstep (req : Requester) (s : State) : Outcome := .next (injRow 3 req s)
def execInjClock (req : Requester) (s : State) : Outcome := .next (injRow 4 req s)
def execInjRail (req : Requester) (s : State) : Outcome := .next (injRow 5 req s)
def execInjWatchdog (req : Requester) (s : State) : Outcome := .next (injRow 6 req s)
def execInjScState (req : Requester) (s : State) : Outcome := .next (injRow 7 req s)
def execInjXchkSelf (req : Requester) (s : State) : Outcome := .next (injRow 8 req s)
/-- No record has followed an injection within 20 ms: it ends with TIMEOUT, and what it had armed is undone. -/
def injTimeout (s : State) : State :=
  if s.safety.inj.isSome && decide (20000000 ≤ s.time.ticks - s.safety.injAt) then
    let clear (k : Nat) (s : State) : State := updXchk k (fun x => { x with flip := none, withhold := none, selfFail := false }) s
    cmdDone pSAFE 0x8308 .timeout (updSafety (fun u => { u with inj := none }) (clear 0 (clear 1 s)))
  else s

/-! ### The SAFE page (R482) -/

def safeWrite (req : Requester) (off : Nat) (v mask : Word) (s : State) : WRes :=
  if off = 0x100 then storeIf (fld v 23 16 != 0 && fld v 11 8 != 0) pSAFE off mask v s
  else if off = 0x104 then storeIf (decide (50 ≤ fld v 9 0) && decide (fld v 9 0 ≤ 1000)) pSAFE off mask v s
  else if off = 0x108 then storeIf (decide (100 ≤ fld v 19 0) && decide (fld v 19 0 ≤ 100000)) pSAFE off mask v s
  else if off = 0x8040 then telKick 0 req v s
  else if off = 0x8044 then telKick 1 req v s
  else if off = 0x8304 then injCmd req v s
  else if off = 0x9020 then safePop s
  else .ok (store pSAFE off mask v s)
def State.safeStatus (s : State) : Word :=
  let u := s.safety
  w32 (b2n u.scaOk + b2n u.scbOk * 2 + b2n s.pennantRuns * 4 + b2n s.faultLow * 8 + b2n u.inA * 0x10 + b2n u.inB * 0x20 +
    b2n u.disc * 0x40 + u.lastClass.toNat * 0x100 + u.suspect.toNat * 0x1000 + b2n u.trip * 0x10000)
def safeRead (s : State) (off : Nat) : Option Word :=
  if off = 0x8000 then some s.safeStatus
  else if 0x8108 ≤ off ∧ off < 0x8140 ∧ off % 16 = 8 then
    let x := s.selfTest ((off - 0x8108) / 16)
    some (w32 (x.core.toNat + b2n x.offline * 0x100))
  else if off = 0x8404 then some (s.reg pSAFE off &&& 0xFF)
  else if 0x9000 ≤ off ∧ off < 0x9020 then
    some (w32 (match s.safety.queue.recs with
      | r :: _ => leNat (Machine.slice r.bytes (off - 0x9000) 4)
      | [] => 0))
  else if off = 0x9024 then some (w32 s.safety.queue.recs.length)
  else none

end Sys2Proof.Machine
end

