-- ==== Sys2Proof/Machine/Life.lean ====
section
/-! DEFINITION. The life cycle: the LIFE commands, the fuses, tamper events, the end of the secure wipe and of the ZEROIZE erasure,
and the LIFE page (R350-R352, R486-R497). -/
namespace Sys2Proof.Machine
open Sys2Proof

def updLife (f : LifeState → LifeState) (s : State) : State := { s with life := f s.life }

/-! ### Tamper (R493-R495) -/

/-- LIFE_TAMPER_CFG bit 0 PIN_EN, bit 1 GLITCH_EN; both read 1 in FIELD and RETURN. -/
def State.tamperEn (s : State) (i : Nat) : Bool :=
  bit (s.reg pLIFE 0x100) i || s.life.state == 2 || s.life.state == 3
/-- LIFE_TAMPER_STATUS. -/
def State.tamperStatus (s : State) : Word := w32 (s.life.tamper.toNat + b2n s.life.tamperPin * 0x100)
/-- A tamper event whose cause is latched in a bit of LIFE_TAMPER_STATUS: the secure wipe starts, the event is logged, a
command programming fuses is to read STATE_REFUSED, and ZEROIZE is the coming mode. -/
def tamper (i : Nat) (s : State) : State :=
  let s := startWipe (updLife (fun l => { l with tamper := setBit l.tamper i true, opRefused := l.op.isSome }) s)
  let s := bump pLIFE 0x8034 s
  zeroCause 0x0A (logEvent 0x07 pLIFE s.tamperStatus.toNat 0 0 s)
/-- TAMPER_N low, a voltage or clock glitch, each where its sensor is enabled, or a WIPE_FAIL that has not been taken yet. -/
def execTamperEvent (cause : TamperCause) (s : State) : Outcome :=
  .next (if !s.mode.powered then s
    else match cause with
      | .pin =>
        let s := updLife (fun l => { l with tamperPin := false }) s
        if s.tamperEn 0 then tamper 0 s else s
      | .voltage => if s.tamperEn 1 then tamper 1 s else s
      | .clock => if s.tamperEn 1 then tamper 2 s else s
      | .wipeFail => if bit s.life.tamper 3 then s else tamper 3 s)

/-! ### The wipe and the erasure end (R351, R352, R496) -/

/-- The page that shows a unit's WIPE_STATUS. -/
def wipePage (unit : Nat) : Nat := if unit = 32 then pTEL else pCLU unit
/-- How records name a unit: the cluster, or 0xFF for the Telemark complex. -/
def wipeName (unit : Nat) : Nat := if unit = 32 then 0xFF else unit
/-- A unit's wipe completes: DONE, or FAIL with its record and the tamper event that it is. -/
def execWipeDone (unit : BitVec 6) (ok : Bool) (s : State) : Outcome :=
  let u := unit.toNat
  let w := sget { running := false, done := false, fail := false : WipeState } s.wipes u
  .next (if s.mode.powered && w.running then
      let s := zeroSecure u { s with wipes := sset s.wipes u { running := false, done := true, fail := w.fail || !ok } }
      let s := logEvent 0x06 (wipePage u) (s.wipeStatus u).toNat (wipeName u) 0 s
      if ok then s else tamper 3 (post 0x19 (wipePage u) (s.wipeStatus u).toNat (wipeName u) s)
    else s)
/-- Memories that the erasure writes to zero: the HBM, the scratchpads, the instruction and code stores, the signal memory and the
cells with their control words. -/
def erased (a : Nat) : Bool := let k := a / 0x1000000000000; k != 6 && (decide (k ≤ 8) || k == 15)
/-- A thread whose registers and control registers have been written to zero. -/
def zeroThr (t : Nat) : Thread := { Thread.reset t with pc := 0, pl := 0, startPc := 0 }
/-- The threads present. -/
def allThreads (part : Part) : List Nat := rangeFrom 0 (512 * Config.pistes part) ++ rangeFrom 2048 8
/-- Everything that ZEROIZE destroys. -/
def eraseAll (s : State) : State :=
  { s with mem := s.mem.filter (fun c => !erased c.1), poison := s.poison.filter (fun w => !erased (w * 8))
           cells := [], dyn := [], pkts := [], threads := (allThreads s.part).map (fun t => (t, zeroThr t))
           sige := { s.sige with bad := [] }, hbm := { s.hbm with lines := [] }, boot := { s.boot with staging := none } }
/-- The erasure completes: DONE, and FAIL where a word has failed its read-back. -/
def execZeroizeDone (ok : Bool) (s : State) : Outcome :=
  .next (if s.modeNow == .zeroize && s.life.zeroing then
      setReg pLIFE 0x8050 (w32 (1 + 2 * b2n (!ok))) (updLife (fun l => { l with zeroing := false }) (eraseAll s))
    else s)

/-! ### The commands (R490, R491) -/

/-- LIFE_ARG.SLOT. -/
def State.lifeSlot (s : State) : Nat := s.rfld pLIFE 0x8100 1 0
/-- Consecutive dwords of the page as bytes. -/
def State.lifeBytes (s : State) (off n : Nat) : Bytes := wordsBytes ((rangeFrom 0 n).map (fun k => s.reg pLIFE (off + 4 * k)))
/-- A P-384 point, x then y. -/
def p384Point (key : Bytes) : Bool :=
  let x := beNat (Machine.slice key 0 48)
  let y := beNat (Machine.slice key 48 48)
  decide (x < p384P) && decide (y < p384P) && y * y % p384P == (x * x * x + (p384P - 3) * x + p384B) % p384P
/-- A key slot that is programmed and not revoked. -/
def State.slotGood (s : State) (i : Nat) : Bool := bit s.life.programmed i && !bit s.life.revoked i
/-- The bytes an authorisation signs: the tag, LIFE_UID and LIFE_NONCE. -/
def State.authBytes (s : State) (tag : Nat) : Bytes :=
  beBytes 4 tag ++ leBytes 16 Config.lifeUid.toNat ++ s.lifeBytes 0x8040 4
/-- An authorisation: the nonce is used up; what a verified one does follows. -/
def authorised (tag : Nat) (go : State → Option Status × State) (s : State) : Option Status × State :=
  if (s.lifeBytes 0x8040 4).all (· == 0) then cmdFail .badArg s
  else
    let ok := s.keyUsable s.lifeSlot && ecdsaVerify (s.pubKey s.lifeSlot) (s.lifeBytes 0x9100 24) (sha384 (s.authBytes tag))
    let s := (rangeFrom 0 4).foldl (fun s k => setReg pLIFE (0x8040 + 4 * k) 0 s) s
    if ok then go s else (some .notOwner, bump pLIFE 0x8038 s)
/-- Fuses are being programmed for a command. -/
def fuse (code slot : Nat) (s : State) : Option Status × State :=
  (none, updLife (fun l => { l with op := some (code, slot), opRefused := false }) s)
/-- A transition to a later state. -/
def toState (code : Nat) (s : State) : Option Status × State := fuse code 0 s
/-- What a command does in a state that lists it. -/
def lifeDo (code : Nat) (s : State) : Option Status × State :=
  let st := s.life.state.toNat
  let slot := s.lifeSlot
  match code with
  | 1 =>
    if 1 < st ∨ bit s.life.programmed slot ∨ p384Point (s.lifeBytes 0x9000 24) = false then cmdFail .badArg s
    else fuse 1 slot (updLife (fun l => { l with keys := sset l.keys slot (s.lifeBytes 0x9000 24) }) s)
  | 2 =>
    if 3 < st ∨ bit s.life.programmed slot = false ∨ (rangeFrom 0 4).any (fun i => i != slot && s.slotGood i) = false then cmdFail .badArg s
    else fuse 2 slot s
  | 3 => if st ≠ 0 ∨ s.life.programmed = 0 then cmdFail .badArg s else toState 3 s
  | 4 => if st ≠ 1 ∨ s.boot.verified = false then cmdFail .badArg s else toState 4 s
  | 5 =>
    if st ≠ 2 ∧ st ≠ 3 then cmdFail .badArg s
    else (some .ok, (rangeFrom 0 4).foldl (fun s k => let (r, s) := drawRandom s; setReg pLIFE (0x8040 + 4 * k) r s) s)
  | 6 => if st ≠ 2 then cmdFail .badArg s else authorised 0x5254524E (toState 6) s
  | 7 =>
    if st = 4 then cmdFail .badArg s
    else if st = 2 ∨ st = 3 then authorised 0x53435250 (toState 7) s else toState 7 s
  | 8 =>
    if st ≠ 2 then cmdFail .badArg s
    else authorised 0x44425547 (fun s => (some .ok, updLife (fun l => { l with unlocked := true }) s)) s
  | _ => cmdFail .badArg s
/-- A LIFE command: only CONFIGURE and MAINTENANCE carry it out. -/
def lifeBody (code : Nat) (req : Requester) (s : State) : Option Status × State :=
  if s.modeNow == .configure || s.modeNow == .maintenance then lifeDo code s else cmdState req pLIFE 0x8104 false s
def lifeRow (code : Nat) (req : Requester) (s : State) : State := cmdRow req pLIFE 0x8104 0x8108 (lifeBody code req) s
def execKeyProg (req : Requester) (s : State) : Outcome := .next (lifeRow 1 req s)
def execKeyRevoke (req : Requester) (s : State) : Outcome := .next (lifeRow 2 req s)
def execProvision (req : Requester) (s : State) : Outcome := .next (lifeRow 3 req s)
def execToField (req : Requester) (s : State) : Outcome := .next (lifeRow 4 req s)
def execNonce (req : Requester) (s : State) : Outcome := .next (lifeRow 5 req s)
def execToReturn (req : Requester) (s : State) : Outcome := .next (lifeRow 6 req s)
def execScrap (req : Requester) (s : State) : Outcome := .next (lifeRow 7 req s)
def execDebugUnlock (req : Requester) (s : State) : Outcome := .next (lifeRow 8 req s)

/-- The fuse group of a state holds 8 fuses, all blown. -/
def reachState (code : Nat) (s : State) : State :=
  let g := fuseGroup code
  let s := updLife (fun l => { l with fuses := sset l.fuses g 8, state := BitVec.ofNat 3 (max l.state.toNat g) }) s
  startWipe (if s.life.state == 2 || s.life.state == 3 then setReg pLIFE 0x100 3 s else s)
/-- Fuse programming finishes, and its command with it. -/
def execFuseProgrammingDone (s : State) : Outcome :=
  .next (match s.mode.powered, s.life.op with
    | true, some (code, slot) =>
      let s := match code with
        | 1 => updLife (fun l => { l with programmed := setBit l.programmed slot true }) s
        | 2 => updLife (fun l => { l with revoked := setBit l.revoked slot true }) s
        | _ => reachState code s
      let st : Status := if s.life.opRefused then .stateRefused else .ok
      cmdDone pLIFE 0x8108 st (updLife (fun l => { l with op := none, opRefused := false }) s)
    | _, _ => s)

/-! ### The LIFE page (R497) -/

def lifeWrite (req : Requester) (off : Nat) (v mask : Word) (s : State) : WRes :=
  if off = 0x100 then storeIf (fld v 1 0 == 3 || !(s.life.state == 2 || s.life.state == 3)) pLIFE off mask v s
  else if off = 0x8104 then command pLIFE 0x8108 (lifeBody (fld v 3 0) req) s
  else .ok (store pLIFE off mask v s)
/-- LIFE_STATE. -/
def State.lifeState (s : State) : Word :=
  let l := s.life
  w32 (b2n s.debuggerOpen * 0x1000000 + l.revoked.toNat * 0x100000 + l.programmed.toNat * 0x10000 + b2n l.completed * 0x100 +
    l.state.toNat)
def lifeRead (s : State) (off : Nat) : Option Word :=
  if off = 0x100 then some (w32 (b2n (s.tamperEn 0) + 2 * b2n (s.tamperEn 1)))
  else if off = 0x8000 then some s.lifeState
  else if 0x8010 ≤ off ∧ off < 0x8020 then some (w32 (Config.lifeUid.toNat / 2 ^ (8 * (off - 0x8010))))
  else if off = 0x8030 then some s.tamperStatus
  else none

end Sys2Proof.Machine
end

