-- ==== Sys2Proof/Machine/Pins.lean ====
section
/-! DEFINITION. Reference clocks, the test access port, and the CLK and RST pages (R30, R31, R518, R522, R526, R527, R534, R535,
R548, R549). -/
namespace Sys2Proof.Machine
open Sys2Proof

/-! ### Reference inputs (R518) -/

/-- Input `i` of CLK_REF_STATUS exists on the part: 0-15 field groups, 16-23 trunk groups, 24 management, 25 PCIe. -/
def refPresent (part : Part) (i : Nat) : Bool :=
  if i < 16 then decide (i * 8 < Config.fieldLanes part) else if i < 24 then decide ((i - 16) * 4 < Config.trunkLanes part)
  else decide (i < 26)
/-- The lanes or the link of an input go DOWN with what is written. -/
def refDown (i : Nat) (write : State → State) (s : State) : State :=
  if i = 25 then linkDown (write s)
  else
    let lanes := (s.fmx.map (fun e => e.1)).filter (fun l => l / 8 == i && (s.fmxLane l).lock && s.isFmxLane l)
    let s := withLinks write (lanes.foldl (fun s l => loseLock l s) s)
    let ports := (s.ports.map (fun e => e.1)).filter (fun p => isLine p && refInput p == i)
    ports.foldl (fun s p => updPort p (fun x => { x with state := 1 }) s) s
/-- CLK_REF_EN of an input; the PCIe reference has no enable. -/
def State.refOn (s : State) (i : Nat) : Bool := decide (25 ≤ i) || bit (s.reg pCLK 0x100) i
def execRefClockLoss (input : BitVec 5) (s : State) : Outcome :=
  let i := input.toNat
  let gone (s : State) : State := { s with refOk := setBit s.refOk i false }
  .next (
    if !refPresent s.part i || !bit s.refOk i then s
    else if !s.live then gone s
    else
      let s := refDown i gone s
      if s.refOn i then raiseBit pCLK 8 (bump pCLK 0x8008 s) else s)
def execRefClockReturn (input : BitVec 5) (s : State) : Outcome :=
  let i := input.toNat
  .next (if refPresent s.part i then { s with refOk := setBit s.refOk i true } else s)

/-! ### The test access port (R548, R549) -/

def tap (m : TapMode) (s : State) : State := if s.mode.powered then { s with tap := m } else s
/-- An instruction that takes hold of the pins in RESET only. -/
def pinTap (m : TapMode) (s : State) : State := tap (if s.mode.inReset then m else .bypass) s
def execTapReset (s : State) : Outcome := .next (tap .idle s)
/-- The identification code. -/
def State.idcode (s : State) : Word :=
  w32 (s.stepping.toNat % 16 * 0x10000000 + (Config.devPart s.part).toNat % 65536 * 0x1000 + Config.jedec.toNat * 2 + 1)
def execIdcode (s : State) : Outcome := .next (if s.mode.powered then emit (.tdo s.idcode) (tap .idcode s) else s)
def execBypass (s : State) : Outcome := .next (tap .bypass s)
/-- The cells are preloaded; what they sample of the pins is not kept. -/
def execSamplePreload (cells : Bytes) (s : State) : Outcome :=
  .next (if s.mode.powered then { s with tap := .sample, boundary := cells } else s)
def execExtest (s : State) : Outcome := .next (pinTap .extest s)
def execClamp (s : State) : Outcome := .next (pinTap .clamp s)
def execHighz (s : State) : Outcome := .next (pinTap .highz s)

/-! ### The CLK and RST pages (R534, R535) -/

/-- A receiver that is turned off takes its lanes DOWN; its loss is not counted. -/
def clkWrite (_ : Requester) (off : Nat) (v mask : Word) (s : State) : WRes :=
  if off = 0x100 then
    let v := w32 ((rangeFrom 0 25).foldl (fun n i => if bit v i && refPresent s.part i then n + 2 ^ i else n) 0)
    let off_ := (rangeFrom 0 25).filter (fun i => bit (s.reg pCLK 0x100) i && !bit v i)
    .ok (store pCLK off mask v (off_.foldl (fun s i => refDown i (setRfld pCLK 0x100 i i 0) s) s))
  else .ok (store pCLK off mask v s)
/-- CLK_REF_STATUS; REFCLK itself is checked by the safety controller (R463). -/
def State.refStatus (s : State) : Word :=
  let ok := (rangeFrom 0 26).foldl (fun n i => if bit s.refOk i && refPresent s.part i then n + 2 ^ i else n) 0
  w32 (ok + b2n (!bit (s.reg pSAFE 0x8408) 0) * 0x4000000)
def clkRead (s : State) (off : Nat) : Option Word := if off = 0x8004 then some s.refStatus else none

def rstWrite (_ : Requester) (off : Nat) (v mask : Word) (s : State) : WRes :=
  if off = 0x100 then storeIf (decide (70 ≤ fld v 7 0) && decide (fld v 7 0 ≤ 105)) pRST off mask v s
  else .ok (store pRST off mask v s)
/-- RST_STATUS. -/
def State.rstStatus (s : State) : Word :=
  w32 (s.mode.resetCause.toNat + b2n s.mode.zeroHold * 0x10 + s.mode.zeroCause.toNat * 0x100)
/-- RAIL_MV is a measurement: a free value. -/
def rstRead (s : State) (off : Nat) : Option Word :=
  if off = 0x8000 then some s.rstStatus
  else if 0x8080 ≤ off ∧ off < 0x80A4 then some (lo32 (Config.value (s.free + off)) &&& 0xFFF)
  else none

end Sys2Proof.Machine
end

