-- ==== Sys2Proof/Machine/Park.lean ====
section
/-! DEFINITION. What the completion of a parking operation does, but for accesses to register pages, which stand with the register
window (R161-R163, R225, R237-R241, R388, R540, R543). -/
namespace Sys2Proof.Machine
open Sys2Proof

/-- A status written, or the code of an error completion (R163, R241). -/
def parkStatus (t : Nat) (rd : Reg) (err : Bool) (go : State → Status × State) (s : State) : Body :=
  if err then .retire (setReg' t rd (w64 Status.ecc.code) s)
  else
    let (st, s) := go s
    .retire (setReg' t rd (w64 st.code) s)
/-- Packet bytes read at completion: an uncorrectable error is a COPROC_ERROR of the unit (R234). -/
def parkPacket (t unit : Nat) (err : Bool) (go : Packet → State → Body) (s : State) : Body :=
  match s.held t with
  | none => .fault 0x12 (unit * 256 + 2)
  | some (_, k) => if err || s.cellsBad k.cells then .faultIn (pktUe k s) 0x12 (unit * 256 + 4) else go k s
/-- A context window access whose context has come: resident, or lost, in which case it reads zero (R163). -/
def parkCtx (t : Nat) (err : Bool) (gone : State → Body) (go : PktId → Packet → State → Body) (s : State) : Body :=
  match s.held t with
  | none => .fault 0x09 0
  | some (p, k) =>
    let s := if err && !s.hbm.quarantined.contains k.flow.toNat then quarantineFlow k.flow.toNat 0 (s.flowOff k.flow.toNat) s else s
    if s.ctxGone k then gone (loseCtx t p s) else if !k.hasSnap then .stall else go p k s

/-- What the parked operation does at its completion, with an uncorrectable error or without. -/
def parkBody (t : Nat) (err : Bool) (op : Parked) (s : State) : Body :=
  let th := s.thr t
  match op with
  | .wait _ | .pageLoad .. | .pageStore .. => .stall
  | .value rd v ea => let s := setReg' t rd v s; if ea = 0 then .retire s else .access true false ea 4 s
  | .finished rd v acc ea n =>
    let s := setReg' t rd v s
    if acc = 0 then .retire s else .access (acc == 1) (acc == 2) ea n s
  | .load rd ea m n sign swap =>
    if err || s.poisoned m n then
      .faultIn (loadUe (tPage t) m (hbmPortOf t) (if err then poisonMem (m / 32 * 32) 32 s else s)) 0x0E ea
    else .access true false ea n (setReg' t rd (loadVal sign swap (s.bytes m n)) s)
  | .ctxLoad rd ea off n sign swap =>
    parkCtx t err (fun s => .access true false ea n (setReg' t rd 0 s)) (fun p k s =>
      .access true false ea n (setReg' t rd (loadVal sign swap (Machine.slice k.context off n)) (setPkt p (k.readCtx (s.addMask k) off) s))) s
  | .ctxStore ea off b =>
    parkCtx t err (fun s => .access false true ea b.length s)
      (fun p k s => .access false true ea b.length (setPkt p (k.writeCtx off b) s)) s
  | .pktRd rd o => parkPacket t 0 err (fun k s => .retire (setReg' t rd (pktRead k o) s)) s
  | .prange rd o n acc => parkPacket t 1 err (fun k s =>
      .retire (setReg' t rd 0 (updThr t (fun x => x.setAcc acc ((th.acc acc).feed (Machine.slice k.cur o n))) s))) s
  | .crange rd o n => parkPacket t 1 err (fun k s =>
      .retire (setReg' t rd 0 (updThr t (fun x => { x with cs := csAdd x.cs (Machine.slice k.cur o n) }) s))) s
  | .ffind rd => parkStatus t rd err (ffindGo t) s
  | .fins rd flow => parkStatus t rd err (finsGo t flow) s
  | .fdel rd => parkStatus t rd err (fdelGo t) s
  | .hfind rd n => parkStatus t rd err (hfindGo t n) s
  | .hins rd d n => parkStatus t rd err (hinsGo t n d) s
  | .hdel rd n => parkStatus t rd err (hdelGo t n) s
  | .rfind rd v n => parkStatus t rd err (rfindGo t n v) s

/-- The register that the operation writes. -/
def Parked.dest : Parked → Reg
  | .wait rd | .value rd _ _ | .finished rd _ _ _ _ | .load rd _ _ _ _ _ | .ctxLoad rd _ _ _ _ _ | .pageLoad rd _ _ _ _ _
  | .pktRd rd _ | .prange rd _ _ _ | .crange rd _ _ | .ffind rd | .fins rd _ | .fdel rd | .hfind rd _ | .hins rd _ _ | .hdel rd _
  | .rfind rd _ _ => rd
  | .ctxStore .. | .pageStore .. => 0

/-- A completion that arrived during a halt: what it does outside the thread is done, its result waits for the resume. -/
def parkLate (t : Nat) (w : Word) (rd : Reg) (acc ea n : Nat) (g : SMap W64) (s : State) : State :=
  updThr t (fun th => { th with g := g, late := some false, park := some (.finished rd (th.rg rd) acc ea n, w) }) s
/-- The thread runs again, its instruction retired, and stops where a TSTOP is pending. -/
def parkRun (t : Nat) (w : Word) (s : State) : State :=
  let s := updThr t (fun th => { th with st := .running, park := none, late := none }) s
  finish w t ((s.thr t).pc.toNat + 4) s
def parkEnd (t : Nat) (w : Word) (rd : Reg) (b : Body) (s : State) : State :=
  let th := s.thr t
  if th.st = .halted then
    match b with
    | .retire s' => parkLate t w rd 0 0 0 th.g s'
    | .access l _ a n s' => parkLate t w rd (if l then 1 else 2) a n th.g s'
    | .fault c a => faultThr t c w a s
    | .faultIn s' c a => faultThr t c w a s'
    | _ => s
  else match b with
    | .retire s' => stopIfPending t (parkRun t w s')
    | .access l st a n s' => stopIfPending t (dataBreak t l st a n (parkRun t w s'))
    | .fault c a => faultThr t c w a s
    | .faultIn s' c a => faultThr t c w a s'
    | _ => s

/-- The thread is PARKED, or was when it was halted and its completion has not come yet. -/
def Thread.awaits (th : Thread) : Bool := th.st == .parked || (th.st == .halted && th.prev == .parked && th.late.isNone)
/-- A HALTED thread returns to its previous state: a late completion takes effect, a pending event wakes it (R540). -/
def resumeThr (t : Nat) (s : State) : State :=
  let th := s.thr t
  let s := updThr t (fun th => { th with st := th.prev }) s
  match th.prev, th.late, th.park with
  | .parked, some _, some (op, w) => parkEnd t w op.dest (parkBody t false op s) s
  | _, _, _ => wake t s

end Sys2Proof.Machine
end

