-- ==== Sys2Proof/Machine/Debug.lean ====
section
/-! DEFINITION. The debugger's commands, breakpoints, trace, and the DBG page (R492, R537-R547, R550). -/
namespace Sys2Proof.Machine
open Sys2Proof

/-! ### Permissions and scopes (R538, R539) -/

def debugMode (s : State) : Bool := s.modeNow == .commission || s.modeNow == .maintenance
def traceMode (s : State) : Bool := match s.modeNow with
  | .commission | .operate | .maintenance | .safeState => true
  | _ => false
/-- The thread of DBG_ARG, and its scope. -/
def State.dbgThread (s : State) : Nat := s.rfld pDBG 0x8100 10 0
def State.dbgScope (s : State) : Nat := s.rfld pDBG 0x8100 13 12
/-- The threads of the scope of DBG_ARG, in ascending order. -/
def State.dbgThreads (s : State) : List Nat :=
  let n := 8 ^ s.dbgScope
  rangeFrom (s.dbgThread / n * n) (if s.dbgScope = 3 then 512 else n)
/-- What every debugger action asks first: its thread's piste, the mode, and an open debugger. -/
def dbgJudge (code : Nat) (mode : State → Bool) (req : Requester) (go : State → Option Status × State) (s : State) :
    Option Status × State :=
  if Config.pistes s.part ≤ s.dbgThread / 512 then cmdFail .absent s
  else if !mode s then cmdState req pDBG 0x8104 (code == 1) s
  else if !s.debuggerOpen then cmdFail .notOwner s
  else go s
/-- A command on the threads of its scope for which it is valid; `other` is what a single thread in another state answers. -/
def dbgOn (valid : Thread → Bool) (other : Thread → Status) (act : Nat → State → State) (s : State) : Option Status × State :=
  if s.dbgScope = 0 ∧ valid (s.thr s.dbgThread) = false then
    (some (other (s.thr s.dbgThread)), setReg pDBG 0x810C 0 s)
  else
    let ts := s.dbgThreads.filter (fun t => valid (s.thr t))
    (some .ok, ts.foldl (fun s t => act t s) (setReg pDBG 0x810C (w32 ts.length) s))

/-! ### The commands (R539-R547) -/

def haltable (th : Thread) : Bool := th.st == .running || th.st == .parked || th.st == .waiting
def haltBody : State → Option Status × State :=
  dbgOn haltable (fun th => if th.st = .halted then .ok else .busy) (fun t s => lastHit t 0 0 (haltThr t 0 s))
def dbgResumeBody : State → Option Status × State := dbgOn (·.st == .halted) (fun _ => .busy) resumeThr
/-- A thread is let go for one instruction; a breakpoint at it is ignored. -/
def stepThr (t : Nat) (s : State) : State := resumeThr t (updThr t (fun th => { th with stepping := true, skipBp := true }) s)
/-- STEP runs on until each thread has retired its instruction. -/
def stepBody (s : State) : Option Status × State :=
  let (st, s') := dbgOn (·.st == .halted) (fun _ => .busy) stepThr (setReg pDBG 0x8104 (s.reg pDBG 0x8100) s)
  if st = some .ok ∧ s.dbgThreads.any (fun t => (s'.thr t).stepping) then (none, s') else (st, s')
/-- HALTED, holding a packet. -/
def holdsPacket (th : Thread) : Bool := th.st == .halted && (match th.item with
  | some (.pkt _) => true
  | _ => false)
def abandonBody : State → Option Status × State :=
  dbgOn holdsPacket (fun th => if th.st = .halted then .empty else .busy) abandonItem
def traceSet (run : Bool) (s : State) : Option Status × State :=
  (some .ok, updPiste (s.dbgThread / 512) (fun q => { q with traceRun := run }) s)
def dbgBody (code : Nat) (req : Requester) : State → Option Status × State :=
  match code with
  | 1 => dbgJudge 1 debugMode req haltBody
  | 2 => dbgJudge 2 debugMode req dbgResumeBody
  | 3 => dbgJudge 3 debugMode req stepBody
  | 4 => dbgJudge 4 debugMode req abandonBody
  | 5 => dbgJudge 5 traceMode req (traceSet true)
  | 6 => dbgJudge 6 (fun _ => true) req (traceSet false)
  | _ => cmdFail .badArg
def dbgRow (code : Nat) (req : Requester) (s : State) : State := cmdRow req pDBG 0x8104 0x8108 (dbgBody code req) s
def execHalt (req : Requester) (s : State) : Outcome := .next (dbgRow 1 req s)
def execDbgResume (req : Requester) (s : State) : Outcome := .next (dbgRow 2 req s)
def execStep (req : Requester) (s : State) : Outcome := .next (dbgRow 3 req s)
def execAbandon (req : Requester) (s : State) : Outcome := .next (dbgRow 4 req s)
def execTraceStart (req : Requester) (s : State) : Outcome := .next (dbgRow 5 req s)
def execTraceStop (req : Requester) (s : State) : Outcome := .next (dbgRow 6 req s)
/-- The instruction of a step has not retired within 1 ms; the thread goes on and halts before its next issue. -/
def execStepTimeout (t : Tid) (s : State) : Outcome :=
  .next (if s.live && bit (s.reg pDBG 0x8108) 30 && (s.thr t.toNat).st != .halted then cmdDone pDBG 0x8108 .timeout s else s)

/-! ### Leaving the debug modes (R546, R547) -/

/-- Steps still in progress end as though completed. -/
def endSteps (s : State) : State :=
  let s := { s with threads := s.threads.map (fun e => (e.1, { e.2 with stepping := false, skipBp := false })) }
  if bit (s.reg pDBG 0x8108) 30 then cmdDone pDBG 0x8108 .ok s else s
/-- Every halted thread resumed, steps ended, breakpoints disarmed. -/
def forcedResume (s : State) : State :=
  let ts := (s.threads.filter (fun e => e.2.st == .halted)).map (fun e => e.1)
  let s := ts.foldl (fun s t => resumeThr t s) (endSteps s)
  let s := (rangeFrom 0 (Config.pistes s.part)).foldl (fun s p =>
    (rangeFrom 0 8).foldl (fun s n => setRfld pDBG (bpOff p n + 8) 31 31 0 s) s) s
  bumpBy pDBG 0x8004 ts.length s
/-- Trace units stop where TRACE_START is refused. -/
def stopTraces (s : State) : State :=
  if traceMode s then s
  else (rangeFrom 0 4).foldl (fun s p => if (s.piste p).traceRun then updPiste p (fun q => { q with traceRun := false }) s else s) s

/-! ### The DBG page (R550) -/

/-- A write that only an open debugger in a debug mode makes. -/
def dbgOpenWrite (go : State → WRes) (s : State) : WRes :=
  if !debugMode s then .refuse .stateRefused else if !s.debuggerOpen then .refuse .notOwner else go s
def bpCtlBad (p : Nat) (v : Word) : Bool :=
  decide (12 < fld v 20 16) || (fld v 29 28 == 0 && fld v 20 16 != 2) || fld v 10 9 != p
/-- A write of the context window of the debugger: the thread must be HALTED. -/
def dbgCtxWrite (off : Nat) (v : W64) (s : State) : WRes :=
  let t := s.dbgThread
  if Config.pistes s.part ≤ t / 512 then .refuse .absent
  else dbgOpenWrite (fun s =>
    if off = 0xC108 ∧ 1 < fld v 1 0 then .refuse .badArg
    else if (s.thr t).st ≠ .halted then .refuse .busy
    else .ok (updThr t (ctxSet s.part t off v) s)) s
def dbgWrite (req : Requester) (off : Nat) (v mask : Word) (s : State) : WRes :=
  if off = 0x8104 then command pDBG 0x8108 (dbgBody (fld v 3 0) req) s
  else if 0x8400 ≤ off ∧ off < 0x8800 then
    dbgOpenWrite (fun s => storeIf (!bpCtlBad ((off - 0x8400) / 0x100) v) pDBG off mask v s) s
  else if 0xC000 ≤ off then dbgCtxWrite off (v.setWidth 64) s
  else .ok (store pDBG off mask v s)
def dbgWrite64 (_ : Requester) (off : Nat) (v : W64) (s : State) : WRes :=
  if 0xC000 ≤ off then dbgCtxWrite off v s
  else if 0x8800 ≤ off then
    if (hbmOff s.part v.toNat 0x2000000).isSome then .ok (setReg64 pDBG off v s) else .refuse .badArg
  else dbgOpenWrite (fun s => .ok (setReg64 pDBG off v s)) s
/-- The bytes of a trace record. -/
def TraceRec.bytes (r : TraceRec) : Bytes :=
  leBytes 4 (r.kind.toNat + r.thread * 256) ++ leBytes 4 r.time.toNat ++ leBytes 8 r.d0.toNat ++ leBytes 8 r.d1.toNat ++ leBytes 8 0
def dbgRead (s : State) (off : Nat) : Option Word :=
  if off = 0x8000 then
    let halted := (s.threads.filter (fun e => e.2.st == .halted)).length
    let runs := (rangeFrom 0 4).foldl (fun n p => if (s.piste p).traceRun then n + 2 ^ p else n) 0
    some (w32 (halted % 4096 + runs * 0x10000))
  else if 0xC000 ≤ off ∧ off < 0xC178 then
    some (if Config.pistes s.part ≤ s.dbgThread / 512 then 0 else ctxRead s s.dbgThread off)
  else if 0xE000 ≤ off then
    let i := (s.rfld pDBG 0x8900 12 6 * 128 + (off - 0xE000) / 32) % 8192
    some (match sfind (s.piste (s.rfld pDBG 0x8900 1 0)).trace i with
      | some r => w32 (leNat (Machine.slice r.bytes ((off - 0xE000) % 32) 4))
      | none => 0)
  else none

end Sys2Proof.Machine
end

