-- ==== Sys2Proof/Machine/Log.lean ====
section
/-! DEFINITION. The event log, the signal history, and the LOG page; the Bunting stream's samples stand with the register reads
(R500-R507, R509, R510). -/
namespace Sys2Proof.Machine
open Sys2Proof

/-! ### The event log (R501-R503) -/

/-- The bytes of a log record. -/
def LogRec.bytes (r : LogRec) : Bytes :=
  leBytes 4 (r.kind.toNat + r.page.toNat * 0x100 + r.mode.code * 0x100000) ++ leBytes 4 r.d0.toNat ++ leBytes 4 r.d1.toNat ++
    leBytes 4 r.d2.toNat ++ leBytes 4 r.ns.toNat ++ leBytes 4 r.sec.toNat ++ leBytes 4 r.seq.toNat ++ leBytes 4 0
/-- A write of LOG_RD: not above LOG_WR, compared modulo 2^32. -/
def logRdWrite (v : Word) (s : State) : WRes := storeIf (decide ((s.reg pLOG 0x8000 - v).toNat < 0x80000000)) pLOG 0x8004 0xFFFFFFFF v s
def execLogRdWrite (req : Requester) (value : Word) (s : State) : Outcome := .next (regRow req pLOG 0x8004 (logRdWrite value) s)
def appendBody (req : Requester) (s : State) : Option Status × State :=
  let kind := s.rfld pLOG 0x8100 7 0
  if s.modeNow == .boot || s.modeNow == .zeroize then cmdState req pLOG 0x8110 false s
  else if kind < 0x80 then cmdFail .badArg s
  else (some .ok, logAdd kind pLOG (s.reg pLOG 0x8104).toNat (s.reg pLOG 0x8108).toNat (s.reg pLOG 0x810C).toNat s)
def execAppend (req : Requester) (s : State) : Outcome := .next (cmdRow req pLOG 0x8110 0x8114 (appendBody req) s)

/-! ### Signal history (R507) -/

/-- Bytes of a snapshot, padding included. -/
def State.histSize (s : State) : Nat := ceilDiv (16 + 16 * s.rfld pLOG 0x400 12 0) 256 * 256
/-- Snapshot bytes whose bursts read with an error: their records have quality BAD. -/
def histBad (s : State) (a : Nat) (b : Bytes) : Bytes :=
  (rangeFrom 1 (b.length / 16 - 1)).foldl (fun b i =>
    if s.poisoned (hbmA (a + i * 16 / 32 * 32)) 32 then splice b (i * 16 + 8) [5] else b) b
def putWords (page off : Nat) (b : Bytes) (s : State) : State :=
  (rangeFrom 0 (b.length / 4)).foldl (fun s i => setReg page (off + 4 * i) (w32 (leNat (Machine.slice b (4 * i) 4))) s) s
def histReadBody (s : State) : Option Status × State :=
  let wr := s.reg pLOG 0x8020
  let n := s.reg pLOG 0x8120
  let back := (wr - n).toNat
  let slots := 2 ^ s.rfld pLOG 0x400 20 16
  let size := min s.histSize 12288
  if back = 0 ∨ slots < back ∨ wr.toNat < back then cmdFail .absent s
  else match hbmOff s.part ((s.reg64 pLOG 0x408).toNat + n.toNat % slots * s.histSize) s.histSize with
  | none => cmdFail .absent s
  | some a =>
    let bad := (rangeFrom 0 (size / 32)).filter (fun k => s.poisoned (hbmA (a + 32 * k)) 32)
    let b := histBad s a (s.bytes (hbmA a) size)
    let s := bad.foldl (fun s k => hbmUe 7 (a + 32 * k) false s) (hbmCount 7 s)
    (some (if bad.isEmpty then .ok else .ecc), putWords pLOG 0xD000 b s)
def execHistRead (req : Requester) (s : State) : Outcome := .next (cmdRow req pLOG 0x8124 0x8128 histReadBody s)

/-! ### The LOG page (R510) -/

/-- A write of BUNT_CFG: the destination, then the period. -/
def buntCfgWrite (v mask : Word) (s : State) : WRes :=
  let d := fld v 26 16
  let ms := fld v 9 0
  if !(decide (d < 1056) || d == 1056 || d == 1057 || (decide (1088 ≤ d) && decide (d < 1344))) then .refuse .badArg
  else if !portOk s.part (BitVec.ofNat 11 d) then .refuse .absent
  else storeIf (ms != 0 && 1000 % ms == 0) pLOG 0x100 mask v s
def histCfgWrite (v mask : Word) (s : State) : WRes :=
  if !pisteOk s.part (fld v 29 28) then .refuse .absent
  else storeIf (decide (4 ≤ fld v 20 16) && decide (fld v 20 16 ≤ 20) && decide (1 ≤ fld v 12 0) && decide (fld v 12 0 ≤ 4096)) pLOG 0x400 mask v s
/-- A write refused while a stream is on. -/
def unlessOn (cfg : Nat) (ok : Bool) (off : Nat) (v mask : Word) (s : State) : WRes :=
  if !ok then .refuse .badArg else if bit (s.reg pLOG cfg) 31 then .refuse .busy else .ok (store pLOG off mask v s)
def logWrite (req : Requester) (off : Nat) (v mask : Word) (s : State) : WRes :=
  if off = 0x100 then buntCfgWrite v mask s
  else if off = 0x104 then storeIf (decide (14 ≤ fld v 6 0) && decide (fld v 6 0 ≤ 64)) pLOG off mask v s
  else if 0x140 ≤ off ∧ off < 0x180 then unlessOn 0x100 true off v mask s
  else if 0x200 ≤ off ∧ off < 0x400 then unlessOn 0x100 (decide (fld v 31 24 ≤ 64)) off v mask s
  else if off = 0x400 then histCfgWrite v mask s
  else if 0x1000 ≤ off ∧ off < 0x5000 then unlessOn 0x400 true off v mask s
  else if off = 0x8004 then logRdWrite v s
  else if off = 0x8110 then command pLOG 0x8114 (if fld v 3 0 = 1 then appendBody req else cmdFail .badArg) s
  else if off = 0x8124 then command pLOG 0x8128 (if fld v 3 0 = 1 then histReadBody else cmdFail .badArg) s
  else .ok (store pLOG off mask v s)
/-- HIST_BASE: the ring lies in present HBM. -/
def logWrite64 (_ : Requester) (off : Nat) (v : W64) (s : State) : WRes :=
  if (hbmOff s.part v.toNat (2 ^ s.rfld pLOG 0x400 20 16 * s.histSize)).isSome then .ok (setReg64 pLOG off v s) else .refuse .badArg
/-- A dword of the catalogue window; bits [31:30] of an entry are zero. -/
def catRead (s : State) (o : Nat) : Word :=
  let e := s.rfld pLOG 0x8134 0 0 * 1024 + o / 8
  if Config.catalogueCount.toNat ≤ e then 0
  else if o % 8 = 0 then Config.catalogue (2 * e) &&& 0x3FFFFFFF else Config.catalogue (2 * e + 1)
def logRead (s : State) (off : Nat) : Option Word :=
  if off = 0x800C then some (Config.catalogueCount.setWidth 32)
  else if 0xA000 ≤ off ∧ off < 0xC000 then some (catRead s (off - 0xA000))
  else if 0xC000 ≤ off ∧ off < 0xD000 then
    let i := (s.rfld pLOG 0x8130 4 0 * 128 + (off - 0xC000) / 32) % 4096
    some (match sfind s.log i with
      | some r => w32 (leNat (Machine.slice r.bytes ((off - 0xC000) % 32) 4))
      | none => 0)
  else none

end Sys2Proof.Machine
end

