-- ==== Sys2Proof/Machine/Fabric.lean ====
section
/-! DEFINITION. The register window as its requesters use it: reads with their latches, writes with their stages, the common
header, soft reset, configuration checks, and the loads and stores of register pages by threads (R40-R60, R184, R424, R532). -/
namespace Sys2Proof.Machine
open Sys2Proof

/-! ### The deadlock condition (R276, R277) -/

/-- A ready list of a kind that the thread takes holds an eligible item. -/
def State.listWakes (s : State) (t : Nat) : Bool :=
  let p := tPiste t
  let take := s.reg (pDISP p) (0x1000 + 4 * (t % 512))
  (rangeFrom 0 64).any (fun l => bit take (l / 8) && (s.pickItem p l).isSome)
/-- A host doorbell that the thread has subscribed to. -/
def State.doorbellWakes (s : State) (t : Nat) : Bool :=
  (rangeFrom 0 256).any (fun i =>
    let w := s.reg (pINST i) 0x110
    bit w 31 && fld w 10 0 == t)
/-- The thread has a wake source (R276). -/
def State.wakes (s : State) (t : Nat) : Bool :=
  let th := s.thr t
  (th.timer != 0 && bit th.evmask 2) || s.listWakes t || th.cry.any (fun c => !c.orphan) || s.doorbellWakes t
/-- The threads of the piste outside its supervisor core that are not in their reset state. -/
def State.workers (s : State) (p : Nat) : List (Nat × Thread) :=
  s.threads.filter (fun e => !isTel e.1 && tPiste e.1 == p && decide (8 ≤ e.1 % 512))
def restState : TState → Bool
  | .stopped | .faulted | .offline | .waiting => true
  | _ => false
/-- The deadlock condition; a HALTED thread keeps its window from running. -/
def State.deadlocked (s : State) (p : Nat) : Bool :=
  let w := s.workers p
  let waiting := w.filter (fun e => e.2.st == .waiting)
  w.all (fun e => restState e.2.st) && !(s.threads.any (fun e => !isTel e.1 && tPiste e.1 == p && e.2.st == .halted)) &&
    waiting.any (fun e => e.2.item.isSome || sget 0 s.sema.arms e.1 != 0) && waiting.all (fun e => !s.wakes e.1)
/-- Every thread of the supervisor core that is not STOPPED waits for nothing that could come (R277). -/
def State.supervisorStuck (s : State) (p : Nat) : Bool :=
  (rangeFrom (p * 512) 8).all (fun t =>
    let th := s.thr t
    th.st == .stopped || (th.st == .waiting && !s.wakes t && s.evpend t &&& th.evmask == 0))

/-! ### Dispatch by block -/

/-- What a register shows where it is not the value stored for it. -/
def kindRead (k : PageKind) (s : State) (off : Nat) : Option Word :=
  match k with
  | .mode => modeRead s off | .clk => clkRead s off | .rst => rstRead s off | .safe => safeRead s off
  | .life => lifeRead s off | .time => timeRead s off | .log => logRead s off | .tel => telRead s off
  | .flg g => flgRead g s off | .trg g => trgRead g s off | .mgp => mgpRead s off
  | .cls => clsRead s off | .em => emRead s off | .hash => hashRead s off | .bpm => bpmRead s off
  | .pbuf => pbufRead s off | .tm => tmRead s off | .tsn u => tsnRead u s off | .hbm => hbmRead s off
  | .hbms n => hbmsRead n s off | .iov => iovRead s off | .sema => semaRead s off | .pst p => pstRead p s off
  | .disp p => (if off = 0x8004 then some (w32 (b2n ((s.piste p).deadlock && s.deadlocked p))) else dispRead p s off)
  | .gate p => gateRead p s off | .sige p => sigeRead p s off
  | .clu p c => cluRead (p * 8 + c) s off | .inst i => instRead i s off | .dbg => dbgRead s off
  | .dev | .parse | .host | .xchk _ => none

/-- What a write of one dword of a block's register does. -/
def kindWrite (k : PageKind) (req : Requester) (page off : Nat) (v mask : Word) (s : State) : WRes :=
  match k with
  | .mode => modeWrite req off v mask s | .clk => clkWrite req off v mask s | .rst => rstWrite req off v mask s
  | .safe => safeWrite req off v mask s | .life => lifeWrite req off v mask s | .time => timeWrite req off v mask s
  | .log => logWrite req off v mask s | .tel => telWrite req off v mask s | .flg g => flgWrite g req off v mask s
  | .trg g => trgWrite g req off v mask s | .mgp => mgpWrite req off v mask s | .parse => parseWrite req off v mask s
  | .cls => clsWrite req off v mask s | .em => emWrite req off v mask s | .hash => hashWrite req off v mask s
  | .bpm => bpmWrite req off v mask s | .tm => tmWrite req off v mask s | .tsn u => tsnWrite u req off v mask s
  | .hbm => hbmWrite req off v mask s | .host => hostPageWrite req off v mask s | .iov => iovWrite req off v mask s
  | .sema => semaWrite req off v mask s | .pst p => pstWrite p req off v mask s | .disp p => dispWrite p req off v mask s
  | .gate p => gateWrite p req off v mask s | .sige p => sigeWrite p req off v mask s
  | .xchk n => xchkWrite n req off v mask s | .clu p c => cluWrite (p * 8 + c) req off v mask s
  | .inst i => instWrite i req off v mask s | .dbg => dbgWrite req off v mask s
  | .dev | .pbuf | .hbms _ => .ok (store page off mask v s)

/-- What the commit of a 64-bit register does. -/
def kindWrite64 (k : PageKind) (req : Requester) (page off : Nat) (v : W64) (s : State) : WRes :=
  match k with
  | .cls => match clsWrite64 off v with
    | some st => .refuse st
    | none => .ok (setReg64 page off v s)
  | .tm => tmWrite64 req off v s | .hbm => hbmWrite64 req off v s | .disp p => dispWrite64 p req off v s
  | .clu p c => cluWrite64 (p * 8 + c) req off v s | .sige p => sigeWrite64 p req off v s
  | .inst i => instWrite64 i req off v s | .log => logWrite64 req off v s | .dbg => dbgWrite64 req off v s
  | _ => .ok (setReg64 page off v s)

/-! ### Reads (R43, R47, R50, R424) -/

/-- A header register as it reads. -/
def headerRead (s : State) (page off : Nat) : Word :=
  if off = 0x10 then (s.reg page 0x10 &&& 5) ||| w32 (b2n (s.fabric.resetting.contains page) * 2)
  else if off = 0x14 then s.pageStatus page
  else if off = 0x04 ∨ off = 0x28 then 0
  else if off = 0x60 then s.cfgCheck page
  else if off = 0x64 then s.cfgGolden page
  else match findIn off headerRegs with
    | some _ => s.reg page off
    | none => 0
/-- A dword of the window as it stands, with no side effect. An absent page and an offset without a register read zero. -/
def State.rawRead (s : State) (page off : Nat) : Word :=
  if 0x10000 ≤ off then 0
  else match pageKind s.part page with
  | none => 0
  | some k =>
    if off < 0x100 then headerRead s page off
    else match kindRead k s off with
    | some v => v
    | none => match findReg k off with
      | none => 0
      | some (d, _, _) => if d.acc = .wo then 0 else s.reg page off
/-- The register is read-clear (R8). -/
def readClears (k : PageKind) (off : Nat) : Bool :=
  match findReg k off with
  | some (d, _, _) => d.acc == .rc
  | none => false
/-- The effects of a read beside its value: read-clear fields, and the check of a signal record that the window shows. -/
def readEffect (page off : Nat) (s : State) : State :=
  match pageKind s.part page with
  | none => s
  | some k =>
    let s := match k with
      | .sige p => sigeReadEffect p off s
      | _ => s
    if readClears k off then setReg page off 0 s else s
/-- DBG is shown to an open debugger only: packet cores, and every requester while it is closed, read zero (R43, R537). -/
def State.hidden (s : State) (req : Requester) (page : Nat) : Bool :=
  page == pDBG && match req with
    | .core _ => true
    | .dbg => !s.debuggerOpen
    | _ => false
def updFabric (f : FabricState → FabricState) (s : State) : State := { s with fabric := f s.fabric }
/-- A requester's read latch holds one register: the time latch of R424 and the high half of R50 replace each other. -/
def latchHigh (n tag : Nat) (v : Word) : State → State :=
  updFabric (fun f => { f with latch := sset f.latch n (tag, v), timeLatch := sdrop (· == n) f.timeLatch })
def latchTime (n : Nat) (pps : Bool) (s : State) : State :=
  let v := if pps then (true, cat32 (s.reg pTIME 0x8028) (s.reg pTIME 0x8024), 0)
    else (false, w64 s.time.sec.toNat, w32 (s.time.frac.toNat / 0x10000))
  updFabric (fun f => { f with timeLatch := sset f.timeLatch n v, latch := sdrop (· == n) f.latch }) s
/-- What the time latch of a requester holds for an offset of the TIME page. -/
def timeLatched (s : State) (n off : Nat) : Option Word :=
  match sfind s.fabric.timeLatch n with
  | some (false, sec, frac) =>
    if off = 0x8004 then some (lo32 sec) else if off = 0x8008 then some (hi32 sec) else if off = 0x800C then some frac else none
  | some (true, sec, _) => if off = 0x8024 then some (lo32 sec) else if off = 0x8028 then some (hi32 sec) else none
  | none => none
/-- The value of a requester's read, and the latches after it. -/
def latchedRead (n page off : Nat) (s : State) : Word × State :=
  let live := s.rawRead page off
  if page = pTIME ∧ (off = 0x8000 ∨ off = 0x8020) then (live, latchTime n (off == 0x8020) s)
  else match (if page = pTIME then timeLatched s n off else none) with
  | some v => (v, s)
  | none => match pageKind s.part page with
    | none => (live, s)
    | some k => match findReg k off with
      | some (d, lo, false) => if d.wide then (live, latchHigh n (regKey page lo) (s.rawRead page (lo + 4)) s) else (live, s)
      | some (_, lo, true) => match sfind s.fabric.latch n with
        | some (tag, v) => (if tag = regKey page lo then v else live, s)
        | none => (live, s)
      | none => (live, s)
/-- A read by a requester; the value stands beside, and stays in the fabric as the requester's last. -/
def busRead (req : Requester) (page off : Nat) (s : State) : Word × State :=
  let n := reqNum req
  let off := off / 4 * 4
  let (v, s) := if s.hidden req page then (0, s) else
    let (v, s) := latchedRead n page off s
    (v, readEffect page off s)
  (v, updFabric (fun f => { f with result := sset f.result n v }) s)
/-- A read row, where the window is readable and a test of the register holds. -/
def readRow (req : Requester) (page off : Nat) (ok : RegDesc × Nat × Bool → Bool) (s : State) : State :=
  if !s.live || !reqOk s.part req then s
  else match pageKind s.part page with
  | none => s
  | some k => match findReg k off with
    | some d => if ok d then (busRead req page off s).2 else s
    | none => s
def execReg64LowRead (req : Requester) (page : Page) (off : Off) (s : State) : Outcome :=
  .next (readRow req page.toNat off.toNat (fun d => d.1.wide && !d.2.2) s)
def execReadClear (req : Requester) (page : Page) (off : Off) (s : State) : Outcome :=
  .next (readRow req page.toNat off.toNat (fun d => d.1.acc == .rc) s)
def execTimeNsRead (req : Requester) (pps : Bool) (s : State) : Outcome :=
  .next (readRow req pTIME (if pps then 0x8020 else 0x8000) (fun _ => true) s)

/-! ### Soft reset (R49, R57) -/

/-- A block goes back to its reset state, what its commands put into it beside the registers included. -/
def blockReset (k : PageKind) (s : State) : State :=
  match k with
  | .bpm => bpmSoftReset s
  | .cls => { s with cls := { State.reset.cls with em := s.cls.em, ind := s.cls.ind } }
  | .em => updCls (fun c => { c with em := [] }) s
  | .hash => updCls (fun c => { c with ind := [] }) s
  | .sige p => sigeSoftReset p s
  | .tm => { s with regs := sdrop (fun key => decide (1024 * 65536 ≤ key) && decide (0xA000 ≤ key % 65536)) s.regs }
  | .tsn u => tsnSoftReset u s
  | .flg _ | .trg _ | .mgp => portSoftReset k s
  | .sema => { s with sema := State.reset.sema }
  | .time => updTime (fun t => { t with ppsOut := false }) s
  | _ => s
/-- The counters of a port page are cleared with its block (R114). -/
def clearCounters (k : PageKind) (page : Nat) (s : State) : State :=
  match k with
  | .flg _ | .trg _ | .mgp => { s with regs := sdrop (fun key => decide (key / 65536 = page) && decide (0x8000 ≤ key % 65536)) s.regs }
  | _ => s
/-- A page whose registers decide which links run. -/
def linkPage : PageKind → Bool
  | .flg _ | .trg _ | .mgp => true
  | _ => false
/-- The configuration set and the block at reset, all at once. -/
def pageReset (k : PageKind) (page : Nat) (s : State) : State :=
  let go (s : State) : State := clearCounters k page (blockReset k (cfgToReset page s))
  if linkPage k then withLinks go s else go s
/-- SOFT_RESET written: refused on BPM outside CONFIGURE; an enabled instance goes through its own reset. -/
def softResetGo (k : PageKind) (req : Requester) (page : Nat) (s : State) : WRes :=
  if k = .bpm ∧ s.modeNow ≠ .configure ∧ req ≠ .loader then .refuse .stateRefused
  else
    let was := bit (s.reg page 0x10) 0
    let s := softReset page (pageReset k page s)
    match k with
    | .inst i => .ok (if was then startReset i false s else s)
    | _ => .ok s
/-- EN and LOCK written. -/
def ctrlBits (k : PageKind) (req : Requester) (page : Nat) (v : Word) (s : State) : WRes :=
  let lock := setRfld page 0x10 2 2 (b2n (bit v 2))
  match k with
  | .inst i => match instEn i req (bit v 0) s with
    | .ok s' => .ok (lock s')
    | r => r
  | k =>
    if enFixed k then .ok (lock s)
    else
      let go (s : State) : State := lock (setRfld page 0x10 0 0 (b2n (bit v 0)) s)
      .ok (if linkPage k then withLinks go s else go s)
/-- PAGE_CTRL written. -/
def pageCtrlWrite (k : PageKind) (req : Requester) (page : Nat) (v : Word) (s : State) : WRes :=
  let s' := if bit v 3 then errClear page s else s
  if bit v 1 then softResetGo k req page s' else ctrlBits k req page v s'
/-- INT_ENABLE written: the targets are notified where the pending set becomes non-empty (R58). -/
def intEnableWrite (page : Nat) (v : Word) (s : State) : State :=
  let was := s.reg page 0x20 &&& s.reg page 0x24
  let s := setReg page 0x24 (v &&& 0xFFFFFF3F) s
  if was = 0 ∧ s.reg page 0x20 &&& s.reg page 0x24 ≠ 0 then notify page s else s
/-- INT_STATUS written; the level cause of mediation stands while records wait (R444). -/
def intStatusWrite (k : PageKind) (page : Nat) (v : Word) (s : State) : State :=
  let s := w1cInt page v s
  if k = .iov ∧ !s.host.med.isEmpty then raiseBit page 8 s else s
/-- A write of a header register. -/
def headerWrite (k : PageKind) (req : Requester) (page off : Nat) (v : Word) (s : State) : WRes :=
  if off = 0x10 then pageCtrlWrite k req page v s
  else if off = 0x20 then .ok (intStatusWrite k page v s)
  else if off = 0x24 then .ok (intEnableWrite page v s)
  else if off = 0x28 then .ok (intForce page v s)
  else if off = 0x2C then .ok (setReg page 0x2C (v &&& 0xF30007FF) s)
  else if off = 0x64 then .ok (goldenWrite page v s)
  else match findIn off headerRegs with
    | some _ => .ok s
    | none => .refuse .absent

/-! ### Writes (R41-R50) -/

/-- A requester's write stage emptied. -/
def unstage (n : Nat) : State → State := updFabric (fun f => { f with stage := sdrop (· == n) f.stage })
/-- A low half held in the write stage; nothing is judged (R50). -/
def stageLow (req : Requester) (page lo : Nat) (v : Word) : State → State :=
  updFabric (fun f => { f with stage := sset f.stage (reqNum req) (regKey page lo, v) })
/-- The low half that a commit takes. -/
def State.staged (s : State) (req : Requester) (page lo : Nat) : Word :=
  match sfind s.fabric.stage (reqNum req) with
  | some (tag, v) => if tag = regKey page lo then v else s.rawRead page lo
  | none => s.rawRead page lo
/-- Both halves committed (R50). -/
def commit64 (k : PageKind) (req : Requester) (d : RegDesc) (page lo : Nat) (v : Word) (s : State) : State × Option Status :=
  let w := cat32 (v &&& d.maskHalf true) (s.staged req page lo &&& d.maskHalf false)
  writeReg req page lo (kindWrite64 k req page lo w) (unstage (reqNum req) s)
/-- One aligned dword written by a requester. -/
def dwordWrite (k : PageKind) (req : Requester) (page off : Nat) (v : Word) (s : State) : State × Option Status :=
  if off < 0x100 then writeReg req page off (headerWrite k req page off v) s
  else match findReg k off with
    | none => writeReg req page off (fun _ => .refuse .absent) s
    | some (d, lo, hi) =>
      if d.wide && !hi then (stageLow req page lo v s, some .ok)
      else if d.acc = .ro ∨ d.acc = .rc then writeReg req page lo (fun s => .ok s) (if d.wide then unstage (reqNum req) s else s)
      else if hi then commit64 k req d page lo v s
      else noteSafeRequest req page off v s (writeReg req page off (kindWrite k req page off v (d.maskHalf false)) s)
/-- A write by a requester: the state and the code, none on an absent page. -/
def busWrite (req : Requester) (page off : Nat) (v : Word) (s : State) : State × Option Status :=
  if !s.live then (s, none)
  else match pageKind s.part page with
    | none => (s, none)
    | some k =>
      if off % 4 ≠ 0 then writeReg req page off (fun _ => .refuse .badArg) s
      else dwordWrite k req page off v s
/-- A write row, where a test of the register holds. -/
def writeRow (req : Requester) (page off : Nat) (ok : PageKind → Bool) (v : Word) (s : State) : State :=
  if !reqOk s.part req then s
  else match pageKind s.part page with
    | none => s
    | some k => if ok k then (busWrite req page off v s).1 else s
/-- The offset is a half of a writable 64-bit register. -/
def wideHalf (high : Bool) (off : Nat) (k : PageKind) : Bool :=
  match findReg k off with
  | some (d, _, hi) => d.wide && d.acc == .rw && hi == high
  | none => false
def execRegisterWrite (req : Requester) (page : Page) (off : Off) (value : Word) (s : State) : Outcome :=
  .next (writeRow req page.toNat off.toNat (fun _ => true) value s)
def execReg64LowWrite (req : Requester) (page : Page) (off : Off) (value : Word) (s : State) : Outcome :=
  .next (writeRow req page.toNat off.toNat (wideHalf false off.toNat) value s)
def execReg64HighWrite (req : Requester) (page : Page) (off : Off) (value : Word) (s : State) : Outcome :=
  .next (writeRow req page.toNat off.toNat (wideHalf true off.toNat) value s)
def execContextWindowWrite (req : Requester) (page : Page) (off : Off) (value : Word) (s : State) : Outcome :=
  .next (writeRow req page.toNat off.toNat (fun k => decide (0xC000 ≤ off.toNat) && decide (off.toNat < 0xE000) && match k with
    | .clu .. | .dbg => true
    | _ => false) value s)
def execSoftReset (req : Requester) (page : Page) (s : State) : Outcome :=
  .next (writeRow req page.toNat 0x10 (fun _ => true) ((s.reg page.toNat 0x10 &&& 5) ||| 2) s)
def execErrClr (req : Requester) (page : Page) (s : State) : Outcome :=
  .next (writeRow req page.toNat 0x10 (fun _ => true) ((s.reg page.toNat 0x10 &&& 5) ||| 8) s)
def execIntStatusClear (req : Requester) (page : Page) (mask : Word) (s : State) : Outcome :=
  .next (writeRow req page.toNat 0x20 (fun _ => true) mask s)
def execIntForce (req : Requester) (page : Page) (mask : Word) (s : State) : Outcome :=
  .next (writeRow req page.toNat 0x28 (fun _ => true) mask s)
def execCfgGoldenWrite (req : Requester) (page : Page) (value : Word) (s : State) : Outcome :=
  .next (writeRow req page.toNat 0x64 (fun _ => true) value s)

/-! ### Completions, errors and checks (R49, R53, R54, R57) -/

/-- The page is present and the device runs. -/
def State.pageLive (s : State) (page : Nat) : Bool := s.live && (pageKind s.part page).isSome
def execSoftResetDone (page : Page) (s : State) : Outcome :=
  let n := page.toNat
  .next (if s.live && s.fabric.resetting.contains n then
    goldenWait n (raiseBit n 5 (updFabric (fun f => { f with resetting := f.resetting.filter (· != n) }) s))
  else s)
/-- A key slot lost to an uncorrectable error (R242). -/
def keyUe (unit slot page : Nat) (s : State) : State :=
  if Config.hasCry s.part then setKey unit slot { key := 0, mode := 0, valid := false } (bump page 0x8430 s) else s
/-- What a memory error leaves in the memory: an uncorrectable word reads so until it is written anew (R333, R347), a signal
record fails its check (R283), a key slot is lost (R242); an error of the BPM's bitmap has its word rebuilt (R339). Where no
chapter numbers SOURCE, 0 is the signal memory of a SIGE page and 10 a key store. -/
def leaveError (page source addr : Nat) (ue : Bool) (s : State) : State :=
  match pageKind s.part page with
  | some .bpm => if ue || decide (cellCount / 64 ≤ addr) then s else { s with badBitmap := addr :: s.badBitmap.filter (· != addr) }
  | some .pbuf =>
    if !ue then s
    else if source = 0 ∧ addr < cellCount * 32 then poisonMem (cellA 0 + addr * 8) 8 s
    else if source = 1 ∧ addr < cellCount then poisonMem (spaceBase 15 + addr * 8) 8 s
    else s
  | some (.sige _) =>
    if ue && source == 0 && decide (addr < Config.signals s.part) then
      { s with sige := { s.sige with bad := addr :: s.sige.bad.filter (· != addr) } }
    else s
  | some (.clu p c) =>
    if !ue then s
    else if source ≤ 9 then poisonMem (cluWordAddr (p * 8 + c) source addr) 8 s
    else if source = 10 then keyUe (p * 8 + c) (addr % 256) page s
    else s
  | some .tel => if ue && source == 10 then keyUe 32 (addr % 64) page s else s
  | _ => s
def execMemoryError (page : Page) (source : BitVec 8) (addr : Word) (syndrome : BitVec 16) (ue : Bool) (s : State) : Outcome :=
  .next (
    if s.pageLive page.toNat then
      leaveError page.toNat source.toNat addr.toNat ue (memError page.toNat source.toNat syndrome.toNat addr.toNat ue s)
    else s)
/-- A checker's pass ends: CFG_CHECK shows the configuration set, and a reference written before it may be compared. -/
def checkPass (page : Nat) (s : State) : State :=
  updFabric (fun f => { f with awaitPass := f.awaitPass.filter (· != page) }) (setReg page 0x60 (s.cfgCrc page) s)
def execCfgCheckPass (page : Page) (s : State) : Outcome :=
  .next (if s.pageLive page.toNat then checkPass page.toNat s else s)
/-- A comparison that differs; only its onset is recorded (R54). -/
def cfgDiffers (page : Nat) (s : State) : State :=
  let onset := !bit (s.reg page 0x14) 7
  let s := raiseBit page 2 (setRfld page 0x14 7 7 1 s)
  if onset then post 0x02 page (s.cfgCheck page).toNat (s.cfgGolden page).toNat s else s
/-- The check of a locked page's table differs from its reference (R182, R315, R425). -/
def State.tableDiffers (s : State) (page : Nat) : Bool :=
  s.locked page && match pageKind s.part page with
    | some (.clu ..) => s.reg page 0x8200 != s.reg page 0x304
    | some .tm => s.reg page 0x8004 != s.reg page 0x130
    | some (.sige _) => s.reg page 0x8004 != s.reg page 0x190
    | _ => false
/-- The comparison of one page, skipped while it waits for a reference or for a pass after one. -/
def comparePage (page : Nat) (s : State) : State :=
  let skip := bit (s.reg page 0x14) 6 || s.fabric.awaitPass.contains page
  if s.tableDiffers page || (!skip && s.cfgCheck page != s.cfgGolden page) then cfgDiffers page s
  else if skip then s else setRfld page 0x14 7 7 0 s
def execCfgCompare (s : State) : Outcome :=
  .next (if s.live then (presentPages s.part).foldl (fun s p => comparePage p s) s else s)
/-- The modes in which the grace of R54 runs. -/
def graceMode : Mode → Bool
  | .operate | .safeOperate | .degraded => true
  | _ => false
def execGoldenGraceExpiry (page : Page) (s : State) : Outcome :=
  .next (if s.pageLive page.toNat && graceMode s.modeNow && bit (s.reg page.toNat 0x14) 6 then cfgDiffers page.toNat s else s)

/-! ### SMBus (R532) -/

def execSmbusBlockWrite (b0 b1 b2 : Byte) (s : State) : Outcome :=
  .next (if s.live then { s with smbus := BitVec.ofNat 24 (leNat [b0, b1, b2]) } else s)
def execSmbusBlockRead (s : State) : Outcome :=
  let page := fld s.smbus 23 14
  let dw := fld s.smbus 13 0
  .next (if s.live then
    { emit (.smbus (if page = pDBG then 0 else s.rawRead page (4 * dw))) s with smbus := setFld s.smbus 13 0 (dw + 1) }
  else s)

/-! ### Loads and stores of register pages, and every other completion of a parked thread (R42, R44, R161) -/

/-- The value of a 32-bit load. -/
def dwordLoad (sign swap : Bool) (v : Word) : W64 := loadVal sign swap (leBytes 4 v.toNat)
/-- A parked load or store of a register page reaches the fabric; a refused store has stopped its thread. -/
def parkPage (t : Nat) (w : Word) (err : Bool) (op : Parked) (s : State) : State :=
  let req := reqOfThread t
  match op with
  | .pageLoad rd ea page off sign swap =>
    if err then parkEnd t w rd (.fault 0x0E ea) s
    else
      let (v, s) := busRead req page off s
      parkEnd t w rd (.access true false ea 4 (setReg' t rd (dwordLoad sign swap v) s)) s
  | .pageStore ea page off v =>
    let s := (busWrite req page off v s).1
    if (s.thr t).awaits then parkEnd t w 0 (.access false true ea 4 s) s else s
  | op => parkEnd t w op.dest (parkBody t err op s) s
/-- The thread's operation can complete: the device runs and its piste is not lost. -/
def State.parkLive (s : State) (t : Nat) : Bool := s.live && (if isTel t then decide (t < 2056) else s.pisteUp (tPiste t))
def execParkCompletion (t : Tid) (err : Bool) (s : State) : Outcome :=
  .next (if s.parkLive t.toNat && (s.thr t.toNat).awaits then
    match (s.thr t.toNat).park with
    | some (op, w) => parkPage t.toNat w err op s
    | none => s
  else s)

/-! ### The Bunting stream (R504-R506) -/

/-- A page's dwords from an offset on, read with the effects of a read. -/
def readDwords (page : Nat) : Nat → Nat → State → Bytes × State
  | _, 0, s => ([], s)
  | off, n + 1, s =>
    let v := if page = pDBG then 0 else s.rawRead page off
    let (b, s) := readDwords page (off + 4) n (if off < 0x10000 then readEffect page off s else s)
    (leBytes 4 v.toNat ++ b, s)
/-- The entries of a sample in order: each its selection word and the dwords it selects. -/
def buntEntries : List Nat → State → List Bytes × State
  | [], s => ([], s)
  | j :: r, s =>
    let w := s.reg pLOG (0x200 + 4 * j)
    if fld w 31 24 = 0 then buntEntries r s
    else
      let (b, s) := readDwords (fld w 23 14) (4 * fld w 13 0) (fld w 31 24) s
      let (l, s) := buntEntries r s
      ((leBytes 4 w.toNat ++ b) :: l, s)
/-- Entries gathered into frames that hold at most `room` bytes of them: the frame being filled, and the rest. -/
def buntPack (room : Nat) : Bytes → List Bytes → List Bytes
  | acc, [] => [acc]
  | acc, e :: r => if !acc.isEmpty && decide (room < acc.length + e.length) then acc :: buntPack room e r else buntPack room (acc ++ e) r
/-- One frame of a sample, padded to 64 bytes with the check sequence that its MAC writes (R505). -/
def buntFrame (hdr : Bytes) (seq : Word) (frags i : Nat) (body : Bytes) (s : State) : Bytes :=
  let b := hdr ++ leBytes 4 (1 + i % 256 * 0x100 + frags % 256 * 0x10000) ++ leBytes 4 seq.toNat ++ leBytes 4 s.time.sec.toNat ++
    leBytes 4 s.time.ns.toNat ++ body
  b ++ List.replicate (60 - b.length) 0 ++ List.replicate 4 0
/-- A frame of a sample takes its cells and goes to the traffic manager; one that finds no cell is lost. -/
def buntSend (cfg seq : Word) (b : Bytes) (s : State) : State :=
  match requestCells 9 1344 (keyOf s.time.ns) (ceilDiv b.length 256) [] s with
  | (none, s) => buntLost seq s
  | (some cells, s) =>
    let s := fillCells cells b s
    tmOffer { pkt := none, cells := cells, owner := BitVec.ofNat 17 (ctlTag (s.cellCtl (cells.headD 0)))
              egress := BitVec.ofNat 11 (fld cfg 26 16), queue := BitVec.ofNat 3 (fld cfg 30 28), handle := none, sched := none
              trunc := 0, mirror := none, newFcs := true, txts := none, corr := none, piste := 0, seqGen := none, yellow := false
              deep := none, express := false, inPort := 0x7FF, ts := seq, desc := [] } s
/-- A sample is taken now (R504). -/
def State.buntOn (s : State) : Bool :=
  let cfg := s.reg pLOG 0x100
  s.live && bit cfg 31 && match s.modeNow with
    | .boot | .zeroize => false
    | .fallback => fld cfg 26 16 == 1056 || fld cfg 26 16 == 1057
    | _ => true
def execBuntingSample (s : State) : Outcome :=
  .next (if !s.buntOn then s
  else
    let cfg := s.reg pLOG 0x100
    let s := bumpWrap pLOG 0x8010 s
    let seq := s.reg pLOG 0x8010
    let n := s.rfld pLOG 0x104 6 0
    let hdr := Machine.slice ((rangeFrom 0 16).flatMap (fun i => leBytes 4 (s.reg pLOG (0x140 + 4 * i)).toNat)) 0 n
    let (es, s) := buntEntries (rangeFrom 0 128) s
    let bodies := buntPack (1518 - 4 - n - 16) [] es
    ((rangeFrom 0 bodies.length).zip bodies).foldl
      (fun s e => buntSend cfg seq (buntFrame hdr seq bodies.length e.1 e.2 s) s) s)

/-! ### Deadlock and hang declared (R276, R277) -/

def execDeadlockDeclaration (piste : BitVec 2) (s : State) : Outcome :=
  let p := piste.toNat
  .next (if s.live && s.pisteUp p && !(s.piste p).deadlock && s.deadlocked p then
    let s := updPiste p (fun q => { q with deadlock := true }) (bump (pDISP p) 0x8014 s)
    setEvent (p * 512 + s.rfld (pDISP p) 0x100 2 0) 9 (logAdd 0x05 (pDISP p) p 0 0 s)
  else s)
def execHangDeclaration (piste : BitVec 2) (s : State) : Outcome :=
  let p := piste.toNat
  .next (if s.live && s.pisteUp p && (s.piste p).deadlock && s.deadlocked p && s.supervisorStuck p then post 0x09 (pDISP p) p 0 s else s)

end Sys2Proof.Machine
end

