-- ==== Sys2Proof/Machine/Transition.lean ====
section
/-! DEFINITION. The transition instant: the mode changes, and MODE_STATUS, graphs, forces, watchdogs, self-tests, halted threads and
traces follow (R63-R70, R286, R322, R466, R468, R496, R522, R546, R547). -/
namespace Sys2Proof.Machine
open Sys2Proof

/-- The modes of forces and of the debugger. -/
def testBench : Mode → Bool
  | .commission | .maintenance => true
  | _ => false
/-- MODE_STATUS at a transition instant. -/
def statusAt (target : Mode) (cause : Nat) (fromSafe : Bool) (s : State) : State :=
  let old := s.modeNow
  updMode (fun m => { m with mode := target, prev := old, cause := BitVec.ofNat 8 cause, trans := none
                             ssLatch := m.ssLatch || target == .safeState, degFromSafe := target == .degraded && fromSafe }) s
/-- What the mode does to SAFETY graphs (R322); DEGRADED as the first mode after BOOT starts those of the whole pair as SAFE-OPERATE
would (R79). -/
def graphsAt (old target : Mode) (s : State) : State :=
  match target with
  | .operate | .safeState | .maintenance => graphsToSubst s
  | .commission | .safeOperate => graphsToPending s
  | .degraded => if old = .boot ∧ s.mode.degFromSafe = true then graphsToPending s else s
  | _ => s
/-- Every thread stops where it stands. -/
def stopThreads (s : State) : State :=
  { s with threads := s.threads.map (fun e => (e.1, { e.2 with st := .stopped, stopPending := false })) }
/-- The entry to ZEROIZE: its cause is held over resets, the wipe restarts, and the erasure begins (R496, R522). -/
def zeroizeAt (cause : Nat) (s : State) : State :=
  let s := updMode (fun m => { m with zeroHold := true, zeroCause := BitVec.ofNat 8 cause }) s
  let s := startWipe (stopThreads s)
  setReg pLIFE 0x8050 4 (updLife (fun l => { l with zeroing := true }) s)
/-- The mode becomes `target`. -/
def enterMode (target : Mode) (cause : Nat) (fromSafe : Bool) (s : State) : State :=
  let old := s.modeNow
  let s := withLinks (statusAt target cause fromSafe) s
  let s := graphsAt old target s
  let s := if testBench target then s else clearForces s
  let s := if testBench old && !testBench target then forcedResume s else s
  let s := stopTraces (stopTests (watchdogsAt target s))
  let s := if target = .zeroize then zeroizeAt cause s else s
  logAdd 0x02 pMODE s.modeStatus.toNat 0 0 s
/-- Piste losses that waited for the transition have their consequence, one transition at a time (R65). -/
def takeLosses (s : State) : State :=
  let n := s.mode.lossDue
  if n = 0 then s
  else
    let s := lossCause (updMode (fun m => { m with lossDue := 0 }) s)
    if s.mode.trans.isSome then updMode (fun m => { m with lossDue := n - 1 }) s else s
/-- A transition begun takes place: its request, if one began it, completes. -/
def execModeTransition (s : State) : Outcome :=
  .next (match s.live, s.mode.trans with
  | true, some t =>
    let s := enterMode t.target t.cause.toNat (s.modeNow == .safeOperate) s
    let s := if t.req.isSome then cmdDone pMODE 0x8108 .ok s else s
    let s := if t.target = .zeroize then { s with boot := { s.boot with stage := .idle } } else s
    takeLosses s
  | _, _ => s)

end Sys2Proof.Machine
end

