-- ==== Sys2Proof/Machine/Boot.lean ====
section
/-! DEFINITION. The start of the device: entry to BOOT, HBM training, self-test, the choice of a slot, the image's records, the
factory defaults, and the first mode (R64, R71, R75-R79, R83, R88, R89, R166, R349, R353, R372, R373, R489, R522, R551). -/
namespace Sys2Proof.Machine
open Sys2Proof

def updBoot (f : BootState → BootState) (s : State) : State := { s with boot := f s.boot }

/-! ### The first mode (R64, R79) -/

/-- BOOT ends: READY, the time it took, and the first mode. A fault classed DEVICE in BOOT makes it SAFE-STATE (R471). -/
def bootEnd (target : Mode) (cause : Nat) (fromSafe : Bool) (s : State) : State :=
  let s := updBoot (fun b => { b with stage := .idle, rest := [], touched := [], golden := [] }) (updMode (fun m => { m with ready := true }) s)
  let s := setReg pMODE 0x800C (w32 (min s.nowUs 0xFFFFFFFF)) s
  if s.safety.devTaken then enterMode .safeState 0x06 false s else enterMode target cause fromSafe s

/-! ### The factory defaults (R78, R353) -/

/-- Blocks that stay enabled for management traffic, with those that no reset disables. -/
def defaultBlock : PageKind → Bool
  | .mgp | .parse | .cls | .bpm | .pbuf | .tm | .tsn 6 | .host | .time | .dbg | .inst _ => true
  | k => enFixed k
/-- A rule of the defaults: a frame that the Telemark complex sends through a piste goes to that piste's mirror session. -/
def defaultRule (p : Nat) : Rule :=
  { valid := true, profile := 0, key := BitVec.ofNat 640 (0x3000 + p * 0x4000 * 0x100000000)
    mask := BitVec.ofNat 640 (0x7000 + 0xC000 * 0x100000000), action := w64 (2 ^ (48 + p)), hits := 0 }
/-- Cells for one requester: pool 0, 1,024 reserved, 65,536 at most. -/
def defaultCells (s : State) (r : Nat) : State := setReg pBPM (0x1004 + r * 8) 65536 (setReg pBPM (0x1000 + r * 8) 1024 s)
/-- The defaults applied. -/
def factoryDefaults (s : State) : State :=
  let off := (presentPages s.part).filter (fun p => match pageKind s.part p with
    | some k => !defaultBlock k
    | none => false)
  let s := off.foldl (fun s p => setRfld p 0x10 0 0 0 s) s
  let s := setReg pCLS 0x1004 0x80000001 (setReg pCLS 0x1000 0x80000000 s)
  let s := setReg64 pCLS 0x108 (w64 (1344 * 0x40000000 + 2)) s
  let s := updCls (fun c => { c with rules := sset (sset c.rules 0 (defaultRule 0)) 1 (defaultRule 1) }) s
  let s := setReg (pTSN 6) 0x104 (w32 (0x80000000 + 1057)) (setReg (pTSN 6) 0x100 (w32 (0x80000000 + 1056)) s)
  [1056, 1057, 1344].foldl defaultCells (setReg pBPM 0x200 (w32 (0x80000000 + 6144)) s)
/-- The device enters FALLBACK under the defaults. -/
def toFallback (cause : Nat) (s : State) : State :=
  bootEnd .fallback cause false (updMode (fun m => { m with slot := 3, cfgDefaults := true }) (factoryDefaults s))

/-! ### How a start goes on -/

/-- Bits of MODE_BOOT.SELFTEST_FAIL: 0-3 pistes, 4 shared units, 5 the Telemark complex, 6-7 HBM stacks. -/
def State.bootFails (s : State) : Nat := s.rfld pMODE 0x8004 15 8
def State.hbmFailed (s : State) : Bool := s.bootFails / 64 != 0
/-- BOOT is in progress, and no other mode has been decided. -/
def State.booting (s : State) : Bool := s.live && s.mode.mode == .boot && s.mode.trans.isNone
/-- HBM training and the self-test are finished. -/
def State.tested (s : State) : Bool := s.boot.selfDone && s.boot.trained == stacksMask s.part
/-- What the finished tests, with no slot left to try, lead to: SAFE-STATE for a shared unit or the Telemark complex, FALLBACK for an
HBM stack or where no slot has loaded (R78, R79). -/
def bootSettle (s : State) : State :=
  if !s.booting || !s.tested then s
  else if s.bootFails / 16 % 4 != 0 then bootEnd .safeState 0x06 false s
  else if s.hbmFailed then toFallback 0x06 (setRfld pMODE 0x8004 7 0 0 s)
  else match s.boot.stage with
    | .defaults => toFallback 0x05 s
    | _ => s
/-- A slot's result in MODE_BOOT. -/
def slotResult (slot code : Nat) (s : State) : State :=
  if slot = 2 then setRfld pMODE 0x8004 7 4 code s else setRfld pMODE 0x8004 3 0 code s
/-- The next candidate, the factory defaults after the last. -/
def nextSlot (s : State) : State :=
  bootSettle (updBoot (fun b => match b.rest with
    | x :: r => { b with stage := .header x, rest := r, fromStaging := false }
    | [] => { b with stage := .defaults }) s)
/-- A slot fails at one of checks 1 to 5. -/
def slotFail (slot code : Nat) (s : State) : State := nextSlot (slotResult slot code s)
/-- Every page that the slot's records touched goes back to reset. -/
def resetTouched (s : State) : State :=
  s.boot.touched.foldl (fun s p => match pageKind s.part p with
    | some (.inst i) => goldenWait p (updInst i (fun _ => .reset) (pageReset (.inst i) p s))
    | some k => goldenWait p (pageReset k p s)
    | none => s) s
/-- The slot that the records come from. -/
def State.loadSlot (s : State) : Nat := match s.boot.staging with
  | some c => c.slot
  | none => 0
/-- A slot fails while its records are applied, or at their comparison (R76, R89). -/
def recordFail (code : Nat) (s : State) : State :=
  let slot := s.loadSlot
  let rest := if s.boot.fromStaging then [3 - slot] else s.boot.rest
  slotFail slot code (updBoot (fun b => { b with staging := none, touched := [], golden := [], rest := rest }) (resetTouched s))

/-! ### BOOT_ENTRY, HBM_TRAINING_DONE, BOOT_SELFTEST_DONE -/

/-- The fuses of a group are complete enough for its state. -/
def State.reached (s : State) (g : Nat) : Bool := g == 0 || decide (5 ≤ sget 0 s.life.fuses g)
/-- An interrupted fuse group is completed, in ascending order of the groups (R489). -/
def completeFuses (s : State) : State :=
  [1, 2, 3, 4].foldl (fun s g =>
    let n := sget 0 s.life.fuses g
    if 1 ≤ n ∧ n ≤ 4 ∧ s.reached (g - 1) = true then
      updLife (fun l => { l with fuses := sset l.fuses g 8, completed := true }) s
    else s) s
/-- The life-cycle state as the fuses give it. -/
def readState (s : State) : State :=
  updLife (fun l => { l with state := BitVec.ofNat 3 ([1, 2, 3, 4].foldl (fun n g => if s.reached g then g else n) 0) }) s
/-- The root PLL is locked; how long that took is a free value. -/
def lockPll (s : State) : State :=
  if bit (s.reg pCLK 0x8000) 0 then s
  else setReg pCLK 0x8000 (w32 (1 + fld (Config.value s.free) 15 0 * 0x10000)) { s with free := s.free + 1 }
/-- Threads of the Telemark complex start from the ROM (R166). -/
def startTel (s : State) : State := (rangeFrom 2048 8).foldl (fun s t => updThr t (fun th => { th with st := .running }) s) s
/-- CAUSE of the start (R71). -/
def startCause (kind : Nat) : Nat := if kind = 0 then 0 else if kind = 1 then 1 else 2
/-- MODE_STATUS at the entry to BOOT. -/
def bootStatus (s : State) : State :=
  let kind := s.restartKind
  updMode (fun m => { m with inReset := false, mode := .boot, prev := .reset, cause := BitVec.ofNat 8 (startCause kind)
                             kind := BitVec.ofNat 2 kind, ready := false }) s
/-- HBM stacks whose training has failed and was not done again (R89). -/
def keptFails (s : State) : State :=
  (rangeFrom 0 (Config.hbmStacks s.part)).foldl (fun s k =>
    if bit (s.reg (pHBMS k) 0x8000) 1 then setRfld pMODE 0x8004 (14 + k) (14 + k) 1 s else s) s
/-- The first candidate and those after it (R77, R88, R89). -/
def firstStage (s : State) : State :=
  let t := s.boot.trialSlot
  updBoot (fun b =>
    if s.hbmFailed then { b with stage := .defaults, rest := [] }
    else if t ≠ 0 then { b with stage := .header t, rest := [3 - t] }
    else if b.staging.isSome then { b with stage := .restage, rest := [1, 2] }
    else { b with stage := .header 1, rest := [2] }) s
/-- An instruction that held the pins gives them up where the device leaves RESET (R549). -/
def releasePins (s : State) : State :=
  match s.tap with
  | .extest | .clamp | .highz => { s with tap := .bypass }
  | _ => s
/-- The reset is released and every rail is good: BOOT begins, or ZEROIZE where its cause is held (R494, R522). -/
def execBootEntry (s : State) : Outcome :=
  .next (if s.mode.powered && s.mode.inReset && !s.mode.porst && !s.mode.sysrst && s.mode.trips == 0 then
      let s := readState (completeFuses (logPower (bootStatus (lockPll s))))
      let s := logAdd 0x02 pMODE s.modeStatus.toNat 0 0 s
      let s := keptFails (startTel (releasePins s))
      if s.mode.zeroHold then enterMode .zeroize s.mode.zeroCause.toNat false s
      else if s.life.tamper ≠ 0 then enterMode .zeroize 0x0A false s
      else firstStage s
    else s)
/-- Training of a stack ends at a cold start; a failure marks the stack (R372). -/
def execHbmTrainingDone (stack : BitVec 1) (ok : Bool) (repairs : BitVec 8) (failCode : BitVec 4) (s : State) : Outcome :=
  let k := stack.toNat
  .next (if s.live && s.modeNow == .boot && decide (k < Config.hbmStacks s.part) && !bit s.boot.trained k then
      let v := 1 + b2n (!ok) * 2 + repairs.toNat * 0x10 + (if ok then 0 else failCode.toNat * 0x10000)
      let s := setReg (pHBMS k) 0x8000 (w32 v) (updBoot (fun b => { b with trained := setBit b.trained k true }) s)
      bootSettle (if ok then s else setRfld pMODE 0x8004 (14 + k) (14 + k) 1 s)
    else s)
/-- The memories that the self-test writes to zero: scratchpads, cell control words, dynamic blocks and signal records (R349). -/
def zeroMemories (s : State) : State :=
  let gone (a : Nat) : Bool := let k := spaceOf a; k == 1 || k == 2 || k == 4 || k == 7 || k == 15
  { s with mem := s.mem.filter (fun c => !gone c.1), poison := s.poison.filter (fun w => !gone (w * 8))
           cells := [], dyn := [], sige := { s.sige with bad := [] } }
/-- The self-test ends; pistes that fail it are lost (R79). -/
def execBootSelftestDone (fail : BitVec 6) (s : State) : Outcome :=
  .next (if s.booting && !s.boot.selfDone then
      let bad := (rangeFrom 0 6).foldl (fun n i =>
        if bit fail i && (decide (4 ≤ i) || decide (i < Config.pistes s.part)) then n + 2 ^ i else n) 0
      let s := setRfld pMODE 0x8004 13 8 bad (zeroMemories (updBoot (fun b => { b with selfDone := true }) s))
      let s := ((rangeFrom 0 (Config.pistes s.part)).filter (fun p => bit fail p)).foldl (fun s p => dropPiste p s) s
      bootSettle s
    else s)

/-! ### Slots (R77, R88, R89) -/

/-- The candidates can be read: every stack is trained, and none has failed. -/
def State.canLoad (s : State) : Bool := s.booting && s.boot.trained == stacksMask s.part && !s.hbmFailed
/-- Checks 1 to 3 of a candidate. -/
def execSlotHeaderRead (s : State) : Outcome :=
  .next (match s.canLoad, s.boot.stage with
    | true, .header slot => match s.headerResult (s.validRec slot) (s.imageBytes slot 0 256) with
      | some r => slotFail slot r s
      | none => updBoot (fun b => { b with stage := .stream slot, staging := none }) s
    | _, _ => s)
/-- Checks 4 and 5 of a candidate that has been streamed into the staging area. -/
def execImageStreamEnd (flashError : Bool) (s : State) : Outcome :=
  .next (match s.canLoad, s.boot.stage with
    | true, .stream slot =>
      if flashError then slotFail slot resFlash s
      else
        let v := s.validRec slot
        let img := s.imageBytes slot 0 v.len
        match s.bodyResult v.crc img with
        | some r => slotFail slot r s
        | none =>
          let c : Staging := { slot := slot, bytes := img, imageCrc := w32 v.crc, verified := imageSigned img }
          updBoot (fun b => { b with stage := .records 0, staging := some c, fromStaging := false, touched := [], golden := [] }) s
    | _, _ => s)
/-- The staging copy of a warm restart passes its check word and signature, and the part may load an image at all. -/
def State.stagingOk (s : State) (c : Staging) : Bool := s.life.state != 4 && (s.bodyResult c.imageCrc.toNat c.bytes).isNone
def execStagingRecheck (s : State) : Outcome :=
  .next (match s.canLoad, s.boot.stage, s.boot.staging with
    | true, .restage, some c =>
      if s.stagingOk c then updBoot (fun b => { b with stage := .records 0, fromStaging := true, touched := [], golden := [] }) s
      else nextSlot (updBoot (fun b => { b with staging := none }) s)
    | _, _, _ => s)

/-! ### Records (R83) -/

/-- A record: its four words, and whether it is the last of RECORD_COUNT. -/
structure Record where
  w0 : Word
  value : Word
  mask : Word
  arg : Word
  last : Bool
deriving DecidableEq, Repr
def Record.type (r : Record) : Nat := fld r.w0 31 28
def Record.page (r : Record) : Nat := fld r.w0 25 16
def Record.off (r : Record) : Nat := fld r.w0 15 0
/-- The image that is being applied. -/
def State.image (s : State) : Bytes := match s.boot.staging with
  | some c => c.bytes
  | none => []
/-- The record that comes next. -/
def State.nextRecord (s : State) : Option (Nat × Record) :=
  match s.canLoad && s.boot.selfDone, s.boot.stage with
  | true, .records i =>
    let a := wordAt s.image 0x20 + 16 * i
    let w (o : Nat) : Word := w32 (wordAt s.image (a + o))
    some (i, { w0 := w 0, value := w 4, mask := w 8, arg := w 12, last := i + 1 == wordAt s.image 0x24 })
  | _, _ => none
/-- What no record but END may be: its page excluded or absent, reserved bits set, the offset not of a dword, another register of
MODE written, or the last of all. -/
def Record.bad (part : Part) (r : Record) : Bool :=
  fld r.w0 27 26 != 0 || r.off % 4 != 0 || r.last ||
    (match pageKind part r.page with
    | none | some .dev | some .life | some .dbg => true
    | some .mode => (r.type == 0 || r.type == 1) && r.off != 0x100
    | _ => false)
/-- The loader goes on to the next record. -/
def recordDone (i : Nat) : State → State := updBoot (fun b => { b with stage := .records (i + 1) })
/-- A page touched by the slot's records. -/
def touch (page : Nat) : State → State := updBoot (fun b => { b with touched := if b.touched.contains page then b.touched else page :: b.touched })
/-- Dwords written by the loader one after the other, up to the first that is refused. -/
def loaderWrites (page : Nat) : Nat → List Word → State → State × Bool
  | _, [], s => (s, true)
  | off, v :: r, s => match busWrite .loader page off v s with
    | (s, some .ok) => loaderWrites page (off + 4) r s
    | (s, _) => (s, false)
/-- A record that writes: the slot fails where a write is refused. -/
def recordWrites (i page off : Nat) (vs : List Word) (s : State) : State :=
  match loaderWrites page off vs (touch page s) with
  | (s, true) => recordDone i s
  | (s, false) => recordFail resRecord s
/-- The next record where its type is one that a row stands for. -/
def recordRow (mine : Nat → Bool) (go : Nat → Record → State → State) (s : State) : State :=
  match s.nextRecord with
  | some (i, r) => if mine r.type then (if r.bad s.part then recordFail resRecord s else go i r s) else s
  | none => s
/-- WRITE; a record of no listed type fails the slot here too. -/
def execRecordWrite (s : State) : Outcome :=
  .next (recordRow (fun t => t != 1 && t != 2 && t != 3 && t != 15) (fun i r s =>
    if r.type ≠ 0 ∨ r.mask = 0 ∨ r.arg ≠ 0 then recordFail resRecord s
    else if r.mask = 0xFFFFFFFF then recordWrites i r.page r.off [r.value] s
    else
      let (old, s) := busRead .loader r.page r.off s
      recordWrites i r.page r.off [(old &&& ~~~r.mask) ||| (r.value &&& r.mask)] s) s)
def execRecordPayload (s : State) : Outcome :=
  .next (recordRow (· == 1) (fun i r s =>
    let n := r.arg.toNat
    if r.mask ≠ 0 ∨ n % 4 ≠ 0 ∨ 0x10000 < r.off + n ∨ wordAt s.image 0x2C < r.value.toNat + n then recordFail resRecord s
    else
      let a := wordAt s.image 0x28 + r.value.toNat
      recordWrites i r.page r.off ((rangeFrom 0 (n / 4)).map (fun k => w32 (wordAt s.image (a + 4 * k)))) s) s)
def execRecordGolden (s : State) : Outcome :=
  .next (recordRow (· == 2) (fun i r s =>
    if r.off ≠ 0 ∨ r.mask ≠ 0 ∨ r.arg ≠ 0 then recordFail resRecord s
    else recordWrites i r.page 0x64 [r.value] (updBoot (fun b => { b with golden := r.page :: b.golden.filter (· != r.page) }) s)) s)
/-- POLL reads its register again until it holds the value. -/
def execRecordPoll (s : State) : Outcome :=
  .next (recordRow (· == 3) (fun i r s =>
    if 10000 < r.arg.toNat then recordFail resRecord s
    else
      let (v, s) := busRead .loader r.page r.off s
      if v &&& r.mask = r.value then recordDone i s else s) s)
/-- A POLL's limit passes with its register still at another value. -/
def execPollTimeout (s : State) : Outcome :=
  .next (match s.nextRecord with
    | some (_, r) =>
      if r.type = 3 ∧ r.bad s.part = false ∧ r.arg.toNat ≤ 10000 ∧ s.rawRead r.page r.off &&& r.mask ≠ r.value then
        recordFail resTimeout s
      else s
    | none => s)
/-- The references of LIFE and DBG, with the lock of LIFE (R551). -/
def lifeReferences (s : State) : State :=
  let s := goldenWait pLIFE (setRfld pLIFE 0x10 2 2 1 s)
  goldenWrite pDBG (s.cfgCrc pDBG) (goldenWrite pLIFE (s.cfgCrc pLIFE) s)
/-- END: the last record, its other fields 0. -/
def execRecordEnd (s : State) : Outcome :=
  .next (match s.nextRecord with
    | some (_, r) =>
      if r.type ≠ 15 then s
      else if !r.last || fld r.w0 27 0 != 0 || r.value != 0 || r.mask != 0 || r.arg != 0 then recordFail resRecord s
      else updBoot (fun b => { b with stage := .final }) (lifeReferences s)
    | none => s)

/-! ### BOOT_READY (R68, R76, R79, R166, R373) -/

/-- An HBM area cleared, where it lies in the HBM present. -/
def clearHbm (addr n : Nat) (s : State) : State :=
  match hbmOff s.part addr n with
  | some a => clearMem (hbmA a) n s
  | none => s
/-- The flow-context area and every spill-ring area are cleared (R373). -/
def clearAreas (s : State) : State :=
  let s := clearHbm (s.reg64 pHBM 0x108).toNat (Config.flows s.part * 256) s
  (rangeFrom 0 (Config.pistes s.part)).foldl (fun s p => clearHbm (s.reg64 (pDISP p) 0x108).toNat (64 * s.ringTotal p 64) s) s
/-- The mode that lost pistes lead to from a target, one loss after the other (R79). -/
def lossesFrom (s : State) : List Nat → Mode → Mode
  | [], m => m
  | _ :: r, m => lossesFrom s r ((lossTarget s m).getD m)
/-- The first mode after an image is applied: the mode, its cause, and whether it counts as entered from SAFE-OPERATE. -/
def State.firstMode (s : State) (target : Mode) : Mode × Nat × Bool :=
  let lost := (rangeFrom 0 4).filter (fun p => s.lost p)
  if target = .safeOperate ∧ (Config.hasSafe s.part = false ∨ s.entryFail true ≠ 0) then (.configure, 0x04, false)
  else if (target = .operate ∨ target = .safeOperate) ∧ lost ≠ [] then
    (lossesFrom s lost target, 0x09, target == .safeOperate)
  else (target, 0x03, false)
/-- Graphs of a pair that lost a piste in self-test migrate where they may (R79, R324). -/
def bootMigrates (s : State) : State :=
  if s.modeNow ≠ .degraded ∨ s.mode.degFromSafe = false then s
  else (rangeFrom 0 2).foldl (fun s k =>
    if !s.pairUp k && !(s.migrants k).isEmpty then
      { s with sige := { s.sige with migrate := setBit (setBit s.sige.migrate k true) (2 + k) true } }
    else s) s
/-- The supervisor threads start at their vectors. -/
def startSupervisors (s : State) : State :=
  ((rangeFrom 0 (Config.pistes s.part)).filter (fun p => !s.lost p)).foldl (fun s p =>
    (rangeFrom (p * 512) 8).foldl (fun s t => startThr t (startVector t) s) s) s
/-- The image is loaded: where it came from, and its sequence number. -/
def imageLoaded (s : State) : State :=
  let slot := s.loadSlot
  let s := setReg pMODE 0x8008 (w32 (wordAt s.image 0x38)) (slotResult slot 1 s)
  let s := updMode (fun m => { m with slot := BitVec.ofNat 2 slot, trial := s.boot.trialSlot == slot }) s
  updBoot (fun b => { b with verified := match b.staging with
    | some c => c.verified
    | none => false }) s
/-- A pass of every checker, the GOLDEN comparisons, and the first mode. -/
def execBootReady (s : State) : Outcome :=
  .next (match s.canLoad && s.boot.selfDone, s.boot.stage with
    | true, .final =>
      let s := (presentPages s.part).foldl (fun s p => checkPass p s) s
      if s.boot.golden.any (fun p => s.cfgCheck p != s.cfgGolden p) then recordFail resRecord s
      else
        let target := (modeOf (wordAt s.image 0x1C)).getD .configure
        let s := imageLoaded (clearAreas s)
        let s := if target = .safeOperate then setReg pMODE 0x8014 (s.entryFail true) s else s
        let (m, cause, fromSafe) := s.firstMode target
        startSupervisors (bootMigrates (bootEnd m cause fromSafe s))
    | _, _ => s)

end Sys2Proof.Machine
end

