-- ==== Sys2Proof/Machine/Dispatch.lean ====
section
/-! DEFINITION. One arm per command: the meaning it calls. -/
namespace Sys2Proof.Machine
open Sys2Proof

/-- A command's effect on everything but the queue. -/
def exec (i : Instr) (s : State) : Host.Outcome State Fault Refusal :=
  match i with
  | .powerApplied => Sys2Proof.Machine.execPowerApplied s
  | .powerRemoved => Sys2Proof.Machine.execPowerRemoved s
  | .porstNAssert => Sys2Proof.Machine.execPorstNAssert s
  | .porstNRelease => Sys2Proof.Machine.execPorstNRelease s
  | .sysrstNAssert => Sys2Proof.Machine.execSysrstNAssert s
  | .sysrstNRelease => Sys2Proof.Machine.execSysrstNRelease s
  | .powerOnDetectorTrip det => Sys2Proof.Machine.execPowerOnDetectorTrip det s
  | .pllLockLoss => Sys2Proof.Machine.execPllLockLoss s
  | .refClockLoss input => Sys2Proof.Machine.execRefClockLoss input s
  | .refClockReturn input => Sys2Proof.Machine.execRefClockReturn input s
  | .tamperEvent cause => Sys2Proof.Machine.execTamperEvent cause s
  | .wipeDone unit ok => Sys2Proof.Machine.execWipeDone unit ok s
  | .zeroizeDone ok => Sys2Proof.Machine.execZeroizeDone ok s
  | .bootEntry => Sys2Proof.Machine.execBootEntry s
  | .hbmTrainingDone stack ok repairs failCode => Sys2Proof.Machine.execHbmTrainingDone stack ok repairs failCode s
  | .bootSelftestDone fail => Sys2Proof.Machine.execBootSelftestDone fail s
  | .stagingRecheck => Sys2Proof.Machine.execStagingRecheck s
  | .slotHeaderRead => Sys2Proof.Machine.execSlotHeaderRead s
  | .imageStreamEnd flashError => Sys2Proof.Machine.execImageStreamEnd flashError s
  | .recordWrite => Sys2Proof.Machine.execRecordWrite s
  | .recordPayload => Sys2Proof.Machine.execRecordPayload s
  | .recordGolden => Sys2Proof.Machine.execRecordGolden s
  | .recordPoll => Sys2Proof.Machine.execRecordPoll s
  | .pollTimeout => Sys2Proof.Machine.execPollTimeout s
  | .recordEnd => Sys2Proof.Machine.execRecordEnd s
  | .bootReady => Sys2Proof.Machine.execBootReady s
  | .reqConfigure req key => Sys2Proof.Machine.execReqConfigure req key s
  | .reqCommission req key => Sys2Proof.Machine.execReqCommission req key s
  | .reqOperate req key => Sys2Proof.Machine.execReqOperate req key s
  | .reqSafeOperate req key => Sys2Proof.Machine.execReqSafeOperate req key s
  | .reqDegraded req key => Sys2Proof.Machine.execReqDegraded req key s
  | .reqSafeState req key => Sys2Proof.Machine.execReqSafeState req key s
  | .reqMaintenance req key => Sys2Proof.Machine.execReqMaintenance req key s
  | .reqZeroize req key => Sys2Proof.Machine.execReqZeroize req key s
  | .warmRestart req key => Sys2Proof.Machine.execWarmRestart req key s
  | .coldRestart req key => Sys2Proof.Machine.execColdRestart req key s
  | .modeTransition => Sys2Proof.Machine.execModeTransition s
  | .registerWrite req page off value => Sys2Proof.Machine.execRegisterWrite req page off value s
  | .reg64LowRead req page off => Sys2Proof.Machine.execReg64LowRead req page off s
  | .reg64LowWrite req page off value => Sys2Proof.Machine.execReg64LowWrite req page off value s
  | .reg64HighWrite req page off value => Sys2Proof.Machine.execReg64HighWrite req page off value s
  | .readClear req page off => Sys2Proof.Machine.execReadClear req page off s
  | .timeNsRead req pps => Sys2Proof.Machine.execTimeNsRead req pps s
  | .softReset req page => Sys2Proof.Machine.execSoftReset req page s
  | .softResetDone page => Sys2Proof.Machine.execSoftResetDone page s
  | .errClr req page => Sys2Proof.Machine.execErrClr req page s
  | .intStatusClear req page mask => Sys2Proof.Machine.execIntStatusClear req page mask s
  | .intForce req page mask => Sys2Proof.Machine.execIntForce req page mask s
  | .memoryError page source addr syndrome ue => Sys2Proof.Machine.execMemoryError page source addr syndrome ue s
  | .cfgGoldenWrite req page value => Sys2Proof.Machine.execCfgGoldenWrite req page value s
  | .cfgCheckPass page => Sys2Proof.Machine.execCfgCheckPass page s
  | .cfgCompare => Sys2Proof.Machine.execCfgCompare s
  | .goldenGraceExpiry page => Sys2Proof.Machine.execGoldenGraceExpiry page s
  | .flashRead req => Sys2Proof.Machine.execFlashRead req s
  | .flashProgram req => Sys2Proof.Machine.execFlashProgram req s
  | .flashErase req => Sys2Proof.Machine.execFlashErase req s
  | .validate req slot => Sys2Proof.Machine.execValidate req slot s
  | .invalidate req slot => Sys2Proof.Machine.execInvalidate req slot s
  | .flashComplete ok => Sys2Proof.Machine.execFlashComplete ok s
  | .linkUp port => Sys2Proof.Machine.execLinkUp port s
  | .linkDown port state => Sys2Proof.Machine.execLinkDown port state s
  | .anFail lane => Sys2Proof.Machine.execAnFail lane s
  | .flLaneCfgWrite req lane value => Sys2Proof.Machine.execFlLaneCfgWrite req lane value s
  | .flFmxCfgWrite req lane value => Sys2Proof.Machine.execFlFmxCfgWrite req lane value s
  | .trLaneCfgWrite req lane value => Sys2Proof.Machine.execTrLaneCfgWrite req lane value s
  | .trGroupCfgWrite req group value => Sys2Proof.Machine.execTrGroupCfgWrite req group value s
  | .mgpCfgWrite req value => Sys2Proof.Machine.execMgpCfgWrite req value s
  | .fmxRoundTx lane => Sys2Proof.Machine.execFmxRoundTx lane s
  | .fmxMarkerRx lane block => Sys2Proof.Machine.execFmxMarkerRx lane block s
  | .fmxSlotBlockRx lane sub sync block => Sys2Proof.Machine.execFmxSlotBlockRx lane sub sync block s
  | .frameArrival port data => Sys2Proof.Machine.execFrameArrival port data s
  | .fcsCheck pkt aborted => Sys2Proof.Machine.execFcsCheck pkt aborted s
  | .parse pkt => Sys2Proof.Machine.execParse pkt s
  | .classify pkt => Sys2Proof.Machine.execClassify pkt s
  | .liftAdmit piste => Sys2Proof.Machine.execLiftAdmit piste s
  | .ruleWrite req => Sys2Proof.Machine.execRuleWrite req s
  | .ruleRead req => Sys2Proof.Machine.execRuleRead req s
  | .ruleInvalidate req => Sys2Proof.Machine.execRuleInvalidate req s
  | .flip req => Sys2Proof.Machine.execFlip req s
  | .clearHits req => Sys2Proof.Machine.execClearHits req s
  | .classCfgWrite req value => Sys2Proof.Machine.execClassCfgWrite req value s
  | .ruleScrub index ue => Sys2Proof.Machine.execRuleScrub index ue s
  | .genDrainTimeout bank => Sys2Proof.Machine.execGenDrainTimeout bank s
  | .emInsert req => Sys2Proof.Machine.execEmInsert req s
  | .emDelete req => Sys2Proof.Machine.execEmDelete req s
  | .emFind req => Sys2Proof.Machine.execEmFind req s
  | .emQuarantine req => Sys2Proof.Machine.execEmQuarantine req s
  | .emRelease req => Sys2Proof.Machine.execEmRelease req s
  | .indEntryWrite req index value => Sys2Proof.Machine.execIndEntryWrite req index value s
  | .indCheckPass => Sys2Proof.Machine.execIndCheckPass s
  | .admitPkt pkt => Sys2Proof.Machine.execAdmit pkt s
  | .spillReturn piste list ecc => Sys2Proof.Machine.execSpillReturn piste list ecc s
  | .bind piste dcrcBad => Sys2Proof.Machine.execBind piste dcrcBad s
  | .packetFirm t => Sys2Proof.Machine.execPacketFirm t s
  | .gateRelease piste => Sys2Proof.Machine.execGateRelease piste s
  | .gateTimeout pkt => Sys2Proof.Machine.execGateTimeout pkt s
  | .snowploughExit piste flow => Sys2Proof.Machine.execSnowploughExit piste flow s
  | .deadlockDeclaration piste => Sys2Proof.Machine.execDeadlockDeclaration piste s
  | .hangDeclaration piste => Sys2Proof.Machine.execHangDeclaration piste s
  | .migrationRewrite pair => Sys2Proof.Machine.execMigrationRewrite pair s
  | .migrationActivate pair => Sys2Proof.Machine.execMigrationActivate pair s
  | .threadTimerExpiry t => Sys2Proof.Machine.execThreadTimerExpiry t s
  | .parkCompletion t err => Sys2Proof.Machine.execParkCompletion t err s
  | .asyncCompletion t err => Sys2Proof.Machine.execAsyncCompletion t err s
  | .mailboxDelivery t => Sys2Proof.Machine.execMailboxDelivery t s
  | .mailboxPop t => Sys2Proof.Machine.execMailboxPop t s
  | .icsWindowWrite req page off value => Sys2Proof.Machine.execIcsWindowWrite req page off value s
  | .icsCheckPass page => Sys2Proof.Machine.execIcsCheckPass page s
  | .contextWindowWrite req page off value => Sys2Proof.Machine.execContextWindowWrite req page off value s
  | .threadResume req piste => Sys2Proof.Machine.execThreadResume req piste s
  | .threadRestart req piste => Sys2Proof.Machine.execThreadRestart req piste s
  | .threadReset req piste => Sys2Proof.Machine.execThreadReset req piste s
  | .pstFaultPop req piste => Sys2Proof.Machine.execPstFaultPop req piste s
  | .telFaultPop req => Sys2Proof.Machine.execTelFaultPop req s
  | .gateRecPop req piste => Sys2Proof.Machine.execGateRecPop req piste s
  | .add t rd rs rt => Sys2Proof.Machine.execAdd t rd rs rt s
  | .sub t rd rs rt => Sys2Proof.Machine.execSub t rd rs rt s
  | .and t rd rs rt => Sys2Proof.Machine.execAnd t rd rs rt s
  | .or t rd rs rt => Sys2Proof.Machine.execOr t rd rs rt s
  | .xor t rd rs rt => Sys2Proof.Machine.execXor t rd rs rt s
  | .andn t rd rs rt => Sys2Proof.Machine.execAndn t rd rs rt s
  | .sll t rd rs rt => Sys2Proof.Machine.execSll t rd rs rt s
  | .srl t rd rs rt => Sys2Proof.Machine.execSrl t rd rs rt s
  | .sra t rd rs rt => Sys2Proof.Machine.execSra t rd rs rt s
  | .rotr t rd rs rt => Sys2Proof.Machine.execRotr t rd rs rt s
  | .slt t rd rs rt => Sys2Proof.Machine.execSlt t rd rs rt s
  | .sltu t rd rs rt => Sys2Proof.Machine.execSltu t rd rs rt s
  | .min t rd rs rt => Sys2Proof.Machine.execMin t rd rs rt s
  | .max t rd rs rt => Sys2Proof.Machine.execMax t rd rs rt s
  | .minu t rd rs rt => Sys2Proof.Machine.execMinu t rd rs rt s
  | .maxu t rd rs rt => Sys2Proof.Machine.execMaxu t rd rs rt s
  | .mul t rd rs rt => Sys2Proof.Machine.execMul t rd rs rt s
  | .mulh t rd rs rt => Sys2Proof.Machine.execMulh t rd rs rt s
  | .mulhu t rd rs rt => Sys2Proof.Machine.execMulhu t rd rs rt s
  | .clz t rd rs rt => Sys2Proof.Machine.execClz t rd rs rt s
  | .ctz t rd rs rt => Sys2Proof.Machine.execCtz t rd rs rt s
  | .popc t rd rs rt => Sys2Proof.Machine.execPopc t rd rs rt s
  | .bswap2 t rd rs rt => Sys2Proof.Machine.execBswap2 t rd rs rt s
  | .bswap4 t rd rs rt => Sys2Proof.Machine.execBswap4 t rd rs rt s
  | .bswap8 t rd rs rt => Sys2Proof.Machine.execBswap8 t rd rs rt s
  | .addw t rd rs rt => Sys2Proof.Machine.execAddw t rd rs rt s
  | .subw t rd rs rt => Sys2Proof.Machine.execSubw t rd rs rt s
  | .addi t rd rs imm => Sys2Proof.Machine.execAddi t rd rs imm s
  | .andi t rd rs imm => Sys2Proof.Machine.execAndi t rd rs imm s
  | .ori t rd rs imm => Sys2Proof.Machine.execOri t rd rs imm s
  | .xori t rd rs imm => Sys2Proof.Machine.execXori t rd rs imm s
  | .slti t rd rs imm => Sys2Proof.Machine.execSlti t rd rs imm s
  | .sltiu t rd rs imm => Sys2Proof.Machine.execSltiu t rd rs imm s
  | .lui t rd rs imm => Sys2Proof.Machine.execLui t rd rs imm s
  | .slli t rd rs imm => Sys2Proof.Machine.execSlli t rd rs imm s
  | .srli t rd rs imm => Sys2Proof.Machine.execSrli t rd rs imm s
  | .srai t rd rs imm => Sys2Proof.Machine.execSrai t rd rs imm s
  | .orih t rd rs imm => Sys2Proof.Machine.execOrih t rd rs imm s
  | .lb t rd rs imm => Sys2Proof.Machine.execLb t rd rs imm s
  | .lbu t rd rs imm => Sys2Proof.Machine.execLbu t rd rs imm s
  | .lh t rd rs imm => Sys2Proof.Machine.execLh t rd rs imm s
  | .lhu t rd rs imm => Sys2Proof.Machine.execLhu t rd rs imm s
  | .lw t rd rs imm => Sys2Proof.Machine.execLw t rd rs imm s
  | .lwu t rd rs imm => Sys2Proof.Machine.execLwu t rd rs imm s
  | .ld t rd rs imm => Sys2Proof.Machine.execLd t rd rs imm s
  | .lhs t rd rs imm => Sys2Proof.Machine.execLhs t rd rs imm s
  | .lws t rd rs imm => Sys2Proof.Machine.execLws t rd rs imm s
  | .lds t rd rs imm => Sys2Proof.Machine.execLds t rd rs imm s
  | .sb t rt rs imm => Sys2Proof.Machine.execSb t rt rs imm s
  | .sh t rt rs imm => Sys2Proof.Machine.execSh t rt rs imm s
  | .sw t rt rs imm => Sys2Proof.Machine.execSw t rt rs imm s
  | .sd t rt rs imm => Sys2Proof.Machine.execSd t rt rs imm s
  | .shs t rt rs imm => Sys2Proof.Machine.execShs t rt rs imm s
  | .sws t rt rs imm => Sys2Proof.Machine.execSws t rt rs imm s
  | .sds t rt rs imm => Sys2Proof.Machine.execSds t rt rs imm s
  | .aaddW t rd rs rt => Sys2Proof.Machine.execAaddW t rd rs rt s
  | .aaddD t rd rs rt => Sys2Proof.Machine.execAaddD t rd rs rt s
  | .aswpW t rd rs rt => Sys2Proof.Machine.execAswpW t rd rs rt s
  | .aswpD t rd rs rt => Sys2Proof.Machine.execAswpD t rd rs rt s
  | .acasW t rd rs rt => Sys2Proof.Machine.execAcasW t rd rs rt s
  | .acasD t rd rs rt => Sys2Proof.Machine.execAcasD t rd rs rt s
  | .bfxu t rd rs pos len => Sys2Proof.Machine.execBfxu t rd rs pos len s
  | .bfxs t rd rs pos len => Sys2Proof.Machine.execBfxs t rd rs pos len s
  | .bfi t rd rs pos len => Sys2Proof.Machine.execBfi t rd rs pos len s
  | .bfc t rd rs pos len => Sys2Proof.Machine.execBfc t rd rs pos len s
  | .bfd t rd rs pos len => Sys2Proof.Machine.execBfd t rd rs pos len s
  | .beq t rs rt off16 => Sys2Proof.Machine.execBeq t rs rt off16 s
  | .bne t rs rt off16 => Sys2Proof.Machine.execBne t rs rt off16 s
  | .blt t rs rt off16 => Sys2Proof.Machine.execBlt t rs rt off16 s
  | .bge t rs rt off16 => Sys2Proof.Machine.execBge t rs rt off16 s
  | .bltu t rs rt off16 => Sys2Proof.Machine.execBltu t rs rt off16 s
  | .bgeu t rs rt off16 => Sys2Proof.Machine.execBgeu t rs rt off16 s
  | .j t off26 => Sys2Proof.Machine.execJ t off26 s
  | .jal t off26 => Sys2Proof.Machine.execJal t off26 s
  | .jalr t rd rs imm => Sys2Proof.Machine.execJalr t rd rs imm s
  | .csrrd t rd rs imm => Sys2Proof.Machine.execCsrrd t rd rs imm s
  | .csrwr t rd rs imm => Sys2Proof.Machine.execCsrwr t rd rs imm s
  | .wait t rd rs rt => Sys2Proof.Machine.execWait t rd rs rt s
  | .yield t rd rs rt => Sys2Proof.Machine.execYield t rd rs rt s
  | .fence t rd rs rt => Sys2Proof.Machine.execFence t rd rs rt s
  | .tstart t rd rs rt => Sys2Proof.Machine.execTstart t rd rs rt s
  | .tstop t rd rs rt => Sys2Proof.Machine.execTstop t rd rs rt s
  | .commit t rd rs rt => Sys2Proof.Machine.execCommit t rd rs rt s
  | .send t rd rs rt => Sys2Proof.Machine.execSend t rd rs rt s
  | .cpsave t rd rs rt => Sys2Proof.Machine.execCpsave t rd rs rt s
  | .cprestore t rd rs rt => Sys2Proof.Machine.execCprestore t rd rs rt s
  | .stage t rd rs imm => Sys2Proof.Machine.execStage t rd rs imm s
  | .trap t rd rs imm => Sys2Proof.Machine.execTrap t rd rs imm s
  | .coprocGet t unit rd rs rt opt => Sys2Proof.Machine.execCoprocGet t unit rd rs rt opt s
  | .pktBufw t rd rs rt opt => Sys2Proof.Machine.execPktBufw t rd rs rt opt s
  | .pktOvr t rd rs rt opt => Sys2Proof.Machine.execPktOvr t rd rs rt opt s
  | .pktIns t rd rs rt opt => Sys2Proof.Machine.execPktIns t rd rs rt opt s
  | .pktDel t rd rs rt opt => Sys2Proof.Machine.execPktDel t rd rs rt opt s
  | .pktPush t rd rs rt opt => Sys2Proof.Machine.execPktPush t rd rs rt opt s
  | .pktPop t rd rs rt opt => Sys2Proof.Machine.execPktPop t rd rs rt opt s
  | .pktRd t rd rs rt opt => Sys2Proof.Machine.execPktRd t rd rs rt opt s
  | .pktLen t rd rs rt opt => Sys2Proof.Machine.execPktLen t rd rs rt opt s
  | .pktUndo t rd rs rt opt => Sys2Proof.Machine.execPktUndo t rd rs rt opt s
  | .crcInit t rd rs rt opt => Sys2Proof.Machine.execCrcInit t rd rs rt opt s
  | .crcUpd t rd rs rt opt => Sys2Proof.Machine.execCrcUpd t rd rs rt opt s
  | .crcPrange t rd rs rt opt => Sys2Proof.Machine.execCrcPrange t rd rs rt opt s
  | .crcFin t rd rs rt opt => Sys2Proof.Machine.execCrcFin t rd rs rt opt s
  | .crcCset t rd rs rt opt => Sys2Proof.Machine.execCrcCset t rd rs rt opt s
  | .crcCadd t rd rs rt opt => Sys2Proof.Machine.execCrcCadd t rd rs rt opt s
  | .crcCrange t rd rs rt opt => Sys2Proof.Machine.execCrcCrange t rd rs rt opt s
  | .crcCfin t rd rs rt opt => Sys2Proof.Machine.execCrcCfin t rd rs rt opt s
  | .crcCinc t rd rs rt opt => Sys2Proof.Machine.execCrcCinc t rd rs rt opt s
  | .lkpKeyw t rd rs rt opt => Sys2Proof.Machine.execLkpKeyw t rd rs rt opt s
  | .lkpFfind t rd rs rt opt => Sys2Proof.Machine.execLkpFfind t rd rs rt opt s
  | .lkpFins t rd rs rt opt => Sys2Proof.Machine.execLkpFins t rd rs rt opt s
  | .lkpFdel t rd rs rt opt => Sys2Proof.Machine.execLkpFdel t rd rs rt opt s
  | .lkpHfind t rd rs rt opt => Sys2Proof.Machine.execLkpHfind t rd rs rt opt s
  | .lkpHins t rd rs rt opt => Sys2Proof.Machine.execLkpHins t rd rs rt opt s
  | .lkpHdel t rd rs rt opt => Sys2Proof.Machine.execLkpHdel t rd rs rt opt s
  | .lkpRfind t rd rs rt opt => Sys2Proof.Machine.execLkpRfind t rd rs rt opt s
  | .crySetp t rd rs rt opt => Sys2Proof.Machine.execCrySetp t rd rs rt opt s
  | .cryGcm t rd rs rt opt => Sys2Proof.Machine.execCryGcm t rd rs rt opt s
  | .cryCmac t rd rs rt opt => Sys2Proof.Machine.execCryCmac t rd rs rt opt s
  | .crySha t rd rs rt opt => Sys2Proof.Machine.execCrySha t rd rs rt opt s
  | .cryPoll t rd rs rt opt => Sys2Proof.Machine.execCryPoll t rd rs rt opt s
  | .cryKload t rd rs rt opt => Sys2Proof.Machine.execCryKload t rd rs rt opt s
  | .cryKzero t rd rs rt opt => Sys2Proof.Machine.execCryKzero t rd rs rt opt s
  | .sigRdin t rd rs rt opt => Sys2Proof.Machine.execSigRdin t rd rs rt opt s
  | .sigSetq t rd rs rt opt => Sys2Proof.Machine.execSigSetq t rd rs rt opt s
  | .sigWrout t rd rs rt opt => Sys2Proof.Machine.execSigWrout t rd rs rt opt s
  | .sigDone t rd rs rt opt => Sys2Proof.Machine.execSigDone t rd rs rt opt s
  | .sigInfo t rd rs rt opt => Sys2Proof.Machine.execSigInfo t rd rs rt opt s
  | .timNow t rd rs rt opt => Sys2Proof.Machine.execTimNow t rd rs rt opt s
  | .timArr t rd rs rt opt => Sys2Proof.Machine.execTimArr t rd rs rt opt s
  | .timSched t rd rs rt opt => Sys2Proof.Machine.execTimSched t rd rs rt opt s
  | .timTxts t rd rs rt opt => Sys2Proof.Machine.execTimTxts t rd rs rt opt s
  | .timCorr t rd rs rt opt => Sys2Proof.Machine.execTimCorr t rd rs rt opt s
  | .cycleStart piste timer => Sys2Proof.Machine.execCycleStart piste timer s
  | .deadline piste graph => Sys2Proof.Machine.execDeadline piste graph s
  | .deadlineMarker piste graph => Sys2Proof.Machine.execDeadlineMarker piste graph s
  | .nodeFire piste node => Sys2Proof.Machine.execNodeFire piste node s
  | .unpack piste => Sys2Proof.Machine.execUnpack piste s
  | .pack piste node => Sys2Proof.Machine.execPack piste node s
  | .seal piste node => Sys2Proof.Machine.execSeal piste node s
  | .xchkCompare pair graph port => Sys2Proof.Machine.execXchkCompare pair graph port s
  | .xchkMissing pair graph port => Sys2Proof.Machine.execXchkMissing pair graph port s
  | .xchkSealCompare pair graph => Sys2Proof.Machine.execXchkSealCompare pair graph s
  | .holdTimeout piste graph => Sys2Proof.Machine.execHoldTimeout piste graph s
  | .load req piste => Sys2Proof.Machine.execLoad req piste s
  | .unload req piste => Sys2Proof.Machine.execUnload req piste s
  | .swap req piste => Sys2Proof.Machine.execSwap req piste s
  | .force req piste => Sys2Proof.Machine.execForce req piste s
  | .unforce req piste => Sys2Proof.Machine.execUnforce req piste s
  | .sigeTblPass piste => Sys2Proof.Machine.execSigeTblPass piste s
  | .xchkClear req pair => Sys2Proof.Machine.execXchkClear req pair s
  | .cellRequest requester key => Sys2Proof.Machine.execCellRequest requester key s
  | .chainFree cell tag => Sys2Proof.Machine.execChainFree cell tag s
  | .bpmAlloc req => Sys2Proof.Machine.execBpmAlloc req s
  | .bpmFree req => Sys2Proof.Machine.execBpmFree req s
  | .bpmReclaim req => Sys2Proof.Machine.execBpmReclaim req s
  | .dynAlloc req page => Sys2Proof.Machine.execDynAlloc req page s
  | .dynFree req page => Sys2Proof.Machine.execDynFree req page s
  | .scratchpadScrub page source addr ue => Sys2Proof.Machine.execScratchpadScrub page source addr ue s
  | .acquire t rd sem => Sys2Proof.Machine.execAcquire t rd sem s
  | .acquireArm t rd sem => Sys2Proof.Machine.execAcquireArm t rd sem s
  | .semaRelease t rt sem => Sys2Proof.Machine.execSemaRelease t rt sem s
  | .semaState t rd sem => Sys2Proof.Machine.execSemaState t rd sem s
  | .semaCmdAcquire req => Sys2Proof.Machine.execSemaCmdAcquire req s
  | .semaCmdRelease req => Sys2Proof.Machine.execSemaCmdRelease req s
  | .semaReclaim req => Sys2Proof.Machine.execSemaReclaim req s
  | .retire req => Sys2Proof.Machine.execRetire req s
  | .semaCmdState req => Sys2Proof.Machine.execSemaCmdState req s
  | .semaCapWrite req sem value => Sys2Proof.Machine.execSemaCapWrite req sem value s
  | .semaOrphPop req => Sys2Proof.Machine.execSemaOrphPop req s
  | .hbmRequest port addr write data => Sys2Proof.Machine.execHbmRequest port addr write data s
  | .hbmRequestComplete port err => Sys2Proof.Machine.execHbmRequestComplete port err s
  | .requestLate port => Sys2Proof.Machine.execRequestLate port s
  | .refreshDue pc => Sys2Proof.Machine.execRefreshDue pc s
  | .refreshViolation pc => Sys2Proof.Machine.execRefreshViolation pc s
  | .hbmTempRead stack temp => Sys2Proof.Machine.execHbmTempRead stack temp s
  | .hbmTempFault stack => Sys2Proof.Machine.execHbmTempFault stack s
  | .hbmScrubPass addr err => Sys2Proof.Machine.execHbmScrubPass addr err s
  | .flowFillComplete flow ok => Sys2Proof.Machine.execFlowFillComplete flow ok s
  | .quarantineScan flow => Sys2Proof.Machine.execQuarantineScan flow s
  | .hbmFence req => Sys2Proof.Machine.execHbmFence req s
  | .writeContext req => Sys2Proof.Machine.execWriteContext req s
  | .readContext req => Sys2Proof.Machine.execReadContext req s
  | .hbmQuarPop req => Sys2Proof.Machine.execHbmQuarPop req s
  | .hbmFlowBaseWrite req value => Sys2Proof.Machine.execHbmFlowBaseWrite req value s
  | .tmAdmit => Sys2Proof.Machine.execTmAdmit s
  | .txStart port => Sys2Proof.Machine.execTxStart port s
  | .txComplete port => Sys2Proof.Machine.execTxComplete port s
  | .telDelivery queue => Sys2Proof.Machine.execTelDelivery queue s
  | .gclEntryEnd port => Sys2Proof.Machine.execGclEntryEnd port s
  | .configChange req => Sys2Proof.Machine.execConfigChange req s
  | .gclChangeTime port => Sys2Proof.Machine.execGclChangeTime port s
  | .verifyResult port ok => Sys2Proof.Machine.execVerifyResult port ok s
  | .recoveryReset index => Sys2Proof.Machine.execRecoveryReset index s
  | .streamEntryWrite req page off value => Sys2Proof.Machine.execStreamEntryWrite req page off value s
  | .tmTblPass => Sys2Proof.Machine.execTmTblPass s
  | .tsPop req piste => Sys2Proof.Machine.execTsPop req piste s
  | .set req => Sys2Proof.Machine.execSet req s
  | .timeStep req => Sys2Proof.Machine.execTimeStep req s
  | .setAtPps req => Sys2Proof.Machine.execSetAtPps req s
  | .timeAdjWrite req value => Sys2Proof.Machine.execTimeAdjWrite req value s
  | .ppsInEdge => Sys2Proof.Machine.execPpsInEdge s
  | .ppsOutRise => Sys2Proof.Machine.execPpsOutRise s
  | .ppsOutFall => Sys2Proof.Machine.execPpsOutFall s
  | .txDb inst ring tail => Sys2Proof.Machine.execTxDb inst ring tail s
  | .rxDb inst ring tail => Sys2Proof.Machine.execRxDb inst ring tail s
  | .evtDb inst => Sys2Proof.Machine.execEvtDb inst s
  | .descriptorFetch inst ring descs => Sys2Proof.Machine.execDescriptorFetch inst ring descs s
  | .txRetry inst ring => Sys2Proof.Machine.execTxRetry inst ring s
  | .hostReadCompletion inst ring data err => Sys2Proof.Machine.execHostReadCompletion inst ring data err s
  | .rxDelivery inst queue entries => Sys2Proof.Machine.execRxDelivery inst queue entries s
  | .msixMessage inst ring => Sys2Proof.Machine.execMsixMessage inst ring s
  | .instEnable req inst en => Sys2Proof.Machine.execInstEnable req inst en s
  | .instShareWrite req inst value => Sys2Proof.Machine.execInstShareWrite req inst value s
  | .instReset req inst => Sys2Proof.Machine.execInstReset req inst s
  | .instDrainTimeout inst => Sys2Proof.Machine.execInstDrainTimeout inst s
  | .instResetComplete inst => Sys2Proof.Machine.execInstResetComplete inst s
  | .apply req => Sys2Proof.Machine.execApply req s
  | .reject req => Sys2Proof.Machine.execReject req s
  | .sync req => Sys2Proof.Machine.execSync req s
  | .dirtyRestart req => Sys2Proof.Machine.execDirtyRestart req s
  | .toHbm req data => Sys2Proof.Machine.execToHbm req data s
  | .fromHbm req => Sys2Proof.Machine.execFromHbm req s
  | .pcieLinkDown => Sys2Proof.Machine.execPcieLinkDown s
  | .pcieLinkUp => Sys2Proof.Machine.execPcieLinkUp s
  | .functionLevelReset => Sys2Proof.Machine.execFunctionLevelReset s
  | .safetyRecord => Sys2Proof.Machine.execSafetyRecord s
  | .scCompare differ => Sys2Proof.Machine.execScCompare differ s
  | .clockWindow clk count => Sys2Proof.Machine.execClockWindow clk count s
  | .voltageDeparture rail high => Sys2Proof.Machine.execVoltageDeparture rail high s
  | .dieTempRead sensor temp => Sys2Proof.Machine.execDieTempRead sensor temp s
  | .xchkSelfcheck pair outcome => Sys2Proof.Machine.execXchkSelfcheck pair outcome s
  | .pstWdKick req piste value => Sys2Proof.Machine.execPstWdKick req piste value s
  | .safeWdKickTel req n value => Sys2Proof.Machine.execSafeWdKickTel req n value s
  | .watchdogExpiry wd => Sys2Proof.Machine.execWatchdogExpiry wd s
  | .safeInSample a b => Sys2Proof.Machine.execSafeInSample a b s
  | .safeInDisc => Sys2Proof.Machine.execSafeInDisc s
  | .thermtrip => Sys2Proof.Machine.execThermtrip s
  | .pennantEdge => Sys2Proof.Machine.execPennantEdge s
  | .stSlotStart piste => Sys2Proof.Machine.execStSlotStart piste s
  | .stCoreOffline piste => Sys2Proof.Machine.execStCoreOffline piste s
  | .stTestDone piste ok signature => Sys2Proof.Machine.execStTestDone piste ok signature s
  | .stIdleTimeout piste => Sys2Proof.Machine.execStIdleTimeout piste s
  | .injTokenFlip req => Sys2Proof.Machine.execInjTokenFlip req s
  | .injTokenWithhold req => Sys2Proof.Machine.execInjTokenWithhold req s
  | .injLockstep req => Sys2Proof.Machine.execInjLockstep req s
  | .injClock req => Sys2Proof.Machine.execInjClock req s
  | .injRail req => Sys2Proof.Machine.execInjRail req s
  | .injWatchdog req => Sys2Proof.Machine.execInjWatchdog req s
  | .injScState req => Sys2Proof.Machine.execInjScState req s
  | .injXchkSelf req => Sys2Proof.Machine.execInjXchkSelf req s
  | .safeRecPop req => Sys2Proof.Machine.execSafeRecPop req s
  | .keyProg req => Sys2Proof.Machine.execKeyProg req s
  | .keyRevoke req => Sys2Proof.Machine.execKeyRevoke req s
  | .provision req => Sys2Proof.Machine.execProvision req s
  | .toField req => Sys2Proof.Machine.execToField req s
  | .nonce req => Sys2Proof.Machine.execNonce req s
  | .toReturn req => Sys2Proof.Machine.execToReturn req s
  | .scrap req => Sys2Proof.Machine.execScrap req s
  | .debugUnlock req => Sys2Proof.Machine.execDebugUnlock req s
  | .logRdWrite req value => Sys2Proof.Machine.execLogRdWrite req value s
  | .append req => Sys2Proof.Machine.execAppend req s
  | .buntingSample => Sys2Proof.Machine.execBuntingSample s
  | .histRead req => Sys2Proof.Machine.execHistRead req s
  | .smbusBlockWrite b0 b1 b2 => Sys2Proof.Machine.execSmbusBlockWrite b0 b1 b2 s
  | .smbusBlockRead => Sys2Proof.Machine.execSmbusBlockRead s
  | .halt req => Sys2Proof.Machine.execHalt req s
  | .dbgResume req => Sys2Proof.Machine.execDbgResume req s
  | .step req => Sys2Proof.Machine.execStep req s
  | .stepTimeout t => Sys2Proof.Machine.execStepTimeout t s
  | .abandon req => Sys2Proof.Machine.execAbandon req s
  | .traceStart req => Sys2Proof.Machine.execTraceStart req s
  | .traceStop req => Sys2Proof.Machine.execTraceStop req s
  | .tapReset => Sys2Proof.Machine.execTapReset s
  | .idcode => Sys2Proof.Machine.execIdcode s
  | .bypass => Sys2Proof.Machine.execBypass s
  | .samplePreload cells => Sys2Proof.Machine.execSamplePreload cells s
  | .extest => Sys2Proof.Machine.execExtest s
  | .clamp => Sys2Proof.Machine.execClamp s
  | .highz => Sys2Proof.Machine.execHighz s
  | .powerOnDetectorRelease det => Sys2Proof.Machine.execPowerOnDetectorRelease det s
  | .completionTimeout inst => Sys2Proof.Machine.execCompletionTimeout inst s
  | .fuseProgrammingDone => Sys2Proof.Machine.execFuseProgrammingDone s
  | .bitmapRebuild pool word => Sys2Proof.Machine.execBitmapRebuild pool word s
  | .deadlineMarkerTimeout piste graph => Sys2Proof.Machine.execDeadlineMarkerTimeout piste graph s

end Sys2Proof.Machine
end

