-- ==== Sys2Proof/Machine/Tick.lean ====
section
/-! DEFINITION. A tick of the 1.0 GHz time clock, which is what the block does where no command waits: the time base and the counts of
time go on, thread timers count down, and what ends by lapse of time beside the commands ends (R31, R89, R187, R192, R276, R414,
R415, R460, R479, R535). -/
namespace Sys2Proof.Machine
open Sys2Proof

/-- Every thread timer counts down by one; one that reaches zero sets its event (R192). -/
def tickTimers (s : State) : State :=
  let ended := (s.threads.filter (fun e => e.2.timer == 1)).map (·.1)
  let s := { s with threads := s.threads.map (fun e => (e.1, if e.2.timer = 0 then e.2 else { e.2 with timer := e.2.timer - 1 })) }
  ended.foldl (fun s t => timerExpire t s) s
/-- The time base advances, and a step accepted before is carried out (R414, R415). -/
def tickBase (s : State) : State :=
  let jump := s.time.nextSet
  let s := setFrac (s.frac + s.increment) s
  match jump with
  | some j => applyJump j s
  | none => s
/-- Bin of TEMP_HIST for a temperature (R535). -/
def tempBin (t : Int) : Nat :=
  if t < 45 then 0 else if t < 65 then 1 else if t < 75 then 2 else if t < 85 then 3 else if t < 95 then 4 else if t < 100 then 5
  else if t < 105 then 6 else 7
/-- The highest reading of the die sensors that have read. -/
def State.hottest (s : State) : Option Int :=
  (rangeFrom 0 16).foldl (fun m i =>
    let w := s.reg pRST (0x8010 + 4 * i)
    if !bit w 31 then m
    else
      let t := (w.setWidth 8).toInt
      match m with
      | some u => some (max t u)
      | none => some t) none
/-- A second of the time clock enters TEMP_HIST. -/
def tickTemp (s : State) : State :=
  if s.time.ticks % 1000000000 ≠ 0 then s
  else match s.hottest with
  | some t => bump pRST (0x8060 + 4 * tempBin t) s
  | none => s
/-- A declared deadlock whose condition has ended (R276). -/
def tickDeadlock (s : State) : State :=
  (rangeFrom 0 4).foldl (fun s p =>
    if (s.piste p).deadlock && !s.deadlocked p then updPiste p (fun q => { q with deadlock := false }) s else s) s
/-- The reset that holds the device is warm: the time base runs on (R89). -/
def State.warmHeld (s : State) : Bool := s.mode.resetCause == 1 || s.mode.resetCause == 3
/-- A tick while RESET holds the device: the start's time counts from the release (R70). -/
def tickReset (s : State) : State :=
  let s := if s.warmHeld then setFrac (s.frac + s.increment) s else s
  if s.mode.porst || s.mode.sysrst || s.mode.trips != 0 then s else updTime (fun t => { t with ticks := t.ticks + 1 }) s
/-- A tick while the device runs. -/
def tickLive (s : State) : State :=
  let s := updTime (fun t => { t with ticks := t.ticks + 1, cycle := t.cycle + 2
                                      scUs := if (t.ticks + 1) % 1000 = 0 then t.scUs + 1 else t.scUs }) s
  tickDeadlock (injTimeout (tickTemp (tickTimers (tickBase s))))
/-- One tick: nothing without power, or where every divided clock stands. -/
def tick (s : State) : State :=
  if !s.mode.powered || s.mode.pllLost then s else if s.mode.inReset then tickReset s else tickLive s

end Sys2Proof.Machine
end

