-- ==== Sys2Proof/Safety.lean ====
section
/-! DEFINITION. What counts as a safe run, and the words the statements use: a command completes with an effect, a state is well
formed, a thread can run an instruction undisturbed, a register write is permitted, a command interface is free. -/
namespace Sys2Proof.Machine
open Sys2Proof

/-- The command answers a next state, of which the property holds. -/
def Completes (i : Instr) (s : State) (P : State → Prop) : Prop := ∃ u, exec i s = .next u ∧ P u

/-- A state is well formed: its memory is in canonical form. A run is safe when it keeps this in every state. -/
def State.inv (s : State) : Prop := Memory.wf s.mem = true

/-- The thread can run its next instruction: it runs, its PC can be fetched and no execution breakpoint meets it (R172, R543). -/
def State.steady (s : State) (t : Tid) : Bool :=
  s.canRun t.toNat && s.fetchOk t.toNat &&
    ((s.thr t.toNat).skipBp || (s.bpHit t.toNat [0] (s.thr t.toNat).pc.toNat 4).isNone)

/-- The debugger neither traces the thread's piste nor steps the thread (R542, R547). -/
def State.quiet (s : State) (t : Tid) : Bool :=
  (isTel t.toNat || !(s.piste (tPiste t.toNat)).traceRun) && !(s.thr t.toNat).stepping

/-- The thread after an instruction that retires and continues at an address. -/
def Thread.at (th : Thread) (pc : Nat) : Thread := { th with pc := BitVec.ofNat 40 pc, skipBp := false }

/-- The state after an instruction of a quiet thread that leaves it with the context `th` and goes on at `pc`: nothing but the
thread changes, save that a deadlock its piste declared has ended (R276). -/
def State.wentOn (s : State) (t : Tid) (th : Thread) (pc : Nat) : State := setThr t.toNat (th.at pc) (endDeadlock t.toNat s)

/-- No data breakpoint meets the access (R543). -/
def State.unwatched (s : State) (t : Tid) (k : AKind) (ea : W64) (n : Nat) : Bool :=
  (s.bpHit t.toNat ((if k.isLoad then [1, 3] else []) ++ (if k.isStore then [2, 3] else [])) ea.toNat n).isNone

/-- The memory address that an access to a memory reaches, with whether it is an HBM access: no window, view, semaphore or
register page, no secure part of a unit that is wiped, and no fault of R225. -/
def State.memPlace (s : State) (t : Tid) (k : AKind) (ea : W64) (n : Nat) : Option (Nat × Bool) :=
  match locate s t.toNat k ea n with
  | .mem a _ secure hbm =>
    if (secure && s.wipeBlocked (wipeUnit t.toNat)) || inWindow (isTel t.toNat) ea.toNat then none else some (a, hbm)
  | _ => none

/-- Little-endian numbers in memory, by their bytes. -/
def State.half (s : State) (a : Nat) : BitVec 16 := s.byte (a + 1) ++ s.byte a
def State.word (s : State) (a : Nat) : Word := s.half (a + 2) ++ s.half a
def State.dword (s : State) (a : Nat) : W64 := s.word (a + 4) ++ s.word a
/-- The same bytes read with the lowest address most significant. -/
def State.halfBe (s : State) (a : Nat) : BitVec 16 := s.byte a ++ s.byte (a + 1)
def State.wordBe (s : State) (a : Nat) : Word := s.halfBe a ++ s.halfBe (a + 2)
def State.dwordBe (s : State) (a : Nat) : W64 := s.wordBe a ++ s.wordBe (a + 4)

/-- Byte `i` of a register value, 0 the least significant. -/
def byteOf (v : W64) (i : Nat) : Byte := v.extractLsb' (8 * i) 8

/-- The thread runs undisturbed and the coprocessor is present and enabled at its level (R191, R227). -/
def State.unitReady (s : State) (t : Tid) (unit : Nat) : Bool :=
  s.steady t && s.quiet t && unitPresent s.part t.toNat unit && (s.thr t.toNat).unitOn unit

/-- The thread holds the packet and no CP3 command works on it (R231). -/
def State.holds (s : State) (t : Tid) (p : PktId) (k : Packet) : Prop :=
  s.held t.toNat = some (p, k) ∧ (s.thr t.toNat).pktBusy = false

/-- The thread is parked with the operation `op` of the instruction word `w`. -/
def State.parkedWith (s : State) (t : Tid) (op : Parked) (w : Word) : State :=
  setThr t.toNat { s.thr t.toNat with st := .parked, park := some (op, w) } s

/-- The requester may write the register at the page and offset in the present mode, unlocked and out of soft reset (R40-R45, R52,
R60, R73, R75). -/
def State.mayWrite (s : State) (req : Requester) (page off : Nat) : Bool :=
  reqOk s.part req && s.live &&
    match pageKind s.part page with
    | some k => (judge s req k page off).isEmpty
    | none => false

/-- A command register that the requester may write, its interface free (R61). -/
def State.mayCommand (s : State) (req : Requester) (page off statusOff : Nat) : Bool :=
  s.mayWrite req page off && !isCfg off && !bit (s.reg page statusOff) 30

/-- The status register of a command interface reads DONE with a code (R61). -/
def State.doneWith (s : State) (page statusOff : Nat) (st : Status) : Prop := s.reg page statusOff = w32 (0x80000000 + st.code)

end Sys2Proof.Machine
end

