-- ==== Sys2Proof/Certificates/Slice0/Obligations.lean ====
section
/-! DEFINITION. The statements for the provers: what the commands do, family by family, and what every step keeps. -/
open Sys2Proof Sys2Proof.Machine

/-- A step with a command at the front of its queue is that command's effect on the state with the queue's rest. -/
def Obligations.StepRunsFrontCommand : Prop :=
  ∀ (c : Instr) (rest : List Instr) (s : State), step { s with pending := c :: rest } = exec c { s with pending := rest }

/-- On an empty queue the block passes one tick of the time clock (the model's choice, log entry 2): without power, or with the root PLL out
of lock (R31), nothing changes; while it runs, the time clock and CYCLE (R187) go on. -/
def Obligations.StepOnEmptyQueueTicks : Prop :=
  ∀ s : State, s.pending = [] →
    ((s.mode.powered = false ∨ s.mode.pllLost = true) → step s = .next s) ∧
    (s.mode.powered = true → s.mode.pllLost = false → s.mode.inReset = false →
      ∃ u, step s = .next u ∧ u.time.ticks = s.time.ticks + 1 ∧ u.time.cycle = s.time.cycle + 2)

/-- No command is refused and none stops the block: every command answers a next state in every state (the model's choice, log entry 1). -/
def Obligations.EveryCommandAnswers : Prop :=
 ∀ (i : Instr) (s : State), ∃ u, exec i s = .next u

/-- The state after reset is well formed: its memory is in canonical form. -/
def Obligations.ResetIsWellFormed : Prop :=
 State.reset.inv

/-- Every step keeps the canonical form of the memory: addresses strictly rising, no byte listed that reads as an unlisted one does. -/
def Obligations.StepKeepsMemoryForm : Prop :=
 ∀ s u : State, s.inv → step s = .next u → u.inv

/-- Every step keeps the part and its stepping: no command and no tick changes what the device is (R1, R3). -/
def Obligations.StepKeepsThePart : Prop :=
 ∀ s u : State, step s = .next u → u.part = s.part ∧ u.stepping = s.stepping

/-- Every function of the ALU group writes its result to rd, and nothing else of the state changes but the PC (and, where the thread's piste
had declared a deadlock, that mark). Stated for every operand and every thread that runs undisturbed. (Drawn from R206.) The immediate
instructions, for every immediate that the rule admits. (Drawn from R207.) -/
def Obligations.ArithmeticResults : Prop :=
  (
  ∀ (s : State) (t : Tid) (rd rs rt : Reg), s.steady t = true → s.quiet t = true →
    let th := s.thr t.toNat
    let a := th.rg rs
    let b := th.rg rt
    let n := b.toNat % 64
    let after (v : W64) : State := s.wentOn t (th.setRg rd v) (th.pc.toNat + 4)
    exec (.add t rd rs rt) s = .next (after (a + b)) ∧
    exec (.sub t rd rs rt) s = .next (after (a - b)) ∧
    exec (.and t rd rs rt) s = .next (after (a &&& b)) ∧
    exec (.or t rd rs rt) s = .next (after (a ||| b)) ∧
    exec (.xor t rd rs rt) s = .next (after (a ^^^ b)) ∧
    exec (.andn t rd rs rt) s = .next (after (a &&& ~~~b)) ∧
    exec (.sll t rd rs rt) s = .next (after (BitVec.ofNat 64 (a.toNat * 2 ^ n))) ∧
    exec (.srl t rd rs rt) s = .next (after (BitVec.ofNat 64 (a.toNat / 2 ^ n))) ∧
    exec (.sra t rd rs rt) s = .next (after (BitVec.ofInt 64 (a.toInt / 2 ^ n))) ∧
    exec (.rotr t rd rs rt) s = .next (after ((a >>> n) ||| (a <<< (64 - n)))) ∧
    exec (.slt t rd rs rt) s = .next (after (if a.toInt < b.toInt then 1 else 0)) ∧
    exec (.sltu t rd rs rt) s = .next (after (if a.toNat < b.toNat then 1 else 0)) ∧
    exec (.min t rd rs rt) s = .next (after (BitVec.ofInt 64 (Min.min a.toInt b.toInt))) ∧
    exec (.max t rd rs rt) s = .next (after (BitVec.ofInt 64 (Max.max a.toInt b.toInt))) ∧
    exec (.minu t rd rs rt) s = .next (after (BitVec.ofNat 64 (Min.min a.toNat b.toNat))) ∧
    exec (.maxu t rd rs rt) s = .next (after (BitVec.ofNat 64 (Max.max a.toNat b.toNat))) ∧
    exec (.mul t rd rs rt) s = .next (after (BitVec.ofNat 64 (a.toNat * b.toNat))) ∧
    exec (.mulh t rd rs rt) s = .next (after (BitVec.ofInt 64 (a.toInt * b.toInt / 2 ^ 64))) ∧
    exec (.mulhu t rd rs rt) s = .next (after (BitVec.ofNat 64 (a.toNat * b.toNat / 2 ^ 64))) ∧
    exec (.addw t rd rs rt) s = .next (after (((a + b).extractLsb' 0 32).signExtend 64)) ∧
    exec (.subw t rd rs rt) s = .next (after (((a - b).extractLsb' 0 32).signExtend 64)))
  ∧ (
  ∀ (s : State) (t : Tid) (rd rs : Reg) (imm : BitVec 16), s.steady t = true → s.quiet t = true →
    let th := s.thr t.toNat
    let a := th.rg rs
    let n := imm.toNat
    let sx : W64 := imm.signExtend 64
    let zx : W64 := imm.setWidth 64
    let after (v : W64) : State := s.wentOn t (th.setRg rd v) (th.pc.toNat + 4)
    exec (.addi t rd rs imm) s = .next (after (a + sx)) ∧
    exec (.andi t rd rs imm) s = .next (after (a &&& zx)) ∧
    exec (.ori t rd rs imm) s = .next (after (a ||| zx)) ∧
    exec (.xori t rd rs imm) s = .next (after (a ^^^ zx)) ∧
    exec (.slti t rd rs imm) s = .next (after (if a.toInt < imm.toInt then 1 else 0)) ∧
    exec (.sltiu t rd rs imm) s = .next (after (if a.toNat < sx.toNat then 1 else 0)) ∧
    (n < 64 → exec (.slli t rd rs imm) s = .next (after (BitVec.ofNat 64 (a.toNat * 2 ^ n))) ∧
      exec (.srli t rd rs imm) s = .next (after (BitVec.ofNat 64 (a.toNat / 2 ^ n))) ∧
      exec (.srai t rd rs imm) s = .next (after (BitVec.ofInt 64 (a.toInt / 2 ^ n)))) ∧
    exec (.lui t rd 0 imm) s = .next (after (BitVec.ofNat 64 (n * 2 ^ 16))) ∧
    exec (.orih t rd rs imm) s = .next (after (a ||| BitVec.ofNat 64 (n * 2 ^ 32))))

/-- The functions of one operand, whose rt field is zero: bit counts and byte reversals. (Drawn from R206.) The bit-field instructions on the
field of len6 + 1 bits that starts at pos6, where it lies within the register. (Drawn from R211.) -/
def Obligations.OneOperandResults : Prop :=
  (
  ∀ (s : State) (t : Tid) (rd rs : Reg), s.steady t = true → s.quiet t = true →
    let th := s.thr t.toNat
    let a := th.rg rs
    let after (v : W64) : State := s.wentOn t (th.setRg rd v) (th.pc.toNat + 4)
    exec (.clz t rd rs 0) s = .next (after (BitVec.ofNat 64 (if a = 0 then 64 else 63 - a.toNat.log2))) ∧
    exec (.ctz t rd rs 0) s = .next (after (BitVec.ofNat 64 ((List.range 64).takeWhile (fun i => !a.getLsbD i)).length)) ∧
    exec (.popc t rd rs 0) s = .next (after (BitVec.ofNat 64 ((List.range 64).filter (fun i => a.getLsbD i)).length)) ∧
    exec (.bswap2 t rd rs 0) s = .next (after ((byteOf a 0 ++ byteOf a 1).setWidth 64)) ∧
    exec (.bswap4 t rd rs 0) s = .next (after ((byteOf a 0 ++ byteOf a 1 ++ byteOf a 2 ++ byteOf a 3).setWidth 64)) ∧
    exec (.bswap8 t rd rs 0) s = .next (after (byteOf a 0 ++ byteOf a 1 ++ byteOf a 2 ++ byteOf a 3 ++ byteOf a 4 ++
      byteOf a 5 ++ byteOf a 6 ++ byteOf a 7)))
  ∧ (
  ∀ (s : State) (t : Tid) (rd rs : Reg) (pos len : BitVec 6), s.steady t = true → s.quiet t = true →
    pos.toNat + len.toNat + 1 ≤ 64 →
    let th := s.thr t.toNat
    let a := th.rg rs
    let p := pos.toNat
    let n := len.toNat + 1
    let field : Nat := a.toNat / 2 ^ p % 2 ^ n
    let inField (i : Nat) : Bool := decide (p ≤ i) && decide (i < p + n)
    let after (v : W64) : State := s.wentOn t (th.setRg rd v) (th.pc.toNat + 4)
    exec (.bfxu t rd rs pos len) s = .next (after (BitVec.ofNat 64 field)) ∧
    exec (.bfxs t rd rs pos len) s = .next (after ((BitVec.ofNat n field).signExtend 64)) ∧
    (∃ v : W64, exec (.bfi t rd rs pos len) s = .next (after v) ∧
      ∀ i, i < 64 → v.getLsbD i = if inField i then a.getLsbD (i - p) else (th.rg rd).getLsbD i) ∧
    (∃ v : W64, exec (.bfc t rd rs pos len) s = .next (after v) ∧
      ∀ i, i < 64 → v.getLsbD i = (!inField i && a.getLsbD i)) ∧
    exec (.bfd t rd rs pos len) s = .next (after (BitVec.ofNat 64 (a.toNat % 2 ^ n * 2 ^ p))))

/-- An instruction of the register group with a field that has no meaning faults with ILLEGAL (cause 0x01), with nothing written but the
fault. (Drawn from R203, R211.) -/
def Obligations.IllegalFieldsFault : Prop :=
  ∀ (s : State) (t : Tid) (rd rs rt : Reg) (imm : BitVec 16) (pos len : BitVec 6), s.steady t = true →
    let ill (w : Word) : State := faultThr t.toNat 0x01 w 0 s
    (rt ≠ 0 →
      exec (.clz t rd rs rt) s = .next (ill (fmtA 0 rd rs rt 0x20)) ∧ exec (.ctz t rd rs rt) s = .next (ill (fmtA 0 rd rs rt 0x21)) ∧
      exec (.popc t rd rs rt) s = .next (ill (fmtA 0 rd rs rt 0x22)) ∧
      exec (.bswap2 t rd rs rt) s = .next (ill (fmtA 0 rd rs rt 0x24)) ∧
      exec (.bswap4 t rd rs rt) s = .next (ill (fmtA 0 rd rs rt 0x25)) ∧
      exec (.bswap8 t rd rs rt) s = .next (ill (fmtA 0 rd rs rt 0x26))) ∧
    (64 ≤ imm.toNat →
      exec (.slli t rd rs imm) s = .next (ill (fmtI 0x0B rd rs imm)) ∧ exec (.srli t rd rs imm) s = .next (ill (fmtI 0x0C rd rs imm)) ∧
      exec (.srai t rd rs imm) s = .next (ill (fmtI 0x0D rd rs imm))) ∧
    (rs ≠ 0 → exec (.lui t rd rs imm) s = .next (ill (fmtI 0x0A rd rs imm))) ∧
    (64 < pos.toNat + len.toNat + 1 →
      exec (.bfxu t rd rs pos len) s = .next (ill (fmtF rd rs pos len 0)) ∧
      exec (.bfxs t rd rs pos len) s = .next (ill (fmtF rd rs pos len 1)) ∧
      exec (.bfi t rd rs pos len) s = .next (ill (fmtF rd rs pos len 2)) ∧
      exec (.bfc t rd rs pos len) s = .next (ill (fmtF rd rs pos len 3)) ∧
      exec (.bfd t rd rs pos len) s = .next (ill (fmtF rd rs pos len 4)))

/-- A load from a memory on the die writes rd with the bytes at its address, sign- or zero-extended, lowest address least significant, or most
significant in the swapped forms. (Drawn from R208, R201.) -/
def Obligations.LoadResults : Prop :=
  ∀ (s : State) (t : Tid) (rd rs : Reg) (imm : BitVec 16) (m : Nat), s.steady t = true → s.quiet t = true →
    let th := s.thr t.toNat
    let ea := th.rg rs + imm.signExtend 64
    let ok (n : Nat) : Prop := s.memPlace t .load ea n = some (m, false) ∧ s.poisoned m n = false ∧ s.unwatched t .load ea n = true
    let after (v : W64) : State := s.wentOn t (th.setRg rd v) (th.pc.toNat + 4)
    (ok 1 → exec (.lb t rd rs imm) s = .next (after ((s.byte m).signExtend 64)) ∧
      exec (.lbu t rd rs imm) s = .next (after ((s.byte m).setWidth 64))) ∧
    (ok 2 → exec (.lh t rd rs imm) s = .next (after ((s.half m).signExtend 64)) ∧
      exec (.lhu t rd rs imm) s = .next (after ((s.half m).setWidth 64)) ∧
      exec (.lhs t rd rs imm) s = .next (after ((s.halfBe m).setWidth 64))) ∧
    (ok 4 → exec (.lw t rd rs imm) s = .next (after ((s.word m).signExtend 64)) ∧
      exec (.lwu t rd rs imm) s = .next (after ((s.word m).setWidth 64)) ∧
      exec (.lws t rd rs imm) s = .next (after ((s.wordBe m).setWidth 64))) ∧
    (ok 8 → exec (.ld t rd rs imm) s = .next (after (s.dword m)) ∧
      exec (.lds t rd rs imm) s = .next (after (s.dwordBe m)))

/-- A store to a memory puts the low bytes of rt at its address, lowest address least significant, or most significant in the swapped forms;
every other byte of memory, every register of the thread and every other field reads as before (an HBM store is counted at its port,
R391). (Drawn from R208, R201.) -/
def Obligations.StoreResults : Prop :=
  ∀ (s : State) (t : Tid) (rt rs : Reg) (imm : BitVec 16) (m : Nat) (hbm : Bool), s.steady t = true → s.quiet t = true →
    s.schussHeld t.toNat = false → s.inv →
    let th := s.thr t.toNat
    let ea := th.rg rs + imm.signExtend 64
    let v := th.rg rt
    let ok (n : Nat) : Prop := s.memPlace t .store ea n = some (m, hbm) ∧ s.unwatched t .store ea n = true
    let s1 : State := if hbm then hbmCount (hbmPortOf t.toNat) s else s
    let le (n : Nat) : Bytes := (List.range n).map (byteOf v)
    let stores (i : Instr) (b : Bytes) : Prop := Completes i s (fun u =>
      u = (putBytes m b s1).wentOn t th (th.pc.toNat + 4) ∧
      (∀ a, a < m ∨ m + b.length ≤ a → u.byte a = s.byte a) ∧ ∀ i, i < b.length → u.byte (m + i) = b.getD i 0)
    (ok 1 → stores (.sb t rt rs imm) (le 1)) ∧
    (ok 2 → stores (.sh t rt rs imm) (le 2) ∧ stores (.shs t rt rs imm) (le 2).reverse) ∧
    (ok 4 → stores (.sw t rt rs imm) (le 4) ∧ stores (.sws t rt rs imm) (le 4).reverse) ∧
    (ok 8 → stores (.sd t rt rs imm) (le 8) ∧ stores (.sds t rt rs imm) (le 8).reverse)

/-- The atomics read the old value of a word or doubleword of the cluster scratchpad into rd, zero-extended, and leave the sum, the operand,
or on a matching compare the operand in its place. (Drawn from R209.) -/
def Obligations.AtomicResults : Prop :=
  ∀ (s : State) (t : Tid) (rd rs rt : Reg) (m : Nat), s.steady t = true → s.quiet t = true → s.schussHeld t.toNat = false →
    let th := s.thr t.toNat
    let b := th.rg rt
    let b4 : Word := b.extractLsb' 0 32
    let e4 : Word := (th.rg rd).extractLsb' 0 32
    let ok (n : Nat) : Prop := s.memPlace t .atomic (th.rg rs) n = some (m, false) ∧ s.poisoned m n = false ∧
      s.unwatched t .atomic (th.rg rs) n = true
    let bytes4 (v : Word) : Bytes := (List.range 4).map (byteOf (v.setWidth 64))
    let bytes8 (v : W64) : Bytes := (List.range 8).map (byteOf v)
    let after (old : W64) (b : Bytes) : State := (putBytes m b s).wentOn t (th.setRg rd old) (th.pc.toNat + 4)
    let w := s.word m
    let d := s.dword m
    (ok 4 → exec (.aaddW t rd rs rt) s = .next (after (w.setWidth 64) (bytes4 (w + b4))) ∧
      exec (.aswpW t rd rs rt) s = .next (after (w.setWidth 64) (bytes4 b4)) ∧
      exec (.acasW t rd rs rt) s = .next (after (w.setWidth 64) (bytes4 (if w = e4 then b4 else w)))) ∧
    (ok 8 → exec (.aaddD t rd rs rt) s = .next (after d (bytes8 (d + b))) ∧
      exec (.aswpD t rd rs rt) s = .next (after d (bytes8 b)) ∧
      exec (.acasD t rd rs rt) s = .next (after d (bytes8 (if d = th.rg rd then b else d))))

/-- A branch whose condition holds goes to PC + sext(off16) × 4, another goes on; J, JAL and JALR jump, the latter two with the link written.
The branch target buffer learns the outcome; nothing else changes. (Drawn from R212, R158.) -/
def Obligations.BranchResults : Prop :=
  ∀ (s : State) (t : Tid) (rd rs rt : Reg) (off : BitVec 16) (off26 : BitVec 26), s.steady t = true → s.quiet t = true →
    let th := s.thr t.toNat
    let pc := th.pc.toNat
    let a := th.rg rs
    let b := th.rg rt
    let next := (th.pc + off.signExtend 40 * 4).toNat
    let next26 := (th.pc + off26.signExtend 40 * 4).toNat
    let went (taken : Bool) (dest : Nat) (x : Thread) : State := (btbResolve t.toNat pc dest taken s).wentOn t x dest
    let br (c : Bool) : State := went c (if c then next else pc + 4) th
    let link := BitVec.ofNat 64 (pc + 4)
    let r : W64 := a + off.signExtend 64
    (pc % 4 = 0 → exec (.beq t rs rt off) s = .next (br (decide (a = b))) ∧
      exec (.bne t rs rt off) s = .next (br (decide (a ≠ b))) ∧
      exec (.blt t rs rt off) s = .next (br (decide (a.toInt < b.toInt))) ∧
      exec (.bge t rs rt off) s = .next (br (decide (b.toInt ≤ a.toInt))) ∧
      exec (.bltu t rs rt off) s = .next (br (decide (a.toNat < b.toNat))) ∧
      exec (.bgeu t rs rt off) s = .next (br (decide (b.toNat ≤ a.toNat))) ∧
      exec (.j t off26) s = .next (went true next26 th) ∧
      exec (.jal t off26) s = .next (went true next26 (th.setRg 31 link)) ∧
      (r.toNat % 4 = 0 → exec (.jalr t rd rs off) s = .next (went true (r.toNat % 2 ^ 40) (th.setRg rd link)))) ∧
    (r.toNat % 4 ≠ 0 → exec (.jalr t rd rs off) s = .next (faultThr t.toNat 0x05 (fmtI 0x32 rd rs off) r.toNat s))

/-- CSRRD writes the control register of its number to rd, zero-extended, and changes nothing else. (Drawn from R187, R188, R213.) CSRWR
returns the old value and writes rs to EVMASK, to EVPEND (a 1 clears a latched event), to TIMER, and at PL1 and PL2 to the region
registers; a thread of PL0 that writes a region register faults with PRIV_INSN (cause 0x02). (Drawn from R187-R192, R213.) -/
def Obligations.ControlRegisterAccess : Prop :=
  (
  ∀ (s : State) (t : Tid) (rd : Reg), s.steady t = true → s.quiet t = true →
    let th := s.thr t.toNat
    let reads (n : BitVec 16) (v : W64) : Prop :=
      exec (.csrrd t rd 0 n) s = .next (s.wentOn t (th.setRg rd v) (th.pc.toNat + 4))
    reads 0x001 (th.pl.setWidth 64) ∧ reads 0x002 ((s.status t.toNat).setWidth 64) ∧ reads 0x003 (th.epc.setWidth 64) ∧
    reads 0x004 (th.cause.setWidth 64) ∧ reads 0x005 (th.evmask.setWidth 64) ∧ reads 0x006 ((s.evpend t.toNat).setWidth 64) ∧
    reads 0x007 (th.cpen.setWidth 64) ∧ reads 0x008 th.timer ∧ reads 0x009 (th.startPc.setWidth 64) ∧ reads 0x00A s.time.cycle ∧
    (∀ r : Fin 8, reads (BitVec.ofNat 16 (0x10 + r.val)) (sget 0 th.region r.val)) ∧
    (t.toNat < 2048 → reads 0x000 (BitVec.ofNat 64 (t.toNat / 8 * 0x10000 + t.toNat))) ∧
    (2048 ≤ t.toNat → reads 0x000 (BitVec.ofNat 64 (0x80000000 + (t.toNat - 2048)))) ∧
    ∀ n : BitVec 16, 0x0A < n.toNat → n.toNat < 0x10 ∨ 0x18 ≤ n.toNat →
      exec (.csrrd t rd 0 n) s = .next (faultThr t.toNat 0x01 (fmtI 2 rd 0 n) 0 s))
  ∧ (
  ∀ (s : State) (t : Tid) (rd rs : Reg), s.steady t = true → s.quiet t = true →
    let th := s.thr t.toNat
    let v := th.rg rs
    let writes (n : BitVec 16) (old : W64) (x : Thread) : Prop :=
      exec (.csrwr t rd rs n) s = .next (s.wentOn t (x.setRg rd old) (th.pc.toNat + 4))
    writes 0x005 (th.evmask.setWidth 64) { th with evmask := v.setWidth 32 &&& 0x7FF } ∧
    writes 0x006 ((s.evpend t.toNat).setWidth 64) { th with evlatch := th.evlatch &&& ~~~(v.setWidth 32 &&& 0x77C) } ∧
    writes 0x008 th.timer { th with timer := v } ∧
    (th.pl ≠ 0 → ∀ r : Fin 8, writes (BitVec.ofNat 16 (0x10 + r.val)) (sget 0 th.region r.val)
      { th with region := sset th.region r.val (v &&& 0xF03F00FFFFFFF000) }) ∧
    (th.pl ≠ 0 → ∃ x : Word, writes 0x007 (th.cpen.setWidth 64) { th with cpen := x }) ∧
    (th.pl = 0 → ∀ r : Fin 8, exec (.csrwr t rd rs (BitVec.ofNat 16 (0x10 + r.val))) s =
      .next (faultThr t.toNat 0x02 (fmtI 3 rd rs (BitVec.ofNat 16 (0x10 + r.val))) 0 s)))

/-- WAIT with an enabled event pending returns the pending enabled events at once, and otherwise puts the thread in WAITING; WAIT with EVMASK
zero faults. YIELD and FENCE retire. STAGE writes a staging word and extends the staging length. TRAP faults with cause TRAP. (Drawn from
R214, R215, R217, R220, R221.) -/
def Obligations.WaitStageTrapResults : Prop :=
  ∀ (s : State) (t : Tid) (rd rs : Reg) (imm : BitVec 16), s.steady t = true → s.quiet t = true →
    let th := s.thr t.toNat
    let ev := s.evpend t.toNat &&& th.evmask
    let after (x : Thread) : State := s.wentOn t x (th.pc.toNat + 4)
    (ev ≠ 0 → exec (.wait t rd 0 0) s = .next (after (th.setRg rd (ev.setWidth 64)))) ∧
    (ev = 0 → th.evmask ≠ 0 → exec (.wait t rd 0 0) s =
      .next (setThr t.toNat { th with st := .waiting, park := some (.wait rd, fmtA 1 rd 0 0 0x10) } s)) ∧
    (th.evmask = 0 → exec (.wait t rd 0 0) s = .next (faultThr t.toNat 0x14 (fmtA 1 rd 0 0 0x10) 0 s)) ∧
    exec (.yield t 0 0 0) s = .next (after th) ∧
    exec (.fence t 0 0 0) s = .next (after th) ∧
    (imm.toNat < 8 → exec (.stage t 0 rs imm) s =
      .next (after { th with stage := sset th.stage imm.toNat (th.rg rs), stageLen := Max.max th.stageLen (imm.toNat + 1) })) ∧
    exec (.trap t 0 0 imm) s = .next (faultThr t.toNat 0x13 (fmtI 0x27 0 0 imm) 0 s)

/-- TSTART with a target it may start runs that thread at the given address and returns OK, TSTOP stops a RUNNING or WAITING thread, and
either returns the code of what forbids it with no thread changed but its own. (Drawn from R167, R168, R216.) A SEND to a mailbox that the
thread may send to and that has room puts the staged words on their way, returns OK and empties the staging; MAILBOX_DELIVERY then puts
the oldest of them into the mailbox; MAILBOX_POP removes the oldest message. A SEND that is refused returns its code and keeps the
staging. (Drawn from R177, R178-R180, R218.) -/
def Obligations.ThreadCommands : Prop :=
  (
  ∀ (s : State) (t : Tid) (rd rs rt : Reg), s.steady t = true → s.quiet t = true → s.schussHeld t.toNat = false →
    let th := s.thr t.toNat
    let a := (th.rg rs).toNat
    let pc := (th.rg rt).toNat
    let others (u : State) (v : Nat) : Prop := ∀ x, x ≠ t.toNat → x ≠ v → u.thr x = s.thr x
    let own (u : State) (st : Status) : Prop := u.thr t.toNat = (th.setRg rd (BitVec.ofNat 64 st.code)).at (th.pc.toNat + 4)
    let kept (u : State) : Prop := u.mem = s.mem ∧ u.regs = s.regs ∧ u.mode = s.mode
    (∀ v, tstartJudge s t.toNat (th.rg rs) (th.rg rt) = (.ok, some v) → Completes (.tstart t rd rs rt) s (fun u =>
      (u.thr v).st = .running ∧ (u.thr v).pc = BitVec.ofNat 40 pc ∧ (u.thr v).startPc = BitVec.ofNat 40 pc ∧ own u .ok ∧
      others u v ∧ kept u)) ∧
    (∀ st, tstartJudge s t.toNat (th.rg rs) (th.rg rt) = (st, none) →
      exec (.tstart t rd rs rt) s = .next (s.wentOn t (th.setRg rd (BitVec.ofNat 64 st.code)) (th.pc.toNat + 4))) ∧
    (∀ v, a < 2048 → targetThread s.part t.toNat a = some v → threadRight true t.toNat v = true → v ≠ t.toNat →
      (s.thr v).st = .running ∨ (s.thr v).st = .waiting → Completes (.tstop t rd rs 0) s (fun u =>
        (u.thr v).st = .stopped ∧ (u.thr v).pc = (s.thr v).pc ∧ (u.thr v).g = (s.thr v).g ∧ own u .ok ∧ others u v ∧ kept u)) ∧
    (2048 ≤ a → th.stopPending = false → Completes (.tstop t rd rs 0) s (fun u => own u .badArg ∧ others u t.toNat ∧ kept u)))
  ∧ (
  ∀ (s : State) (t : Tid) (rd rs : Reg) (v : Nat), s.steady t = true → s.quiet t = true → s.schussHeld t.toNat = false →
    let th := s.thr t.toNat
    let w := th.rg rs
    let st := sendStatus s t.toNat w th.staged false
    (st = .ok → destOf w = some (.mail v) → v ≠ t.toNat → Completes (.send t rd rs 0) s (fun u =>
      (u.thr v).inflight = (s.thr v).inflight ++ [{ sender := t.toNat % 2048, words := th.staged }] ∧
      (u.thr v).mbox = (s.thr v).mbox ∧ (u.thr t.toNat).stageLen = 0 ∧ (u.thr t.toNat).rg rd = 0 ∧
      u.mem = s.mem ∧ u.regs = s.regs)) ∧
    (st ≠ .ok → exec (.send t rd rs 0) s =
      .next (s.wentOn t (th.setRg rd (BitVec.ofNat 64 st.code)) (th.pc.toNat + 4))) ∧
    (∀ m r, th.inflight = m :: r → Completes (.mailboxDelivery t) s (fun u =>
      (u.thr t.toNat).mbox = th.mbox ++ [m] ∧ (u.thr t.toNat).inflight = r ∧ u.mem = s.mem ∧ u.regs = s.regs)) ∧
    (th.pl ≠ 0 → s.unwatched t .store 0x21048 4 = true → exec (.mailboxPop t) s =
      .next (s.wentOn t { th with mbox := th.mbox.drop 1 } (th.pc.toNat + 4))))

/-- A COMMIT of the held packet with a disposition that is not refused hands it to the Gate, which keeps the disposition; the thread holds no
item any more and rd receives OK. A refused COMMIT returns its code, and the thread keeps its packet unless the Gate has timed the packet
out. (Drawn from R219.) -/
def Obligations.CommitResults : Prop :=
  ∀ (s : State) (t : Tid) (rd rs : Reg) (p : PktId) (k : Packet), s.steady t = true → s.quiet t = true →
    s.held t.toNat = some (p, k) → (s.thr t.toNat).cry = none →
    let th := s.thr t.toNat
    let w := th.rg rs
    let st := commitStatus s t.toNat w
    (st = .ok → k.st = .bound → Completes (.commit t rd rs 0) s (fun u =>
      u.pkt p = some { k with st := .committed, disp := w, holder := none } ∧ (u.thr t.toNat).item = none ∧
      (u.thr t.toNat).rg rd = 0 ∧ (∀ q, q ≠ p → u.pkt q = s.pkt q) ∧ u.mem = s.mem ∧ u.regs = s.regs)) ∧
    (st ≠ .ok → st ≠ .timeout → exec (.commit t rd rs 0) s =
      .next (s.wentOn t (th.setRg rd (BitVec.ofNat 64 st.code)) (th.pc.toNat + 4))) ∧
    (st = .timeout → exec (.commit t rd rs 0) s =
      .next (s.wentOn t ({ th with item := none }.setRg rd 11) (th.pc.toNat + 4)))

/-- The edits of the held packet, where the rule admits them: OVR replaces bytes, INS and PUSH insert bytes of the build buffer, DEL and POP
delete bytes; each returns OK, counts an edit (OVR only beyond the window) and changes no memory before the release. (Drawn from R236.)
BUFW writes a word of the build buffer, LEN returns the packet's present length, RD reads 8 bytes with the lowest address most significant
(zero past the packet) and parks beyond the window, UNDO restores the packet as it arrived. Each command that returns a status returns
EMPTY without a held packet. (Drawn from R236.) -/
def Obligations.PacketAccess : Prop :=
  (
  ∀ (s : State) (t : Tid) (rd rs rt : Reg) (p : PktId) (k : Packet), s.unitReady t 0 = true → s.holds t p k →
    let th := s.thr t.toNat
    let o := (th.rg rs).toNat
    let n := (th.rg rt).toNat
    let len := k.cur.length
    let edited (i : Instr) (cur : Bytes) (edits : Nat) : Prop := Completes i s (fun u =>
      (∃ k', u.pkt p = some k' ∧ k'.cur = cur ∧ k'.edits = edits ∧ k'.changed = true ∧ k'.cells = k.cells ∧ k'.seq = k.seq) ∧
      u.thr t.toNat = (th.setRg rd 0).at (th.pc.toNat + 4) ∧ (∀ q, q ≠ p → u.pkt q = s.pkt q) ∧ u.mem = s.mem ∧ u.regs = s.regs)
    let fits (m : Nat) : Prop := 64 ≤ m ∧ m ≤ 9216 ∧ m ≤ k.len + 256
    (∀ opt : BitVec 5, opt.toNat < 8 → fits len → o + (opt.toNat + 1) + 4 ≤ len → (512 < o + (opt.toNat + 1) → k.edits < 16) →
      edited (.pktOvr t rd rs rt opt)
        (k.cur.take o ++ ((List.range (opt.toNat + 1)).map (byteOf (th.rg rt))).reverse ++ k.cur.drop (o + (opt.toNat + 1)))
        (k.edits + if 512 < o + (opt.toNat + 1) then 1 else 0)) ∧
    (1 ≤ n → n ≤ 64 → o + 4 ≤ len → fits (len + n) → k.edits < 16 →
      edited (.pktIns t rd rs rt 0) (k.cur.take o ++ th.bufBytes.take n ++ k.cur.drop o) (k.edits + 1)) ∧
    (1 ≤ n → n ≤ 256 → o + n + 4 ≤ len → fits (len - n) → k.edits < 16 →
      edited (.pktDel t rd rs rt 0) (k.cur.take o ++ k.cur.drop (o + n)) (k.edits + 1)) ∧
    (∀ (opt : BitVec 5) (h l : Nat), opt.toNat < 16 → k.hdr opt = some (h, l) → k.edits < 16 →
      (1 ≤ n → n ≤ 64 → h + 4 ≤ len → fits (len + n) →
        edited (.pktPush t rd 0 rt opt) (k.cur.take h ++ th.bufBytes.take n ++ k.cur.drop h) (k.edits + 1)) ∧
      (h + l + 4 ≤ len → fits (len - l) →
        edited (.pktPop t rd 0 0 opt) (k.cur.take h ++ k.cur.drop (h + l)) (k.edits + 1))))
  ∧ (
  ∀ (s : State) (t : Tid) (rd rs : Reg) (opt : BitVec 5) (p : PktId) (k : Packet), s.unitReady t 0 = true →
    let th := s.thr t.toNat
    let o := (th.rg rs).toNat
    let after (x : Thread) : State := s.wentOn t x (th.pc.toNat + 4)
    let byteAt (i : Nat) : Byte := k.cur.getD (o + i) 0
    (s.holds t p k →
      (opt.toNat < 8 → exec (.pktBufw t 0 rs 0 opt) s = .next (after { th with buf := sset th.buf opt.toNat (th.rg rs) })) ∧
      exec (.pktLen t rd 0 0 0) s = .next (after (th.setRg rd (BitVec.ofNat 64 k.cur.length))) ∧
      (o < 512 → exec (.pktRd t rd rs 0 0) s = .next (after (th.setRg rd (byteAt 0 ++ byteAt 1 ++ byteAt 2 ++ byteAt 3 ++ byteAt 4 ++
        byteAt 5 ++ byteAt 6 ++ byteAt 7)))) ∧
      (512 ≤ o → exec (.pktRd t rd rs 0 0) s = .next (s.parkedWith t (.pktRd rd o) (fmtX 0 7 rd rs 0 0))) ∧
      Completes (.pktUndo t rd 0 0 0) s (fun u =>
        (∃ k', u.pkt p = some k' ∧ k'.cur = s.chainBytes k.cells ∧ k'.edits = 0 ∧ k'.changed = false) ∧
        (u.thr t.toNat).rg rd = 0 ∧ u.mem = s.mem ∧ ∀ q, q ≠ p → u.pkt q = s.pkt q)) ∧
    (s.held t.toNat = none → th.pktBusy = false →
      exec (.pktLen t rd 0 0 0) s = .next (after (th.setRg rd 6)) ∧ exec (.pktUndo t rd 0 0 0) s = .next (after (th.setRg rd 6)) ∧
      exec (.pktIns t rd rs rd 0) s = .next (after (th.setRg rd 6))))

/-- CRC.INIT sets an accumulator to its algorithm's start value and clears what it held; CRC.UPD feeds the low bytes of a register, the most
significant first; CRC.FIN returns the final value; the ranges feed bytes of the held packet by parking; the checksum commands set, extend
and return the 16-bit ones'-complement sum. KEYW writes a key word or the profile; each lookup is accepted where the unit has room, is
counted in LKP_REQS and parks its thread until its answer comes; a lookup that changes a table waits while its packet is not firm. (Drawn
from R238-R240, R247; the accumulator's form is log entry 67 and the wait log entry 76, the model's readings.) -/
def Obligations.CrcAndLookupCommands : Prop :=
  (
  ∀ (s : State) (t : Tid) (rd rs rt : Reg), s.unitReady t 1 = true →
    let th := s.thr t.toNat
    let v := th.rg rs
    let after (x : Thread) : State := s.wentOn t x (th.pc.toNat + 4)
    let ones (a b : Nat) : Nat := (a + b) % 0x100000000 + (a + b) / 0x100000000
    (∀ (opt : BitVec 5) (one : Bool), opt = (if one then 1 else 0) →
      (v.toNat % 16 = 0 → exec (.crcInit t rd rs 0 opt) s = .next (after ((th.setAcc one
        { value := 0xFFFFFFFF, alg := 0, width := 32, poly := 0x04C11DB7, refin := true, refout := true, xor := 0xFFFFFFFF }).setRg rd 0))) ∧
      (v.toNat % 16 = 1 → exec (.crcInit t rd rs 0 opt) s = .next (after ((th.setAcc one
        { value := 0xFFFFFFFF, alg := 1, width := 32, poly := 0x1EDC6F41, refin := true, refout := true, xor := 0xFFFFFFFF }).setRg rd 0))) ∧
      (6 ≤ v.toNat % 16 → exec (.crcInit t rd rs 0 opt) s = .next (after (th.setRg rd 4))) ∧
      exec (.crcFin t rd 0 0 opt) s = .next (after (th.setRg rd ((th.acc one).final.setWidth 64))) ∧
      (∀ p k, s.holds t p k → v.toNat + (th.rg rt).toNat ≤ k.cur.length →
        exec (.crcPrange t rd rs rt opt) s =
          .next (s.parkedWith t (.prange rd v.toNat (th.rg rt).toNat one) (fmtX 1 3 rd rs rt opt)))) ∧
    (∀ (opt : BitVec 5), opt.toNat < 16 → exec (.crcUpd t 0 rs 0 opt) s = .next (after (th.setAcc (opt.getLsbD 3)
      ((th.acc (opt.getLsbD 3)).feed ((List.range (opt.toNat % 8 + 1)).map (byteOf v)).reverse)))) ∧
    exec (.crcCset t 0 rs 0 0) s = .next (after { th with cs := v.setWidth 32 }) ∧
    (let sum := ones (ones (ones (ones th.cs.toNat (v.toNat / 2 ^ 48)) (v.toNat / 2 ^ 32 % 65536)) (v.toNat / 2 ^ 16 % 65536))
        (v.toNat % 65536)
     exec (.crcCadd t 0 rs 0 0) s = .next (after { th with cs := BitVec.ofNat 32 sum })) ∧
    (∀ p k, s.holds t p k → v.toNat + (th.rg rt).toNat ≤ k.cur.length →
      exec (.crcCrange t rd rs rt 0) s =
        .next (s.parkedWith t (.crange rd v.toNat (th.rg rt).toNat) (fmtX 1 7 rd rs rt 0))) ∧
    exec (.crcCfin t rd 0 0 0) s = .next (after (th.setRg rd (BitVec.ofNat 64 (0xFFFF - fold16 th.cs.toNat)))) ∧
    exec (.crcCinc t rd rs rt 0) s = .next (after (th.setRg rd (BitVec.ofNat 64 (0xFFFF - fold16
      ((0xFFFF - v.toNat % 65536) + (0xFFFF - (th.rg rt).toNat / 65536 % 65536) + (th.rg rt).toNat % 65536))))))
  ∧ (
  ∀ (s : State) (t : Tid) (rd rs : Reg) (opt : BitVec 5), s.unitReady t 2 = true →
    let th := s.thr t.toNat
    let v := th.rg rs
    let pg := pCLU (tCluster t.toNat)
    let asks (i : Instr) (op : Parked) (w : Word) : Prop := exec i s = .next ((bump64 pg 0x8410 s).parkedWith t op w)
    (opt.toNat < 5 → exec (.lkpKeyw t 0 rs 0 opt) s =
      .next (s.wentOn t { th with key := sset th.key opt.toNat (v.setWidth 32) } (th.pc.toNat + 4))) ∧
    exec (.lkpKeyw t 0 rs 0 5) s = .next (s.wentOn t { th with profile := v.setWidth 6 } (th.pc.toNat + 4)) ∧
    (s.lkpRoom t.toNat = true →
      asks (.lkpFfind t rd 0 0 0) (.ffind rd) (fmtX 2 2 rd 0 0 0) ∧
      (opt.toNat < 4 →
        asks (.lkpHfind t rd 0 0 opt) (.hfind rd opt.toNat) (fmtX 2 6 rd 0 0 opt) ∧
        asks (.lkpRfind t rd rs 0 opt) (.rfind rd (v.setWidth 32) opt.toNat) (fmtX 2 9 rd rs 0 opt)) ∧
      (s.schussHeld t.toNat = false →
        asks (.lkpFins t rd rs 0 0) (.fins rd (v.setWidth 20)) (fmtX 2 3 rd rs 0 0) ∧
        asks (.lkpFdel t rd 0 0 0) (.fdel rd) (fmtX 2 4 rd 0 0 0) ∧
        (opt.toNat < 4 →
          asks (.lkpHins t rd rs 0 opt) (.hins rd v opt.toNat) (fmtX 2 7 rd rs 0 opt) ∧
          asks (.lkpHdel t rd 0 0 opt) (.hdel rd opt.toNat) (fmtX 2 8 rd 0 0 opt)))) ∧
    (s.schussHeld t.toNat = true → exec (.lkpFins t rd rs 0 0) s = .next s))

/-- SETP writes a parameter; GCM, CMAC and SHA that pass their checks are accepted with OK and leave the thread's command under way; POLL
returns the state of the last command; KLOAD and KZERO take effect on the key store at once (log entry 53, the model's reading) and park
with their status. (Drawn from R229, R242, R243, R351.) -/
def Obligations.CryptoCommands : Prop :=
  ∀ (s : State) (t : Tid) (rd rs rt : Reg) (opt : BitVec 5), s.unitReady t 3 = true →
    let th := s.thr t.toNat
    let after (x : Thread) : State := s.wentOn t x (th.pc.toNat + 4)
    let slot := (th.rg rt).toNat % 256
    let accepted (i : Instr) (func : Nat) (fromPkt : Bool) : Prop := Completes i s (fun u =>
      (∃ c, (u.thr t.toNat).cry = some c ∧ c.func = func ∧ c.fromPkt = fromPkt ∧ c.orphan = false ∧ c.pkt = (s.held t.toNat).map (·.1)) ∧
      (u.thr t.toNat).cryDone = false ∧ (u.thr t.toNat).rg rd = 0 ∧ u.mem = s.mem ∧ u.regs = s.regs ∧ u.pkts = s.pkts)
    (opt.toNat < 5 → exec (.crySetp t 0 rs 0 opt) s = .next (after { th with p3 := sset th.p3 opt.toNat (th.rg rs) })) ∧
    (cryStatus s t.toNat (some 0) (fun k => if cryRangeBad th true k then [.badArg] else []) true = .ok →
      accepted (.cryGcm t rd 0 0 0) 2 true) ∧
    (cryStatus s t.toNat (some 2) (fun k => if cryRangeBad th false k then [.badArg] else []) true = .ok →
      accepted (.cryCmac t rd 0 0 0) 3 true) ∧
    (cryStatus s t.toNat none (fun k => if k.cur.length - 4 < (th.rg rs).toNat + (th.rg rt).toNat then [.badArg] else []) true = .ok →
      accepted (.crySha t rd rs rt 1) 4 true) ∧
    ((shaSource s t.toNat (th.rg rs) (th.rg rt)).isSome = true → cryStatus s t.toNat none (fun _ => []) false = .ok →
      accepted (.crySha t rd rs rt 0) 4 false) ∧
    exec (.cryPoll t rd 0 0 0) s = .next (after (th.setRg rd (BitVec.ofNat 64
      ((if th.cryDone then 0x80000000 else 0) + (if th.cryAuth then 0x100 else 0) + th.cryStatus.toNat)))) ∧
    (s.schussHeld t.toNat = false → th.pl ≠ 0 → slot < keySlots t.toNat → s.wipeBlocked (cryUnit t.toNat) = false →
      exec (.cryKzero t rd 0 rt 0) s = .next
        ((setKey (cryUnit t.toNat) slot { key := 0, mode := 0, valid := false } s).parkedWith t (.value rd 0 0) (fmtX 3 7 rd 0 rt 0)) ∧
      ∀ m, keySource t.toNat (th.rg rs) = some m → s.poisoned m 40 = false → (s.byte (m + 32)).toNat ≤ 3 →
        exec (.cryKload t rd rs rt 0) s = .next
          ((setKey (cryUnit t.toNat) slot { key := BitVec.ofNat 256 (s.num m 32), mode := (s.byte (m + 32)).setWidth 2, valid := true } s).parkedWith
            t (.value rd 0 0) (fmtX 3 6 rd rs rt 0)))

/-- NOW and ARR return a time in the layout seconds over nanoseconds, with the full seconds in the result register; SCHED, TXTS and CORR
record their request with the held packet; GET returns a result register. (Drawn from R228, R246.) -/
def Obligations.TimeCommands : Prop :=
  ∀ (s : State) (t : Tid) (rd rs : Reg), s.unitReady t 5 = true →
    let th := s.thr t.toNat
    let v := th.rg rs
    let after (x : Thread) : State := s.wentOn t x (th.pc.toNat + 4)
    let sec := s.time.sec.toNat
    let time (a b : Nat) : W64 := BitVec.ofNat 64 (a % 2 ^ 32 * 2 ^ 32 + b)
    exec (.timNow t rd 0 0 0) s = .next (after ({ th with res5 := BitVec.ofNat 64 sec }.setRg rd (time sec s.time.ns.toNat))) ∧
    exec (.coprocGet t 5 rd 0 0 0) s = .next (after (th.setRg rd th.res5)) ∧
    (t.toNat < 2048 → ∀ p k, s.holds t p k →
      (let a := arrivalNs s.totalNs k.ts
       exec (.timArr t rd 0 0 0) s = .next (after ({ th with res5 := BitVec.ofNat 64 (a / 1000000000) }.setRg rd
         (time (a / 1000000000) (a % 1000000000))))) ∧
      (s.schussHeld t.toNat = false → v.toNat % 2 ^ 32 < 1000000000 → tooLate s v = false →
        exec (.timSched t rd rs 0 0) s = .next ((setPkt p { k with sched := some v } s).wentOn t (th.setRg rd 0) (th.pc.toNat + 4))) ∧
      exec (.timTxts t rd rs 0 0) s =
        .next ((setPkt p { k with txts := some (v.setWidth 16) } s).wentOn t (th.setRg rd 0) (th.pc.toNat + 4)) ∧
      (v.toNat + 12 ≤ k.cur.length → exec (.timCorr t rd rs 0 0) s =
        .next ((setPkt p { k with corr := some v.toNat } s).wentOn t (th.setRg rd 0) (th.pc.toNat + 4))))

/-- CPSAVE writes a unit's per-thread state to the save area in a scratchpad, with the header that CPRESTORE asks for, and nothing else;
CPRESTORE of an area with that header takes the state back. (Drawn from R222, R235.) -/
def Obligations.SaveAndRestore : Prop :=
  ∀ (s : State) (t : Tid) (rs : Reg) (unit : BitVec 5) (m : Nat), s.unitReady t unit.toNat = true → unit.toNat < 6 →
    s.schussHeld t.toNat = false → (unit.toNat = 3 → (s.thr t.toNat).cry = none) →
    let th := s.thr t.toNat
    let u := unit.toNat
    let a := th.rg rs
    let n := if u = 0 ∨ u = 3 then 128 else 64
    let secure := decide (spaceBase 2 ≤ m) && decide (0xF0000 ≤ m % 0x100000)
    (secure && s.wipeBlocked (tCluster t.toNat)) = false →
    (saveSpace s t.toNat u .store a = .inl m → s.unwatched t .store a n = true →
      exec (.cpsave t 0 rs unit) s = .next ((putBytes m (th.saveArea u) s).wentOn t th (th.pc.toNat + 4)) ∧
      (th.saveArea u).length = n ∧ leNat ((th.saveArea u).take 8) = u + 0x100 + n * 0x10000) ∧
    (saveSpace s t.toNat u .load a = .inl m → s.unwatched t .load a n = true → s.poisoned m n = false →
      s.num m 8 = u + 0x100 + n * 0x10000 →
      exec (.cprestore t 0 rs unit) s = .next (s.wentOn t (restoreUnit s t.toNat u (s.bytes m n) th) (th.pc.toNat + 4)))

/-- PORST_N low and the power-on detectors bring a cold reset, SYSRST_N low a warm one that keeps the HBM and the staging copy; flash and
fuses outlive each; the releases change nothing but their pin. (Drawn from R63, R64, R89, R373, R519-R521.) -/
def Obligations.ResetEntries : Prop :=
  ∀ s : State, s.inv → s.mode.powered = true → s.fabric.flash = none → s.life.op = none →
    let kept (u : State) : Prop := u.modeNow = .reset ∧ u.life.fuses = s.life.fuses ∧ u.life.keys = s.life.keys ∧
      u.pending = s.pending ∧ u.threads = [] ∧ u.pkts = [] ∧ u.log = [] ∧ ∀ a, spaceOf a = 9 → u.byte a = s.byte a
    let cold (u : State) : Prop := kept u ∧ u.boot.staging = none ∧ ∀ a, a < 0x1000000000000 → u.byte a = 0
    (s.mode.porst = false → Completes .porstNAssert s (fun u => cold u ∧ u.mode.porst = true ∧ u.mode.resetCause = 0)) ∧
    (∀ d : BitVec 2, d.toNat < 3 → s.mode.trips.getLsbD d.toNat = false → Completes (.powerOnDetectorTrip d) s (fun u =>
      cold u ∧ u.mode.trips.getLsbD d.toNat = true ∧ u.mode.resetCause = BitVec.ofNat 4 (4 + d.toNat))) ∧
    (s.mode.porst = false → s.mode.sysrst = false → Completes .sysrstNAssert s (fun u =>
      kept u ∧ u.mode.sysrst = true ∧ u.mode.resetCause = 1 ∧ u.boot.staging = s.boot.staging ∧
      ∀ a, a < 0x1000000000000 → u.byte a = s.byte a)) ∧
    (s.mode.porst = true → exec .sysrstNAssert s = .next { s with mode := { s.mode with sysrst := true } }) ∧
    (s.mode.porst = true → exec .porstNRelease s = .next { s with mode := { s.mode with porst := false }, tap := .idle }) ∧
    exec .sysrstNRelease s = .next { s with mode := { s.mode with sysrst := false } } ∧
    (∀ d : BitVec 2, d.toNat < 3 → Completes (.powerOnDetectorRelease d) s (fun u =>
      u.mode.trips.getLsbD d.toNat = false ∧ u.mem = s.mem ∧ u.regs = s.regs ∧ u.threads = s.threads ∧ u.life = s.life)) ∧
    Completes .powerRemoved s (fun u => u.modeNow = .off ∧ u.life.fuses = s.life.fuses ∧ u.regs = [] ∧ u.threads = [] ∧
      ∀ a, spaceOf a = 9 → u.byte a = s.byte a)

/-- Power applied to an unpowered device while PORST_N is low leads from OFF to RESET. The release of reset begins BOOT with the Telemark
threads running from their vectors (log entry 37, the model's choice), or ZEROIZE where its cause is held. (Drawn from R64, R76, R166,
R522.) -/
def Obligations.PowerAndBootEntry : Prop :=
  (
  ∀ s : State, s.mode.powered = false → s.mode.porst = true → s.modeNow = .off ∧
    Completes .powerApplied s (fun u => u.modeNow = .reset ∧ u.mode.porst = true ∧ u.pending = s.pending))
  ∧ (
  ∀ s : State, s.mode.powered = true → s.mode.inReset = true → s.mode.porst = false → s.mode.sysrst = false → s.mode.trips = 0 →
    (s.mode.zeroHold = false → s.life.tamper = 0 → Completes .bootEntry s (fun u =>
      u.modeNow = .boot ∧ u.mode.prev = .reset ∧ u.mode.ready = false ∧ u.boot.stage ≠ .idle ∧
      (∀ t, 2048 ≤ t → t < 2056 → (u.thr t).st = .running) ∧ bit (u.reg pCLK 0x8000) 0 = true ∧ u.mem = s.mem)) ∧
    (s.mode.zeroHold = true → Completes .bootEntry s (fun u =>
      u.modeNow = .zeroize ∧ u.mode.prev = .boot ∧ u.mode.cause = s.mode.zeroCause ∧ u.life.zeroing = true)))

/-- When the root PLL loses lock, CLK_PLL.LOCKED clears, the safety controller receives a CLOCK record, and the device no longer runs. (Drawn
from R31, R463.) -/
def Obligations.PllLockLossStopsTheDevice : Prop :=
  ∀ s : State, s.live = true → Completes .pllLockLoss s (fun u =>
    u.live = false ∧ u.mode.pllLost = true ∧ bit (u.reg pCLK 0x8000) 0 = false ∧
    (∃ r, u.safety.inbox = s.safety.inbox ++ [r] ∧ r.kind = 0x11) ∧ u.mem = s.mem ∧ u.threads = s.threads)

/-- HBM training sets its stack's status and, where it failed, the stack's bit of MODE_BOOT; the self-test ends with the scratchpads and
signal records zero and the pistes that failed it lost; neither ends BOOT while the other is due. When both tests are done, a failed
shared unit or Telemark complex leads BOOT to SAFE-STATE, and a failed HBM stack to FALLBACK with the factory defaults; READY is set
either way. (Drawn from R78, R79, R349, R372; the causes of log entry 23 are the model's reading.) -/
def Obligations.BootTestResults : Prop :=
  (
  ∀ (s : State) (k : BitVec 1) (ok : Bool) (repairs : BitVec 8) (code : BitVec 4) (fail : BitVec 6), s.live = true → s.modeNow = .boot →
    s.mode.trans = none → s.boot.selfDone = false →
    (k.toNat < Config.hbmStacks s.part → s.boot.trained.getLsbD k.toNat = false → Completes (.hbmTrainingDone k ok repairs code) s (fun u =>
      u.boot.trained.getLsbD k.toNat = true ∧
      u.reg (pHBMS k.toNat) 0x8000 = BitVec.ofNat 32 (1 + (if ok then 0 else 2 + code.toNat * 0x10000) + repairs.toNat * 0x10) ∧
      (ok = false → bit (u.reg pMODE 0x8004) (14 + k.toNat) = true) ∧ u.mem = s.mem ∧ u.modeNow = .boot)) ∧
    (s.boot.trained ≠ stacksMask s.part → Completes (.bootSelftestDone fail) s (fun u =>
      u.boot.selfDone = true ∧ u.modeNow = .boot ∧
      (fail = 0 → u.cells = [] ∧ u.dyn = [] ∧ ∀ c ∈ u.mem, spaceOf c.1 ≠ 1 ∧ spaceOf c.1 ≠ 2 ∧ spaceOf c.1 ≠ 7) ∧
      ∀ p, p < Config.pistes s.part → fail.getLsbD p = true → u.mode.lost.getLsbD p = true)))
  ∧ (
  ∀ (s : State) (fail : BitVec 6), s.live = true → s.modeNow = .boot → s.mode.trans = none → s.boot.selfDone = false →
    s.boot.trained = stacksMask s.part → s.safety.devTaken = false →
    (fail.getLsbD 4 = true ∨ fail.getLsbD 5 = true → Completes (.bootSelftestDone fail) s (fun u =>
      u.modeNow = .safeState ∧ u.mode.cause = 0x06 ∧ u.mode.ready = true)) ∧
    (fail = 0 → s.bootFails / 64 ≠ 0 → Completes (.bootSelftestDone fail) s (fun u =>
      u.modeNow = .fallback ∧ u.mode.cause = 0x06 ∧ u.mode.ready = true ∧ u.mode.cfgDefaults = true ∧ u.mode.slot = 3)))

/-- A candidate slot that passes checks 1 to 3 is streamed, one that passes checks 4 and 5 has its records applied, a staging copy that passes
its re-check too; a candidate that fails leaves its result in MODE_BOOT and the next candidate is tried. (Drawn from R76, R77, R89; log
entries 28 and 30 name the model's readings.) -/
def Obligations.SlotChecks : Prop :=
  ∀ (s : State) (slot next : Nat) (more : List Nat), s.canLoad = true → s.boot.selfDone = false → slot = 1 ∨ slot = 2 →
    let stage (u : State) (x : BootStage) : Prop := u.boot.stage = x ∧ u.mem = s.mem ∧ u.threads = s.threads ∧ u.modeNow = .boot
    let failed (u : State) (r : Nat) : Prop := stage u (.header next) ∧ u.boot.rest = more ∧
      fld (u.reg pMODE 0x8004) (4 * slot - 1) (4 * slot - 4) = r
    let crc := (s.validRec slot).crc
    let img := s.imageBytes slot 0 (s.validRec slot).len
    (s.boot.stage = .header slot →
      (s.headerResult (s.validRec slot) (s.imageBytes slot 0 256) = none → Completes .slotHeaderRead s (fun u => stage u (.stream slot))) ∧
      (∀ r, s.headerResult (s.validRec slot) (s.imageBytes slot 0 256) = some r → s.boot.rest = next :: more →
        Completes .slotHeaderRead s (fun u => failed u r))) ∧
    (s.boot.stage = .stream slot →
      (s.bodyResult crc img = none → Completes (.imageStreamEnd false) s (fun u =>
        stage u (.records 0) ∧ ∃ c, u.boot.staging = some c ∧ c.slot = slot ∧ c.bytes = img)) ∧
      (∀ r, s.bodyResult crc img = some r → s.boot.rest = next :: more →
        Completes (.imageStreamEnd false) s (fun u => failed u r)) ∧
      (s.boot.rest = next :: more → Completes (.imageStreamEnd true) s (fun u => failed u 9))) ∧
    (s.boot.stage = .restage → ∀ c, s.boot.staging = some c →
      (s.stagingOk c = true → Completes .stagingRecheck s (fun u => stage u (.records 0) ∧ u.boot.staging = some c)) ∧
      (s.stagingOk c = false → s.boot.rest = next :: more →
        Completes .stagingRecheck s (fun u => stage u (.header next) ∧ u.boot.staging = none)))

/-- The loader applies the next record of the image: WRITE and PAYLOAD write registers with the loader's rights, GOLDEN writes CFG_GOLDEN,
POLL waits until its register holds VALUE, END closes the list and locks LIFE. A POLL at the end of its limit fails its slot. (Drawn from
R83.) -/
def Obligations.RecordResults : Prop :=
  ∀ (s u : State) (i : Nat) (r : Record), s.nextRecord = some (i, r) →
    (r.type ≠ 15 → r.bad s.part = false →
      (r.type = 0 → r.mask = 0xFFFFFFFF → r.arg = 0 →
        busWrite .loader r.page r.off r.value (touch r.page s) = (u, some .ok) →
        exec .recordWrite s = .next { u with boot := { u.boot with stage := .records (i + 1) } }) ∧
      (r.type = 1 → r.mask = 0 → r.arg.toNat % 4 = 0 → r.off + r.arg.toNat ≤ 0x10000 →
        r.value.toNat + r.arg.toNat ≤ wordAt s.image 0x2C →
        loaderWrites r.page r.off ((rangeFrom 0 (r.arg.toNat / 4)).map
          (fun k => w32 (wordAt s.image (wordAt s.image 0x28 + r.value.toNat + 4 * k)))) (touch r.page s) = (u, true) →
        exec .recordPayload s = .next { u with boot := { u.boot with stage := .records (i + 1) } }) ∧
      (r.type = 2 → r.off = 0 → r.mask = 0 → r.arg = 0 →
        Completes .recordGolden s (fun v => v.boot.stage = .records (i + 1) ∧ v.reg r.page 0x64 = r.value ∧
          bit (v.reg r.page 0x14) 6 = false ∧ r.page ∈ v.boot.golden ∧ v.mem = s.mem)) ∧
      (r.type = 3 → r.arg.toNat ≤ 10000 →
        ((busRead .loader r.page r.off s).1 &&& r.mask = r.value → Completes .recordPoll s (fun v => v.boot.stage = .records (i + 1))) ∧
        ((busRead .loader r.page r.off s).1 &&& r.mask ≠ r.value → exec .recordPoll s = .next (busRead .loader r.page r.off s).2) ∧
        (s.rawRead r.page r.off &&& r.mask ≠ r.value → exec .pollTimeout s = .next (recordFail 10 s)))) ∧
    (r.type = 15 → r.last = true → fld r.w0 27 0 = 0 → r.value = 0 → r.mask = 0 → r.arg = 0 → Completes .recordEnd s (fun v =>
      v.boot.stage = .final ∧ bit (v.reg pLIFE 0x10) 2 = true ∧ v.mem = s.mem ∧ v.threads = s.threads))

/-- When the whole list is applied, no piste is lost, no fault of BOOT has been classed DEVICE and the image has named no GOLDEN page, a
target mode of the image other than SAFE-OPERATE is entered, and READY is set. (Drawn from R64, R76, R79.) -/
def Obligations.BootReadyEntersTarget : Prop :=
  ∀ (s : State) (m : Mode), s.canLoad = true → s.boot.selfDone = true → s.boot.stage = .final → s.boot.golden = [] →
    s.mode.lost = 0 → s.safety.devTaken = false → modeOf (wordAt s.image 0x1C) = some m →
    m = .configure ∨ m = .commission ∨ m = .operate →
    Completes .bootReady s (fun u => u.modeNow = m ∧ u.mode.prev = .boot ∧ u.mode.cause = 0x03 ∧ u.mode.ready = true ∧
      u.mode.cfgDefaults = s.mode.cfgDefaults ∧ u.reg pMODE 0x8008 = w32 (wordAt s.image 0x38))

/-- A request that Table Transitions lists for the present mode begins its transition and leaves the interface BUSY; one for the present mode
completes with OK; one not listed, and any request for DEGRADED, completes with STATE_REFUSED; a wrong KEY is BAD_ARG. (Drawn from
R64-R66, R71; the order of the checks is log entry 33, the model's reading.) -/
def Obligations.ModeRequests : Prop :=
  ∀ (s : State) (req : Requester), s.mayCommand req pMODE 0x8104 0x8108 = true → s.mode.trans = none →
    let asks (m : Mode) (i : Instr) : Prop :=
      (m ≠ s.modeNow → requestListed m s.modeNow = true → Completes i s (fun u =>
        u.mode.trans = some { target := m, cause := 0x02, req := some req } ∧ u.reg pMODE 0x8108 = 0x40000000 ∧
        u.modeNow = s.modeNow ∧ u.mem = s.mem ∧ u.threads = s.threads)) ∧
      (m = s.modeNow → Completes i s (fun u => u.doneWith pMODE 0x8108 .ok ∧ u.mode = s.mode ∧ u.mem = s.mem)) ∧
      (m ≠ s.modeNow → requestListed m s.modeNow = false → Completes i s (fun u =>
        u.doneWith pMODE 0x8108 .stateRefused ∧ u.mode = s.mode ∧ u.mem = s.mem))
    asks .configure (.reqConfigure req 0x5A17) ∧ asks .commission (.reqCommission req 0x5A17) ∧
    asks .operate (.reqOperate req 0x5A17) ∧ asks .safeState (.reqSafeState req 0x5A17) ∧
    asks .maintenance (.reqMaintenance req 0x5A17) ∧ asks .zeroize (.reqZeroize req 0x5A17) ∧
    Completes (.reqDegraded req 0x5A17) s (fun u => u.doneWith pMODE 0x8108 .stateRefused ∧ u.mode = s.mode ∧ u.mem = s.mem) ∧
    (∀ key, key ≠ 0x5A17 → Completes (.reqOperate req key) s (fun u => u.doneWith pMODE 0x8108 .badArg ∧ u.mode = s.mode))

/-- A request for SAFE-OPERATE begins its transition only where every condition holds; MODE_ENTRY_FAIL names those that fail, and the request
is then refused. A part without the safety units answers ABSENT. (Drawn from R68.) -/
def Obligations.SafeOperateRequest : Prop :=
  ∀ (s : State) (req : Requester), s.mayCommand req pMODE 0x8104 0x8108 = true → s.mode.trans = none → s.modeNow ≠ .safeOperate →
    (Config.hasSafe s.part = true → requestListed .safeOperate s.modeNow = true →
      (s.entryFail false = 0 → Completes (.reqSafeOperate req 0x5A17) s (fun u =>
        u.mode.trans = some { target := .safeOperate, cause := 0x02, req := some req } ∧ u.reg pMODE 0x8014 = 0 ∧
        u.reg pMODE 0x8108 = 0x40000000 ∧ u.mem = s.mem)) ∧
      (s.entryFail false ≠ 0 → Completes (.reqSafeOperate req 0x5A17) s (fun u =>
        u.reg pMODE 0x8014 = s.entryFail false ∧ u.doneWith pMODE 0x8108 .stateRefused ∧ u.mode = s.mode))) ∧
    (Config.hasSafe s.part = false → Completes (.reqSafeOperate req 0x5A17) s (fun u =>
      u.doneWith pMODE 0x8108 .absent ∧ u.mode = s.mode))

/-- WARM_RESTART and COLD_RESTART take the device to RESET as SYSRST_N and PORST_N would, with their own cause and the slot of MODE_REQ_ARG as
the trial; a warm one keeps the HBM. (Drawn from R71, R88.) -/
def Obligations.RestartRequests : Prop :=
  ∀ (s : State) (req : Requester), s.mayCommand req pMODE 0x8104 0x8108 = true → s.rfld pMODE 0x8100 1 0 ≠ 3 →
    s.inv → s.fabric.flash = none → s.life.op = none →
    Completes (.warmRestart req 0x5A17) s (fun u => u.modeNow = .reset ∧ u.mode.resetCause = 3 ∧
      u.boot.trialSlot = s.rfld pMODE 0x8100 1 0 ∧ u.boot.staging = s.boot.staging ∧
      ∀ a, a < 0x1000000000000 → u.byte a = s.byte a) ∧
    Completes (.coldRestart req 0x5A17) s (fun u => u.modeNow = .reset ∧ u.mode.resetCause = 2 ∧
      u.boot.trialSlot = s.rfld pMODE 0x8100 1 0 ∧ u.boot.staging = none ∧ ∀ a, a < 0x1000000000000 → u.byte a = 0)

/-- At its instant a transition changes the mode: MODE becomes the target, PREV_MODE the mode left, CAUSE the transition's, SS_LATCH is set by
SAFE-STATE, and the request that began it completes with OK. (Drawn from R64-R66, R70.) -/
def Obligations.TransitionInstant : Prop :=
  ∀ (s : State) (t : Transition), s.live = true → s.mode.trans = some t → s.mode.lossDue = 0 → t.target ≠ .off → t.target ≠ .reset →
    Completes .modeTransition s (fun u =>
      u.modeNow = t.target ∧ u.mode.prev = s.modeNow ∧ u.mode.cause = t.cause ∧ u.mode.trans = none ∧
      (t.target = .safeState → u.mode.ssLatch = true) ∧ (t.req.isSome = true → u.doneWith pMODE 0x8108 .ok) ∧
      u.mode.lost = s.mode.lost)

/-- A permitted write stores the register's writable bits and sets GOLDEN_WAIT where a configuration register changed; a refused one leaves
the register, is counted and sets REFUSED; the low half of a 64-bit register waits in the requester's stage for the high half, which
commits both. A read of a low half latches the high half for its requester, a read of TIME_NS or TIME_PPS_NS the whole time, a read of a
read-clear register clears it, and an SMBus read shows the dword at its address and moves on. (Drawn from R8, R40-R45, R50, R54, R424,
R532; the order of refusals is log entry 12, the model's reading.) -/
def Obligations.RegisterAccess : Prop :=
  (
  ∀ (s : State) (req : Requester) (page : Page) (off : Off) (v : Word) (k : PageKind) (d : RegDesc),
    reqOk s.part req = true → s.live = true → pageKind s.part page.toNat = some k → off.toNat % 4 = 0 → 0x100 ≤ off.toNat → d.acc = .rw →
    let p := page.toNat
    let o := off.toNat
    let stored := store p o (d.maskHalf false) v s
    (findReg k o = some (d, o, false) → d.wide = false → kindWrite k req p o v (d.maskHalf false) s = .ok stored →
      (s.mayWrite req p o = true → Completes (.registerWrite req page off v) s (fun u =>
        u.reg p o = v &&& d.maskHalf false ∧ u = { s with regs := u.regs } ∧
        (∀ key, key ≠ regKey p o → key ≠ regKey p 0x14 → u.regK key = s.regK key) ∧
        (isCfg o = true → u.reg p o ≠ s.reg p o → p ≠ pDEV → bit (u.reg p 0x14) 6 = true))) ∧
      (∀ st, firstStatus (judge s req k p o) = some st → st ≠ .stateRefused → (∀ t, req ≠ .core t) →
        Completes (.registerWrite req page off v) s (fun u =>
          u.reg p o = s.reg p o ∧ u.reg p 0x50 = satAdd (s.reg p 0x50) 1 ∧ u.reg p 0x54 = w32 (reqForm req + o) ∧
          fld (u.reg p 0x14) 15 12 = st.code ∧ bit (u.reg p 0x20) 3 = true ∧ u = { s with regs := u.regs, outs := u.outs }))) ∧
    (findReg k o = some (d, o, false) → d.wide = true → Completes (.reg64LowWrite req page off v) s (fun u =>
      sfind u.fabric.stage (reqNum req) = some (regKey p o, v) ∧ u = { s with fabric := { s.fabric with stage := u.fabric.stage } })) ∧
    (∀ lo low, findReg k o = some (d, lo, true) → d.wide = true → s.mayWrite req p lo = true → o = lo + 4 →
      sfind s.fabric.stage (reqNum req) = some (regKey p lo, low) →
      let w := cat32 (v &&& d.maskHalf true) (low &&& d.maskHalf false)
      kindWrite64 k req p lo w (unstage (reqNum req) s) = .ok (setReg64 p lo w (unstage (reqNum req) s)) →
      Completes (.reg64HighWrite req page off v) s (fun u =>
        u.reg64 p lo = w ∧ sfind u.fabric.stage (reqNum req) = none ∧
        (∀ key, key ≠ regKey p lo → key ≠ regKey p (lo + 4) → key ≠ regKey p 0x14 → u.regK key = s.regK key) ∧
        u = { s with regs := u.regs, fabric := { s.fabric with stage := u.fabric.stage } })))
  ∧ (
  ∀ (s : State) (req : Requester) (page : Page) (off : Off) (k : PageKind) (d : RegDesc),
    reqOk s.part req = true → s.live = true →
    let p := page.toNat
    let o := off.toNat
    let n := reqNum req
    let result (u : State) (v : Word) : Prop := sfind u.fabric.result n = some v
    (pageKind s.part p = some k → p ≠ pTIME → p ≠ pDBG → (∀ j, k ≠ .sige j) → o % 4 = 0 → findReg k o = some (d, o, false) →
      (d.wide = true → d.acc ≠ .rc → Completes (.reg64LowRead req page off) s (fun u =>
        result u (s.rawRead p o) ∧ sfind u.fabric.latch n = some (regKey p o, s.rawRead p (o + 4)) ∧ u = { s with fabric := u.fabric } ∧
        (findReg k (o + 4) = some (d, o, true) → (busRead req p (o + 4) u).1 = s.rawRead p (o + 4)))) ∧
      (d.wide = false → d.acc = .rc → Completes (.readClear req page off) s (fun u =>
        result u (s.rawRead p o) ∧ u.reg p o = 0 ∧ (∀ key, key ≠ regKey p o → u.regK key = s.regK key) ∧
        u = { s with regs := u.regs, fabric := { s.fabric with result := u.fabric.result } }))) ∧
    Completes (.timeNsRead req false) s (fun u =>
      result u s.time.ns ∧ (busRead req pTIME 0x8004 u).1 = w32 s.time.sec.toNat ∧
      (busRead req pTIME 0x8008 u).1 = w32 (s.time.sec.toNat / 0x100000000) ∧ u = { s with fabric := u.fabric }) ∧
    Completes (.timeNsRead req true) s (fun u =>
      result u (s.reg pTIME 0x8020) ∧ (busRead req pTIME 0x8024 u).1 = s.reg pTIME 0x8024 ∧
      (busRead req pTIME 0x8028 u).1 = s.reg pTIME 0x8028 ∧ u = { s with fabric := u.fabric }) ∧
    (∀ b0 b1 b2 : Byte, exec (.smbusBlockWrite b0 b1 b2) s = .next { s with smbus := b2 ++ b1 ++ b0 }) ∧
    (fld s.smbus 23 14 ≠ pDBG → Completes .smbusBlockRead s (fun u =>
      u.outs = .smbus (s.rawRead (fld s.smbus 23 14) (4 * fld s.smbus 13 0)) :: s.outs ∧
      fld u.smbus 13 0 = (fld s.smbus 13 0 + 1) % 16384 ∧ fld u.smbus 23 14 = fld s.smbus 23 14 ∧
      u = { s with outs := u.outs, smbus := u.smbus })))

/-- Soft reset returns the configuration set to its reset values and sets its cause when done; ERR_CLR empties the captures; INT_STATUS clears
by ones; INT_FORCE sets causes and marks its safety records FORCED; memory errors are counted, captured and delivered. (Drawn from R48,
R49, R53-R60.) -/
def Obligations.HeaderCommands : Prop :=
  ∀ (s : State) (req : Requester) (page : Page) (k : PageKind) (v : Word), pageKind s.part page.toNat = some k → reqOk s.part req = true →
    let p := page.toNat
    let others (u : State) (except : List Nat) : Prop := ∀ key, key ∉ except.map (regKey p) → u.regK key = s.regK key
    (s.mayWrite req p 0x10 = true → (k = .bpm → s.modeNow = .configure) → (∀ i, k = .inst i → bit (s.reg p 0x10) 0 = false) →
      Completes (.softReset req page) s (fun u => p ∈ u.fabric.resetting ∧
        ∀ o, o < 0x10000 → isCfg o = true → u.reg p o = regReset s.part (regKey p o))) ∧
    (s.live = true → p ∈ s.fabric.resetting → Completes (.softResetDone page) s (fun u =>
      p ∉ u.fabric.resetting ∧ bit (u.reg p 0x20) 5 = true ∧ others u [0x14, 0x20] ∧ u.mem = s.mem ∧ u.threads = s.threads)) ∧
    (s.mayWrite req p 0x10 = true → linkPage k = false → (∀ i, k ≠ .inst i) → Completes (.errClr req page) s (fun u =>
      u.reg p 0x40 = 0 ∧ u.reg p 0x44 = 0 ∧ u.reg p 0x48 = 0 ∧ u.reg p 0x4C = 0 ∧ u.reg p 0x10 = s.reg p 0x10 ∧
      others u [0x10, 0x40, 0x44, 0x48, 0x4C] ∧ u = { s with regs := u.regs })) ∧
    (s.mayWrite req p 0x20 = true → (k = .iov → s.host.med = []) → Completes (.intStatusClear req page v) s (fun u =>
      u.reg p 0x20 = s.reg p 0x20 &&& ~~~v ∧ others u [0x20] ∧ u = { s with regs := u.regs, outs := u.outs })) ∧
    (s.mayWrite req p 0x28 = true → Completes (.intForce req page v) s (fun u =>
      u.reg p 0x20 = s.reg p 0x20 ||| (v &&& 0xFFFFFF3F) ∧ others u [0x20] ∧
      (∃ rs, u.safety.inbox = s.safety.inbox ++ rs ∧ (∀ r ∈ rs, r.forced = true) ∧ rs.length = b2n (bit v 1) + b2n (bit v 2)) ∧
      u = { s with regs := u.regs, outs := u.outs, safety := { s.safety with inbox := u.safety.inbox } })) ∧
    (s.live = true → ∀ (source : BitVec 8) (addr : Word) (synd : BitVec 16) (ue : Bool), Completes (.memoryError page source addr synd ue) s (fun u =>
      u.reg p (if ue then 0x44 else 0x40) = satAdd (s.reg p (if ue then 0x44 else 0x40)) 1 ∧
      (bit (s.reg p 0x48) 31 = false → u.reg p 0x4C = addr ∧ u.reg p 0x48 = w32 (0x80000000 + b2n ue * 0x40000000 + source.toNat * 0x10000 + synd.toNat)) ∧
      (bit (s.reg p 0x48) 31 = true → bit (s.reg p 0x48) 30 = true → u.reg p 0x4C = s.reg p 0x4C ∧ u.reg p 0x48 = s.reg p 0x48) ∧
      bit (u.reg p 0x20) (if ue then 1 else 0) = true ∧
      (ue = true → ∃ r, u.safety.inbox = s.safety.inbox ++ [r] ∧ r.kind = 1 ∧ r.page = page) ∧
      (ue = false → u.safety = s.safety) ∧ u.mem = s.mem ∧ u.threads = s.threads)) ∧
    (s.mayWrite req p 0x64 = true → Completes (.cfgGoldenWrite req page v) s (fun u =>
      u.reg p 0x64 = v ∧ bit (u.reg p 0x14) 6 = false ∧ p ∈ u.fabric.awaitPass ∧ others u [0x14, 0x64] ∧
      u = { s with regs := u.regs, fabric := { s.fabric with awaitPass := u.fabric.awaitPass } })) ∧
    (s.live = true → Completes (.cfgCheckPass page) s (fun u =>
      u.cfgCheck p = s.cfgCrc p ∧ p ∉ u.fabric.awaitPass ∧ others u [0x60] ∧
      u = { s with regs := u.regs, fabric := { s.fabric with awaitPass := u.fabric.awaitPass } })) ∧
    (s.live = true → p ∉ s.fabric.awaitPass → bit (s.reg p 0x14) 6 = false → s.tableDiffers p = false →
      Completes .cfgCompare s (fun u => (bit (u.reg p 0x14) 7 = true ↔ s.cfgCheck p ≠ s.cfgGolden p) ∧ u.mem = s.mem ∧ u.threads = s.threads)) ∧
    (s.live = true → graceMode s.modeNow = true → bit (s.reg p 0x14) 6 = true → Completes (.goldenGraceExpiry page) s (fun u =>
      bit (u.reg p 0x14) 7 = true ∧ bit (u.reg p 0x20) 2 = true ∧ others u [0x14, 0x20] ∧
      (bit (s.reg p 0x14) 7 = false → ∃ r, u.safety.inbox = s.safety.inbox ++ [r] ∧ r.kind = 2 ∧ r.page = page)))

/-- An accepted flash command runs on, BUSY, until the flash has done it; its end reads, programs, erases or (in)validates, changes no other
byte of the flash and reports DONE; without FLASH_WE the changing commands complete with NOT_OWNER. That programming clears bits and sets
none is the model's (PRESUMED, log entry 60). APPEND writes a record of its KIND and data at LOG_WR and moves it on; LOG_RD moves up to
LOG_WR; HIST_READ shows a snapshot of the ring; a Bunting sample with nothing selected sends one frame that carries its sequence number
(the model's choice, log entry 61). (Drawn from R61, R84-R86, R500-R507.) -/
def Obligations.FlashAndLogCommands : Prop :=
  (
  ∀ (s : State) (req : Requester) (slot : BitVec 2),
    (s.mayCommand req pMODE 0x8208 0x820C = true → s.modeNow ≠ .boot → s.modeNow ≠ .zeroize →
      let accepted (code sl : Nat) (i : Instr) : Prop :=
        (code = 1 ∨ bit (s.reg pMODE 0x100) 8 = true) → s.flashArgsOk code sl = true → Completes i s (fun u =>
          u.fabric.flash = some { code := code, slot := sl, addr := s.flashAddr, len := s.flashLen } ∧
          u.reg pMODE 0x820C = 0x40000000 ∧ (∀ key, key ≠ regKey pMODE 0x820C → u.regK key = s.regK key) ∧
          u = { s with regs := u.regs, fabric := { s.fabric with flash := u.fabric.flash } })
      let closed (i : Instr) : Prop := bit (s.reg pMODE 0x100) 8 = false → Completes i s (fun u =>
        u.doneWith pMODE 0x820C .notOwner ∧ u = { s with regs := u.regs, outs := u.outs })
      accepted 1 0 (.flashRead req) ∧ accepted 2 0 (.flashProgram req) ∧ accepted 3 0 (.flashErase req) ∧
      accepted 4 slot.toNat (.validate req slot) ∧ accepted 5 slot.toNat (.invalidate req slot) ∧
      closed (.flashProgram req) ∧ closed (.flashErase req) ∧ closed (.validate req slot) ∧ closed (.invalidate req slot)) ∧
    (∀ f : FlashOp, s.live = true → s.fabric.flash = some f →
      let ends (u : State) : Prop := u.fabric.flash = none ∧ u.doneWith pMODE 0x820C .ok ∧ u.modeNow = s.modeNow ∧ u.threads = s.threads
      let kept (u : State) (a n : Nat) : Prop := ∀ x, (x < flashA a ∨ flashA a + n ≤ x) → u.byte x = s.byte x
      (f.code = 1 → f.len % 4 = 0 → f.len ≤ 4096 → Completes (.flashComplete true) s (fun u =>
        ends u ∧ u.flashBuf f.len = s.bytes (flashA f.addr) f.len ∧ u.mem = s.mem)) ∧
      (f.code = 2 → f.len ≤ 4096 → Completes (.flashComplete true) s (fun u => ends u ∧ kept u f.addr f.len ∧
        ∀ i, i < f.len → u.byte (flashA (f.addr + i)) = s.byte (flashA (f.addr + i)) &&& (s.flashBuf f.len).getD i 0)) ∧
      (f.code = 3 → f.addr < 0x8000000 → s.inv → Completes (.flashComplete true) s (fun u => ends u ∧ kept u (f.addr / 4096 * 4096) 4096 ∧
        ∀ i, i < 4096 → u.byte (flashA (f.addr / 4096 * 4096 + i)) = 0xFF)) ∧
      (f.code = 4 → s.validate f.slot = none → Completes (.flashComplete true) s (fun u =>
        u.fabric.flash = none ∧ u.doneWith pMODE 0x820C .badArg ∧ u.mem = s.mem)) ∧
      (f.code = 4 → ∀ b, s.validate f.slot = some b → Completes (.flashComplete true) s (fun u => ends u ∧ kept u (slotBase f.slot) b.length ∧
        ∀ i, i < b.length → u.byte (flashA (slotBase f.slot + i)) = s.byte (flashA (slotBase f.slot + i)) &&& b.getD i 0)) ∧
      (f.code = 5 → Completes (.flashComplete true) s (fun u => ends u ∧ kept u (slotBase f.slot + 4) 4 ∧
        ∀ i, i < 4 → u.byte (flashA (slotBase f.slot + 4 + i)) = 0)) ∧
      Completes (.flashComplete false) s (fun u =>
        u.fabric.flash = none ∧ (u.doneWith pMODE 0x820C .timeout ∨ u.doneWith pMODE 0x820C .ecc))))
  ∧ (
  ∀ (s : State) (req : Requester) (v : Word),
    (s.mayCommand req pLOG 0x8110 0x8114 = true → s.modeNow ≠ .boot → s.modeNow ≠ .zeroize →
      (0x80 ≤ s.rfld pLOG 0x8100 7 0 → Completes (.append req) s (fun u =>
        u.reg pLOG 0x8000 = s.reg pLOG 0x8000 + 1 ∧ u.doneWith pLOG 0x8114 .ok ∧
        (∃ r, u.log = sset s.log ((s.reg pLOG 0x8000).toNat % 4096) r ∧ r.kind.toNat = s.rfld pLOG 0x8100 7 0 ∧ r.mode = s.modeNow ∧
          r.d0 = s.reg pLOG 0x8104 ∧ r.d1 = s.reg pLOG 0x8108 ∧ r.d2 = s.reg pLOG 0x810C ∧ r.seq = s.reg pLOG 0x8000 ∧ r.ns = s.time.ns) ∧
        u = { s with regs := u.regs, outs := u.outs, log := u.log })) ∧
      (s.rfld pLOG 0x8100 7 0 < 0x80 → Completes (.append req) s (fun u => u.doneWith pLOG 0x8114 .badArg ∧ u.log = s.log))) ∧
    (s.mayWrite req pLOG 0x8004 = true → (s.reg pLOG 0x8000 - v).toNat < 0x80000000 → Completes (.logRdWrite req v) s (fun u =>
      u.reg pLOG 0x8004 = v ∧ (∀ key, key ≠ regKey pLOG 0x8004 → u.regK key = s.regK key) ∧ u = { s with regs := u.regs })) ∧
    (s.mayCommand req pLOG 0x8124 0x8128 = true →
      let n := s.reg pLOG 0x8120
      let back := (s.reg pLOG 0x8020 - n).toNat
      let slots := 2 ^ s.rfld pLOG 0x400 20 16
      (back = 0 → Completes (.histRead req) s (fun u => u.doneWith pLOG 0x8128 .absent ∧ u.mem = s.mem)) ∧
      (∀ a, 0 < back → back ≤ slots → back ≤ (s.reg pLOG 0x8020).toNat → s.poison = [] →
        hbmOff s.part ((s.reg64 pLOG 0x408).toNat + n.toNat % slots * s.histSize) s.histSize = some a →
        Completes (.histRead req) s (fun u => u.doneWith pLOG 0x8128 .ok ∧ u.mem = s.mem ∧
          ∀ i, 4 * i < min s.histSize 12288 → u.reg pLOG (0xD000 + 4 * i) = s.word (hbmA (a + 4 * i))))) ∧
    (∀ cs w, s.buntOn = true → (∀ j, j < 128 → s.rfld pLOG (0x200 + 4 * j) 31 24 = 0) →
      requestCells 9 1344 (keyOf s.time.ns) 1 [] (bumpWrap pLOG 0x8010 s) = (some cs, w) → Completes .buntingSample s (fun u =>
        (∃ c, u.tmInbox = s.tmInbox ++ [c] ∧ c.cells = cs ∧ c.ts = s.reg pLOG 0x8010 + 1 ∧ c.newFcs = true ∧
          c.egress.toNat = s.rfld pLOG 0x100 26 16 ∧ c.queue.toNat = s.rfld pLOG 0x100 30 28) ∧ u.reg pLOG 0x8010 = s.reg pLOG 0x8010 + 1 ∧ u.threads = s.threads ∧ u.mode = s.mode)))

/-- LINK_UP and LINK_DOWN set the port's state, AN_FAIL leaves it NEGOTIATING and counted, and a lane's, group's or management port's
configuration takes its legal value while its ports start anew. A round sends the marker and 80 slots; a good marker's fields are taken,
and four in a row lock the lane; a bad one ends the row of good ones; START and data blocks of a sub-port that is UP gather its frame.
(Drawn from R93-R104, R110, R111; the byte order within a block is PRESUMED, log entry 41, and log entry 44 names further readings.) -/
def Obligations.PortCommands : Prop :=
  (
  ∀ (s : State) (req : Requester) (v : Word), s.live = true → (∀ e ∈ s.pkts, ∀ k, e.2 = some k → k.tail = true) →
    (∀ port : Port, s.linkRuns port.toNat = true → s.isFmxPort port.toNat = false →
      Completes (.linkUp port) s (fun u => (u.port port.toNat).state = 4 ∧ (∀ q, q ≠ port.toNat → u.port q = s.port q) ∧
        u = { s with ports := u.ports }) ∧
      ∀ st ∈ [1, 2, 3, 5, 6], Completes (.linkDown port st) s (fun u =>
        (u.port port.toNat).state = st ∧ (s.portUp port.toNat = true → (u.port port.toNat).tx = none) ∧ u.threads = s.threads)) ∧
    (∀ (lane : Lane) (p : Nat), s.lanePort lane.toNat = some p → s.linkRuns p = true → s.laneAn lane.toNat = true →
      Completes (.anFail lane) s (fun u => (u.port p).state = 2 ∧
        (lane.toNat < 128 → u.reg (pFLG (lane.toNat / 8)) (0x8014 + lane.toNat % 8 * 0x40) =
          satAdd (s.reg (pFLG (lane.toNat / 8)) (0x8014 + lane.toNat % 8 * 0x40)) 1))) ∧
    (∀ lane : BitVec 7,
      let pg := pFLG (lane.toNat / 8)
      let o := 0x100 + lane.toNat % 8 * 0x40
      (s.mayWrite req pg o = true → fld v 2 0 < 4 → fld v 5 4 < 3 → ¬ (fld v 5 4 = 2 ∧ fld v 2 0 = 1) →
        (fld v 2 0 = 3 → bit v 8 = false ∧ bit v 9 = false ∧ s.rfld pg (o + 8) 13 0 ≤ 2048) → fld v 13 12 ≠ 3 →
        Completes (.flLaneCfgWrite req lane v) s (fun u => u.reg pg o = v &&& 0x3337 ∧
          ((v ^^^ s.reg pg o) &&& 0x337 ≠ 0 → ∀ k, k < 8 → (u.port (lane.toNat * 8 + k)).state = startState (bit v 8) (bit v 9)) ∧
          ((v ^^^ s.reg pg o) &&& 0x337 = 0 → u = { s with regs := u.regs }))) ∧
      (s.mayWrite req pg (o + 4) = true → Completes (.flFmxCfgWrite req lane v) s (fun u => u.reg pg (o + 4) = v &&& 0xFFFF))) ∧
    (∀ lane : BitVec 5, s.mayWrite req (pTRG (lane.toNat / 4)) (0x100 + lane.toNat % 4 * 0x40) = true → fld v 13 12 ≠ 3 →
      Completes (.trLaneCfgWrite req lane v) s (fun u => u.reg (pTRG (lane.toNat / 4)) (0x100 + lane.toNat % 4 * 0x40) = v &&& 0x3301)) ∧
    (∀ group : BitVec 3, s.mayWrite req (pTRG group.toNat) 0x200 = true → (bit v 2 = true → fld v 1 0 = 0) →
      Completes (.trGroupCfgWrite req group v) s (fun u => u.reg (pTRG group.toNat) 0x200 = v &&& 7)) ∧
    (s.mayWrite req pMGP 0x100 = true → fld v 1 0 < Config.pistes s.part → fld v 3 2 < Config.pistes s.part →
      Completes (.mgpCfgWrite req v) s (fun u => u.reg pMGP 0x100 = v &&& 0x3030F)))
  ∧ (
  ∀ (s : State) (lane : BitVec 7) (block : W64), s.live = true → s.fmxRuns lane.toNat = true →
    (∀ e ∈ s.pkts, ∀ k, e.2 = some k → k.tail = true) →
    let l := lane.toNat
    let b := leBytes 8 block.toNat
    let x := s.fmxLane l
    Completes (.fmxRoundTx lane) s (fun u =>
      (u.fmxLane l).ownRound = x.ownRound + 1 ∧
      ∃ slots : List Out, slots.length = 80 ∧ u.outs = slots ++ .block lane 0 2 (blockOf (s.marker l)) :: s.outs) ∧
    (b.headD 0 = 0x2D → crc8 (b.take 7) = (b.getD 7 0).toNat → Completes (.fmxMarkerRx lane block) s (fun u =>
      (u.fmxLane l).hold = b.getD 2 0 ∧ (u.fmxLane l).link = b.getD 3 0 ∧ (u.fmxLane l).rate = b.getD 4 0 ∧
      (u.fmxLane l).lastRound = some (b.getD 1 0) ∧ (u.fmxLane l).bad = 0 ∧ (u.fmxLane l).good = min 4 (x.good + 1) ∧
      (u.fmxLane l).lock = (x.lock || decide (4 ≤ x.good + 1)))) ∧
    (b.headD 0 ≠ 0x2D → Completes (.fmxMarkerRx lane block) s (fun u =>
      (u.fmxLane l).good = 0 ∧ ((u.fmxLane l).lock = true ↔ x.lock = true ∧ min 3 (x.bad + 1) < 3) ∧
      u.reg (pFLG (l / 8)) (0x8008 + l % 8 * 0x40) = satAdd (s.reg (pFLG (l / 8)) (0x8008 + l % 8 * 0x40)) 1)) ∧
    (∀ sub : BitVec 3,
      let p := l * 8 + sub.toNat
      s.portUp p = true →
      (b.headD 0 = 0x78 → (s.port p).rx = none → Completes (.fmxSlotBlockRx lane sub 2 block) s (fun u =>
        (u.port p).rx = some (b.drop 1) ∧ (∀ q, q ≠ p → u.port q = s.port q) ∧ u = { s with ports := u.ports })) ∧
      (∀ f, (s.port p).rx = some f → Completes (.fmxSlotBlockRx lane sub 1 block) s (fun u =>
        (u.port p).rx = some (f ++ b) ∧ (∀ q, q ≠ p → u.port q = s.port q) ∧ u = { s with ports := u.ports }))))

/-- A frame that arrives takes its cells and becomes a packet with its time of arrival, a runt is only counted; the check counts a good
frame's bytes and an aborted one; the parser leaves its result, and a Lift packet enters it anew. (Drawn from R97, R114-R116, R124, R147,
R336, R552; log entries 46 to 48 name the model's readings.) -/
def Obligations.FrameCommands : Prop :=
  ∀ s : State, s.live = true →
    (∀ (port : Port) (data : Bytes), isLine port.toNat = true → s.portUp port.toNat = true → s.noTraffic = false →
      let p := port.toNat
      (data.length < 64 → Completes (.frameArrival port data) s (fun u =>
        u.reg (portPage p) (statBase p + 0x18) = satAdd (s.reg (portPage p) (statBase p + 0x18)) 1 ∧ u = { s with regs := u.regs })) ∧
      (∀ cells w, 64 ≤ data.length → data.length ≤ s.maxFrame p →
        requestCells (2 * s.portPiste p) p (keyOf (s.stamp p)) (ceilDiv data.length 256) [] s = (some cells, w) →
        Completes (.frameArrival port data) s (fun u => u.nextPkt = s.nextPkt + 1 ∧
          (∃ k, u.pkt s.nextPkt = some k ∧ k.st = .arrived ∧ k.port = port ∧ k.cells = cells ∧ k.len = data.length ∧ k.tail = false ∧
            k.ts = s.stamp p ∧ k.src = BitVec.ofNat 2 (s.portPiste p) ∧ (k.fail = none ↔ fcsGood data = true)) ∧
          (∀ c, cells = [c] → s.inv → u.bytes (cellA c) data.length = data) ∧
          u.regs = s.regs ∧ u.threads = s.threads ∧ ∀ q, q ≠ s.nextPkt → u.pkt q = s.pkt q))) ∧
    (∀ (p : PktId) (k : Packet), s.pkt p = some k → k.tail = false → k.st ≠ .gone → isLine k.port.toNat = true →
      let pg := portPage k.port.toNat
      let b := statBase k.port.toNat
      (k.fail = none → Completes (.fcsCheck p false) s (fun u =>
        u.pkt p = some { k with tail := true, lateLen := decide (k.len - 4 < k.plEnd) } ∧
        u.reg64 pg b = s.reg64 pg b + w64 k.len ∧ (u.reg64 pg (b + 8)).toNat = ((s.reg64 pg (b + 8)).toNat + 1) % 0x1000000000000 ∧
        u = { s with regs := u.regs, pkts := u.pkts })) ∧
      Completes (.fcsCheck p true) s (fun u =>
        (∃ k', u.pkt p = some k' ∧ k'.tail = true ∧ k'.fail = some .abort) ∧ u.reg pg (b + 0x38) = satAdd (s.reg pg (b + 0x38)) 1 ∧
        u = { s with regs := u.regs, pkts := u.pkts })) ∧
    (∀ (p : PktId) (k : Packet), s.pkt p = some k → k.st = .arrived → s.lost k.src.toNat = false → s.noTraffic = false →
      k.port.toNat < 1088 → s.poisoned (cellA (k.cells.headD 0)) 128 = false → Completes (.parse p) s (fun u =>
        (∃ k', u.pkt p = some k' ∧ k' = { k with st := .parsed, parse := k'.parse, plEnd := k'.plEnd } ∧ k'.parse.length = 64 ∧
          leNat (slice k'.parse 36 4) = s.startType k + k.source * 256 + k.liftPasses.toNat * 4096) ∧
        u.reg64 pPARSE (0x8000 + k.src.toNat * 0x40) = s.reg64 pPARSE (0x8000 + k.src.toNat * 0x40) + 1 ∧
        u = { s with regs := u.regs, pkts := u.pkts })) ∧
    (∀ (piste : BitVec 2) (q : PktId) (r : List PktId) (k : Packet), s.pisteUp piste.toNat = true → (s.piste piste.toNat).liftQ = q :: r →
      s.pkt q = some k → s.bankExpired k = false → s.noTraffic = false → Completes (.liftAdmit piste) s (fun u =>
        (u.piste piste.toNat).liftQ = r ∧ u.pkt q = some { k with st := .arrived, src := piste, liftPasses := k.liftPasses + 1 } ∧
        u.mem = s.mem ∧ u.threads = s.threads))

/-- The classifier's action, of the matching rule or of CLASS_MISS, drops the packet, copies it to a processor, or offers it to the piste of
its indirection entry with its class, order and kind; a rule that matched counts its hit. (Drawn from R127-R131, R137, R138, R144-R146.)
The rule commands write, read and invalidate the entry at RULE_INDEX, flip the banks and clear hits; the exact-match commands act on the
entry of EM_KEY; indirection entries are written and checked. (Drawn from R132-R136, R139, R141-R143, R146, R149-R151.) -/
def Obligations.Classification : Prop :=
  (
  ∀ (s : State) (p : PktId) (k : Packet) (a : W64), s.live = true → s.pkt p = some k → k.st = .parsed → k.liftType = none →
    s.lost k.src.toNat = false → s.nonSafetyOnly = false → parseStatus k.parse = 0 → bit a 41 = false → actMirror a = 0 →
    k.inflight = false →
    let prof := s.profileOf k
    let ws := s.keyWords k prof
    let found := s.lookupRule s.cls.activeBank prof (BitVec.ofNat 640 (joinWords ws))
    (found = none ∧ a = s.reg64 pCLS 0x108 ∨ ∃ i r, found = some (i, r) ∧ a = r.action) →
    let counted (u : State) : Prop := ∀ i r, found = some (i, r) → (u.rule i).hits = r.hits + 1
    (actPrimary a = 0 → Completes (.classify p) s (fun u => counted u ∧
      (∃ k', u.pkt p = some k' ∧ k'.st = .gone) ∧ u.tmInbox = s.tmInbox ∧ u.mem = s.mem ∧ u.threads = s.threads)) ∧
    (actPrimary a = 2 → Completes (.classify p) s (fun u => counted u ∧ (∃ k', u.pkt p = some k' ∧ k'.st = .gone) ∧
      ∃ c, u.tmInbox = s.tmInbox ++ [c] ∧ c.cells = k.cells ∧ c.egress.toNat = actEgress a ∧ c.queue.toNat = actPrio a)) ∧
    (∀ e, e = s.indEntry (fld a 47 42) ((s.spreadHash prof ws).toNat % 512) →
      actPrimary a = 1 → bit e 31 = true → s.lost (fld e 9 8) = false → Completes (.classify p) s (fun u => counted u ∧
        (∃ k', u.pkt p = some k' ∧ k'.st = .offered ∧ k'.tgt.toNat = fld e 9 8 ∧ k'.kind.toNat = fld e 2 0 ∧ k'.cls.toNat = fld a 13 6 ∧
          k'.order.toNat = fld a 29 14 ∧ k'.prio.toNat = actPrio a ∧ k'.gen = s.cls.activeBank ∧ k'.inflight = true) ∧
        (u.piste (fld e 9 8)).offers = (s.piste (fld e 9 8)).offers ++ [p] ∧ u.tmInbox = s.tmInbox ∧ u.mem = s.mem)))
  ∧ (
  ∀ (s : State) (req : Requester), clsMode s = false →
    let i := s.ruleIndex
    let ruled (u : State) : Prop := u.doneWith pCLS 0x8108 .ok ∧ (∀ j, j ≠ i → u.rule j = s.rule j) ∧
      u = { s with regs := u.regs, outs := u.outs, cls := u.cls }
    (s.mayCommand req pCLS 0x8104 0x8108 = true → s.locked pCLS = false →
      (s.bankState (s.bankOf i) ≠ .draining →
        (actBad (s.reg64 pCLS 0x8300) = false → Completes (.ruleWrite req) s (fun u => ruled u ∧ u.rule i = s.stagedRule)) ∧
        (actBad (s.reg64 pCLS 0x8300) = true → Completes (.ruleWrite req) s (fun u => u.doneWith pCLS 0x8108 .badArg ∧ u.cls = s.cls)) ∧
        Completes (.ruleInvalidate req) s (fun u => ruled u ∧ u.rule i = { s.rule i with valid := false, hits := 0 }) ∧
        Completes (.clearHits req) s (fun u => ruled u ∧ u.rule i = { s.rule i with hits := 0 })) ∧
      Completes (.ruleRead req) s (fun u => ruled u ∧ u.cls = s.cls ∧ u.reg64 pCLS 0x8300 = (s.rule i).action ∧
        u.reg pCLS 0x8308 = w32 (b2n (s.rule i).valid * 0x80000000 + (s.rule i).profile.toNat) ∧
        u.reg64 pCLS 0x8310 = (s.rule i).hits.setWidth 64) ∧
      (s.genMode = true → s.bankState (!s.cls.activeBank) = .idle → Completes (.flip req) s (fun u =>
        u.doneWith pCLS 0x8108 .ok ∧ u.cls.activeBank = !s.cls.activeBank ∧ u.bankState u.cls.activeBank = .active ∧
        (u.bankState s.cls.activeBank = .draining ∨ u.bankState s.cls.activeBank = .idle) ∧ u.cls.rules = s.cls.rules))) ∧
    (∀ v : Word, s.mayWrite req pCLS 0x100 = true → bit v 0 = s.genMode → Completes (.classCfgWrite req v) s (fun u =>
      u.reg pCLS 0x100 = v &&& 0x3F01 ∧ bit (u.reg pCLS 0x14) 16 = false ∧ u = { s with regs := u.regs })) ∧
    (s.live = true → (∀ index : BitVec 16,
        Completes (.ruleScrub index true) s (fun u => (u.rule index.toNat).valid = false ∧ bit (u.reg pCLS 0x14) 16 = true) ∧
        Completes (.ruleScrub index false) s (fun u => u.cls = s.cls ∧ u.reg pCLS 0x40 = satAdd (s.reg pCLS 0x40) 1)) ∧
      (s.cls.bank0 = .draining → s.cls.inflight0 ≠ 0 → exec (.genDrainTimeout 0) s = .next { s with cls := { s.cls with bank0 := .expired } }) ∧
      (s.cls.bank1 = .draining → s.cls.inflight1 ≠ 0 → exec (.genDrainTimeout 1) s = .next { s with cls := { s.cls with bank1 := .expired } }) ∧
      Completes .indCheckPass s (fun u => u = { s with regs := u.regs } ∧ (∀ key, key ≠ regKey pHASH 0x8040 → u.regK key = s.regK key) ∧
        u.reg pHASH 0x8040 = crc32c (wordsBytes ((rangeFrom 0 32768).map (fun i => s.indEntry (i / 512) (i % 512)))))) ∧
    (s.mayCommand req pEM 0x8104 0x8108 = true →
      let flow := s.rfld pEM 0x8218 19 0
      let changed (u : State) (j : Nat) (e : EmEntry) : Prop := u.doneWith pEM 0x8108 .ok ∧ u.emSlot j = e ∧
        (∀ n, n ≠ j → u.emSlot n = s.emSlot n) ∧ u = { s with regs := u.regs, outs := u.outs, cls := u.cls }
      (∀ j, flow < Config.flows s.part → s.emFind s.emKey s.emProf = none → s.emFree (emBuckets s.emKey s.emProf).1 = some j →
        Completes (.emInsert req) s (fun u => changed u j
          { valid := true, profile := BitVec.ofNat 6 s.emProf, key := BitVec.ofNat 160 (joinWords s.emKey)
            flow := BitVec.ofNat 20 flow, quarantine := s.hbm.quarantined.contains flow })) ∧
      (∀ j, s.emFind s.emKey s.emProf = some j →
        Completes (.emDelete req) s (fun u => changed u j emNone) ∧
        Completes (.emFind req) s (fun u => u.doneWith pEM 0x8108 .ok ∧ u.cls = s.cls ∧
          u.reg pEM 0x8218 = w32 (0x80000000 + b2n (s.emSlot j).quarantine * 0x40000000 + (s.emSlot j).flow.toNat)) ∧
        Completes (.emQuarantine req) s (fun u => changed u j { s.emSlot j with quarantine := true } ∧
          u.reg pEM 0x8008 = satAdd (s.reg pEM 0x8008) 1) ∧
        Completes (.emRelease req) s (fun u => changed u j { s.emSlot j with quarantine := false })) ∧
      (s.emFind s.emKey s.emProf = none → Completes (.emDelete req) s (fun u => u.doneWith pEM 0x8108 .absent ∧ u.cls = s.cls) ∧
        Completes (.emFind req) s (fun u => u.doneWith pEM 0x8108 .absent ∧ u.reg pEM 0x8218 = 0 ∧ u.cls = s.cls))) ∧
    (∀ (index : BitVec 15) (v : Word), s.mayWrite req pHASH (0xE000 + index.toNat % 512 * 4) = true → fld v 9 8 < Config.pistes s.part →
      Completes (.indEntryWrite req index v) s (fun u => u.indEntry (index.toNat / 512) (index.toNat % 512) = v &&& 0x80000307 ∧
        (∀ t n, t * 512 + n ≠ index.toNat → u.indEntry t n = s.indEntry t n) ∧ u = { s with cls := u.cls })))

/-- An offered packet enters its ready list or its ring with the next number, an item comes back from its ring, the chosen item is bound to
its thread with its snapshot of bytes, or recorded where its DCRC is bad; a Schuss packet becomes firm. (Drawn from R17, R138, R250-R257,
R260, R270-R277, R325.) -/
def Obligations.DispatchCommands : Prop :=
  ∀ s : State, s.live = true →
    (∀ (i : PktId) (k : Packet), s.pkt i = some k → k.st = .offered → s.firstOffer k.tgt.toNat i k = true → s.lost k.tgt.toNat = false →
      let p := k.tgt.toNat
      s.kindType p k.kind.toNat < 2 → (∀ e ∈ (s.piste p).lists, Item.pkt i ∉ e.2) →
      (s.dieRoom p k.list = true → (s.piste p).ring k.list = [] → Completes (.admitPkt i) s (fun u =>
        (∃ k', u.pkt i = some k' ∧ k'.st = .listed ∧ k'.seq = s.nextSeq p ∧ k'.replays = 0 ∧ k'.admitted = s.time.ticks ∧ k'.cells = k.cells) ∧
        (u.piste p).list k.list = (s.piste p).list k.list ++ [.pkt i] ∧ u.nextSeq p = s.nextSeq p + 1 ∧ i ∉ (u.piste p).offers ∧
        u = { s with pkts := u.pkts, pistes := u.pistes })) ∧
      (s.dieRoom p k.list = false → s.kindType p k.kind.toNat = 0 → ((s.piste p).ring k.list).length < s.ringItems p k.list →
        Completes (.admitPkt i) s (fun u => (∃ k', u.pkt i = some k' ∧ k'.st = .spilled) ∧
          (u.piste p).ring k.list = (s.piste p).ring k.list ++ [.pkt i] ∧ u.nextSeq p = s.nextSeq p))) ∧
    (∀ (piste : BitVec 2) (l : BitVec 6) (i : PktId) (k : Packet) (r : List Item),
      let p := piste.toNat
      s.pisteUp p = true → s.dieRoom p l.toNat = true → (s.piste p).ring l.toNat = .pkt i :: r → s.poison = [] → s.pkt i = some k →
      Completes (.spillReturn piste l false) s (fun u => (u.piste p).ring l.toNat = r ∧ u.nextSeq p = s.nextSeq p + 1 ∧
        u.pkt i = some { k with st := .listed, seq := s.nextSeq p } ∧
        (u.piste p).list l.toNat = (s.piste p).list l.toNat ++ [.pkt i] ∧ u.mem = s.mem)) ∧
    (∀ (piste : BitVec 2) (l t : Nat) (i : PktId) (k : Packet) (n : NodeItem),
      let p := piste.toNat
      s.pisteUp p = true →
      (s.chooseBind p = some (l, .pkt i, .thread t) → s.pkt i = some k → s.bankExpired k = false →
        Completes (.bind piste false) s (fun u => (u.thr t).item = some (.pkt i) ∧ (u.thr t).replay = (k.replays != 0) ∧
          (∃ k', u.pkt i = some k' ∧ k'.st = .bound ∧ k'.holder = some t ∧ k'.cur = s.chainBytes k.cells ∧ k'.changed = false ∧
            k'.schuss = s.hasPred k ∧ k'.seq = k.seq ∧ k'.cells = k.cells) ∧
          (u.piste p).list l = ((s.piste p).list l).erase (.pkt i)) ∧
        ((s.piste p).gateRecs.recs.length < 64 → Completes (.bind piste true) s (fun u => (∃ k', u.pkt i = some k' ∧ k'.st = .gone) ∧
          ∃ g, (u.piste p).gateRecs.recs = (s.piste p).gateRecs.recs ++ [g] ∧ g.kind = 2))) ∧
      (s.chooseBind p = some (l, .node n, .thread t) → Completes (.bind piste false) s (fun u => (u.thr t).item = some (.node n)))) ∧
    (∀ (t : Tid) (i : PktId) (k : Packet), s.held t.toNat = some (i, k) → s.canRun t.toNat = true → k.schuss = true → k.st = .bound →
      s.hasPred k = false → s.firmElsewhere k = false →
      (s.stale k = false → Completes (.packetFirm t) s (fun u =>
        u.pkt i = some { k with schuss := false, firm := true } ∧ (∀ q, q ≠ i → u.pkt q = s.pkt q) ∧ u = { s with pkts := u.pkts })) ∧
      (s.stale k = true → Completes (.packetFirm t) s (fun u => (u.thr t.toNat).pc = (s.thr t.toNat).startPc ∧ (u.thr t.toNat).replay = true ∧
        (u.thr t.toNat).g = (s.thr t.toNat).g ∧ ∃ k', u.pkt i = some k' ∧ k'.replays = (if k.replays = 15 then 15 else k.replays + 1) ∧
          k'.cur = s.chainBytes k.cells)))

/-- The Gate releases the oldest packet that nothing related precedes with its disposition, times out a packet bound too long with a record,
and ends Snowplough mode; a deadlock and a hang are declared; a migration rewrites the indirection. (Drawn from R261-R267, R274, R276,
R277, R325; see log entries 79, 82 and 83 for the model's readings.) -/
def Obligations.GateCommands : Prop :=
  ∀ (s : State) (piste : BitVec 2), s.live = true → s.pisteUp piste.toNat = true →
    let p := piste.toNat
    (∀ (i : PktId) (k : Packet), oldest (s.pisteP p (fun k => k.st == .committed && !s.hasRelated k)) = some (i, k) → s.pkt i = some k →
      k.tgt = piste → s.firmElsewhere k = false → s.stale k = false → k.abandoned = false → k.changed = false → k.held = [] → s.replaced k = 0 →
      (Disp.code k.disp = 1 → Completes (.gateRelease piste) s (fun u => (∃ k', u.pkt i = some k' ∧ k'.st = .gone ∧ k'.cells = []) ∧
        (∃ c, u.tmInbox = s.tmInbox ++ [c] ∧ c.cells = k.cells ∧ c.egress = BitVec.ofNat 11 (fwdPort k k.disp) ∧
          c.queue.toNat = fld k.disp 22 20 ∧ c.sched = k.sched ∧ c.newFcs = false) ∧
        u.reg64 (pGATE p) 0x8010 = s.reg64 (pGATE p) 0x8010 + 1)) ∧
      (Disp.code k.disp = 0 → Completes (.gateRelease piste) s (fun u => (∃ k', u.pkt i = some k' ∧ k'.st = .gone) ∧ u.tmInbox = s.tmInbox ∧
        u.reg64 (pGATE p) 0x8010 = s.reg64 (pGATE p) 0x8010 + 1))) ∧
    (∀ (i : PktId) (k : Packet), s.pkt i = some k → k.tgt = piste → k.st = .bound → s.hasRelated k = false →
      (∀ t, k.holder = some t → (s.thr t).st ≠ .halted) → (s.piste p).gateRecs.recs.length < 64 → Completes (.gateTimeout i) s (fun u =>
        (∃ k', u.pkt i = some k' ∧ k'.st = .gone ∧ k'.timedOut = true) ∧ u.reg (pGATE p) 0x8018 = satAdd (s.reg (pGATE p) 0x8018) 1 ∧
        ∃ g, (u.piste p).gateRecs.recs = (s.piste p).gateRecs.recs ++ [g] ∧ g.kind = 1 ∧ g.seq = k.seq ∧ g.port = k.port ∧
          g.order = k.order ∧ g.flow = k.flow ∧ g.cls = k.cls ∧ g.holder = k.holder ∧ g.time = s.time.ns)) ∧
    (∀ flow : BitVec 20, (s.piste p).snow.contains flow.toNat = true → Completes (.snowploughExit piste flow) s (fun u =>
      flow.toNat ∉ (u.piste p).snow ∧ (∀ f, f ≠ flow.toNat → f ∈ (s.piste p).snow → f ∈ (u.piste p).snow) ∧ u = { s with pistes := u.pistes })) ∧
    ((s.piste p).deadlock = false → s.deadlocked p = true → Completes (.deadlockDeclaration piste) s (fun u =>
      (u.piste p).deadlock = true ∧ u.reg (pDISP p) 0x8014 = satAdd (s.reg (pDISP p) 0x8014) 1 ∧
      bit (u.thr (p * 512 + s.rfld (pDISP p) 0x100 2 0)).evlatch 9 = true ∧
      ∃ r, u.log = sset s.log ((s.reg pLOG 0x8000).toNat % 4096) r ∧ r.kind = 5)) ∧
    ((s.piste p).deadlock = true → s.deadlocked p = true → s.supervisorStuck p = true → Completes (.hangDeclaration piste) s (fun u =>
      (∃ r, u.safety.inbox = s.safety.inbox ++ [r] ∧ r.kind = 9) ∧ u = { s with safety := u.safety })) ∧
    (∀ pair : BitVec 1, s.migrates pair.toNat = true → Completes (.migrationRewrite pair) s (fun u =>
      bit u.sige.migrate pair.toNat = false ∧ ∀ t i, u.indEntry t i =
        (let w := s.indEntry t i
         if bit w 31 && fld w 9 8 / 2 == pair.toNat && s.kindType (2 * (1 - pair.toNat)) (fld w 2 0) == 2
         then setFld w 9 8 (2 * (1 - pair.toNat)) else w)))

/-- TIMER's step to zero sets its event, a parked or asynchronous operation completes with its result, and RESUME, RESTART, RESET and the
windows act on a stopped or faulted thread; a POP removes the head record. (Drawn from R161-R163, R174-R176, R182, R184, R190, R192, R229,
R233, R243; when a parked operation takes effect is log entry 53 and what RESTART and RESET keep log entry 56, the model's readings.) -/
def Obligations.ThreadEvents : Prop :=
  ∀ (s : State) (t : Tid), s.live = true →
    let n := t.toNat
    let th := s.thr n
    (th.timer ≠ 0 → th.st ≠ .waiting → Completes (.threadTimerExpiry t) s (fun u =>
      u.thr n = { th with timer := 0, evlatch := th.evlatch ||| 4 } ∧ (∀ j, j ≠ n → u.thr j = s.thr j) ∧ u = { s with threads := u.threads })) ∧
    (s.parkLive n = true → th.st = .parked → s.quiet t = true → th.stopPending = false →
      let done (u : State) (rd : Reg) (v : W64) : Prop := (u.thr n).st = .running ∧ (u.thr n).park = none ∧
        (u.thr n).pc = BitVec.ofNat 40 (th.pc.toNat + 4) ∧ (∀ r, (u.thr n).rg r = if r = rd ∧ r ≠ 0 then v else th.rg r) ∧
        (∀ j, j ≠ n → u.thr j = s.thr j) ∧ u.mem = s.mem ∧ u.regs = s.regs
      (∀ rd v w, th.park = some (.value rd v 0, w) → Completes (.parkCompletion t false) s (fun u => done u rd v)) ∧
      (∀ rd ea m k sign swap w, th.park = some (.load rd ea m k sign swap, w) → s.poisoned m k = false → (s.bpHit n [1, 3] ea k).isNone = true →
        Completes (.parkCompletion t false) s (fun u => done u rd (loadVal sign swap (s.bytes m k))))) ∧
    (∀ (c : CryOp) (p : PktId) (k : Packet) (b : Bytes), th.cry = some c → c.fromPkt = true → c.pkt = some p → s.pkt p = some k →
      s.cellsBad k.cells = false → c.func ≠ 4 → c.orphan = false → th.st ≠ .waiting → (c.run k.cur).bytes = some b →
      Completes (.asyncCompletion t false) s (fun u => (u.thr n).cry = none ∧ (u.thr n).cryDone = true ∧ (u.thr n).cryStatus = 0 ∧
        (u.thr n).cryAuth = (c.run k.cur).auth ∧ bit (u.thr n).evlatch 4 = true ∧ (u.thr n).g = th.g ∧ (u.thr n).pc = th.pc ∧
        u.pkt p = some { k with cur := b, changed := true } ∧ u.mem = s.mem)) ∧
    (∀ (req : Requester) (page : Page) (off : Off) (v : Word) (p c : Nat), pageKind s.part page.toNat = some (.clu p c) →
      let cl := p * 8 + c
      (s.mayWrite req page.toNat off.toNat = true → 0xE000 ≤ off.toNat → off.toNat % 4 = 0 → s.locked page.toNat = false → s.inv →
        let a := icsA cl (s.rfld page.toNat 0x300 5 0 * 8192 + (off.toNat - 0xE000))
        Completes (.icsWindowWrite req page off v) s (fun u => u.word a = v ∧ (∀ x, x < a ∨ a + 4 ≤ x → u.byte x = s.byte x) ∧
          (∀ x, x / 4096 = cl → sfind u.btb x = none) ∧ u = { s with mem := u.mem, poison := u.poison, btb := u.btb })) ∧
      Completes (.icsCheckPass page) s (fun u => u.reg page.toNat 0x8200 = crc32c (s.bytes (icsA cl 0) 0x80000) ∧ u = { s with regs := u.regs }) ∧
      (∀ (i : Nat) (d : RegDesc) (low : Word), i < 32 → off.toNat = 0xC004 + 8 * i → page.toNat = pCLU cl →
        findReg (.clu p c) off.toNat = some (d, 0xC000 + 8 * i, true) → d.wide = true → d.acc = .rw → reqOk s.part req = true →
        s.mayWrite req page.toNat (0xC000 + 8 * i) = true → sfind s.fabric.stage (reqNum req) = some (regKey page.toNat (0xC000 + 8 * i), low) →
        let w := s.tctx page.toNat cl
        (s.thr w).st = .stopped ∨ (s.thr w).st = .faulted → Completes (.contextWindowWrite req page off v) s (fun u =>
          (u.thr w).rg (BitVec.ofNat 5 i) = (if i = 0 then 0 else cat32 (v &&& d.maskHalf true) (low &&& d.maskHalf false)) ∧
          (∀ j, j ≠ w → u.thr j = s.thr j) ∧ u.mem = s.mem ∧ u.regs = s.regs))) ∧
    (∀ (req : Requester) (piste : BitVec 2),
      let p := piste.toNat
      let x := s.rfld (pPST p) 0x8100 10 0
      (s.mayCommand req (pPST p) 0x8104 0x8108 = true → tPiste x = p → s.lost p = false → (∀ c, req = .core c → isSup c.toNat = true) →
        (isSup x = true → ∃ m, req = .tel m) →
        ((s.thr x).st = .faulted → Completes (.threadResume req piste) s (fun u => u.doneWith (pPST p) 0x8108 .ok ∧
          u.thr x = { s.thr x with st := .running } ∧ (∀ j, j ≠ x → u.thr j = s.thr j) ∧ u.mem = s.mem)) ∧
        ((s.thr x).st = .running → Completes (.threadResume req piste) s (fun u => u.doneWith (pPST p) 0x8108 .badArg ∧ u.threads = s.threads)) ∧
        ((s.thr x).st = .faulted ∨ (s.thr x).st = .stopped → Completes (.threadRestart req piste) s (fun u => u.doneWith (pPST p) 0x8108 .ok ∧
          (u.thr x).st = .running ∧ (u.thr x).pc = (s.thr x).startPc ∧ (u.thr x).g = [] ∧ (u.thr x).item = none ∧ (u.thr x).pl = (s.thr x).pl)) ∧
        ((s.thr x).st ≠ .offline → Completes (.threadReset req piste) s (fun u => u.doneWith (pPST p) 0x8108 .ok ∧
          (u.thr x).st = .stopped ∧ (u.thr x).g = [] ∧ (u.thr x).item = none ∧ (u.thr x).pc = (Thread.reset x).pc))) ∧
      (s.mayWrite req (pPST p) 0x9020 = true → (s.piste p).faults.recs ≠ [] → Completes (.pstFaultPop req piste) s (fun u =>
        (u.piste p).faults.recs = (s.piste p).faults.recs.drop 1 ∧ u = { s with pistes := u.pistes })) ∧
      (s.mayWrite req (pGATE p) 0x9020 = true → (s.piste p).gateRecs.recs ≠ [] → Completes (.gateRecPop req piste) s (fun u =>
        (u.piste p).gateRecs.recs = (s.piste p).gateRecs.recs.drop 1 ∧ u = { s with pistes := u.pistes })) ∧
      (s.mayWrite req pTEL 0x9020 = true → s.telFaults.recs ≠ [] → Completes (.telFaultPop req) s (fun u =>
        u.telFaults.recs = s.telFaults.recs.drop 1 ∧ u = { s with telFaults := u.telFaults })))

/-- A thread bound to a code node reads its inputs, keeps an output's quality word, writes each output port once, asks for the cycle and the
time left, and ends its firing; a thread without a binding is answered EMPTY. (Drawn from R245, R310, R311.) -/
def Obligations.SignalCoprocessor : Prop :=
  ∀ (s : State) (t : Tid) (rd rs rt : Reg) (opt : BitVec 5), s.unitReady t 4 = true →
    let th := s.thr t.toNat
    let v := th.rg rs
    let after (x : Thread) : State := s.wentOn t x (th.pc.toNat + 4)
    exec (.sigSetq t 0 rs 0 0) s = .next (after { th with oq := v }) ∧
    (∀ x, s.boundNode t.toNat = some x →
      (∀ w : W128, x.inputs[fld v 3 0]? = some w → exec (.sigRdin t rd rs 0 0) s =
        .next (after ({ th with res4 := w64 (w.toNat / 2 ^ 64) }.setRg rd (w64 w.toNat)))) ∧
      exec (.sigInfo t rd 0 0 0) s = .next (after (th.setRg rd (w64 (x.cycle.toNat * 0x100000000 + s.nsLeft x % 0x100000000)))) ∧
      (opt.toNat < 8 → wroutStatus s x opt.toNat (fld (th.rg rt) 7 0) = .ok → Completes (.sigWrout t rd rs rt opt) s (fun u =>
        (u.thr t.toNat).item = some (.node { x with written := x.written ++ [opt.toNat] }) ∧ (u.thr t.toNat).rg rd = 0 ∧
        (u.thr t.toNat).pc = BitVec.ofNat 40 (th.pc.toNat + 4) ∧ u.pkts = s.pkts)) ∧
      (opt.toNat < 8 → wroutStatus s x opt.toNat (fld (th.rg rt) 7 0) ≠ .ok → exec (.sigWrout t rd rs rt opt) s =
        .next (after (th.setRg rd (w64 (wroutStatus s x opt.toNat (fld (th.rg rt) 7 0)).code)))) ∧
      Completes (.sigDone t rd 0 0 0) s (fun u => (u.thr t.toNat).item = none ∧ (u.thr t.toNat).rg rd = 0 ∧
        x.node.toNat ∉ (u.graph x.place).coded)) ∧
    (s.boundNode t.toNat = none → exec (.sigDone t rd 0 0 0) s = .next (after (th.setRg rd 6)) ∧
      (opt.toNat < 8 → exec (.sigWrout t rd rs rt opt) s = .next (after (th.setRg rd 6))))

/-- A timer's cycle start counts and opens the cycle of its running graphs, a ready node fires once a cycle, the deadline closes the cycle and
counts an overrun; UNPACK takes the oldest frame, PACK builds one, SEAL seals it; a HOLD ends in SUBST. (Drawn from R293-R300, R304, R306,
R308, R309, R317, R323; log entries 85 to 92 name the model's readings.) -/
def Obligations.SignalCycles : Prop :=
  ∀ (s : State) (piste : BitVec 2), s.live = true →
    let p := piste.toNat
    let pg := pSIGE p
    (∀ timer : BitVec 3, s.pisteUp p = true → Config.hasSige s.part = true → bit (s.reg pg (0x100 + 8 * timer.toNat)) 31 = true →
      (∀ g, gPiste g = p → (s.graph g).swapFor = none ∧ (s.graph g).st ≠ .retiring) → Completes (.cycleStart piste timer) s (fun u =>
        u.reg pg (0x8080 + 4 * timer.toNat) = s.reg pg (0x8080 + 4 * timer.toNat) + 1 ∧
        ∀ g, gPiste g = p → (s.graph g).st = .active → s.gRuns g = true → s.gTimer g = timer.toNat →
          (u.graph g).openCycle = true ∧ (u.graph g).st = .active ∧ (u.graph g).cycle = s.reg pg (0x8080 + 4 * timer.toNat) + 1)) ∧
    (∀ graph : BitVec 8,
      let closes (g : Nat) (i : Instr) : Prop := gPiste g = p → (s.graph g).openCycle = true → Completes i s (fun u =>
        (u.graph g).openCycle = false ∧ (u.graph g).cycle = (s.graph g).cycle ∧ u.reg pg (0x9100 + 4 * gSlot g) =
          (if (s.gNodes g).filter (s.lateNode g) = [] then s.reg pg (0x9100 + 4 * gSlot g) else satAdd (s.reg pg (0x9100 + 4 * gSlot g)) 1))
      (s.gIsOdd graph.toNat = false → closes graph.toNat (.deadline piste graph)) ∧
      (s.gIsOdd (gOdd graph.toNat) = true → (s.graph (gEven (gOdd graph.toNat))).openCycle = false →
        closes (gOdd graph.toNat) (.deadlineMarker piste graph)) ∧
      (s.gIsOdd (gOdd graph.toNat) = true → closes (gOdd graph.toNat) (.deadlineMarkerTimeout piste graph)) ∧
      (gPiste graph.toNat = p → (s.graph (gEven graph.toNat)).st = .hold → Completes (.holdTimeout piste graph) s (fun u =>
        ∀ h ∈ s.gPlaces (gEven graph.toNat), (u.graph h).st = .subst ∧ (u.graph h).openCycle = false))) ∧
    (∀ (node : BitVec 16) (g : Nat), s.graphOf p node.toNat = some g →
      let n := node.toNat
      let x := s.graph g
      (s.gRuns g = true → x.openCycle = true → n ∉ x.fired → s.ready g n = true → 2 ≤ s.nodeOp p n → s.nodeOp p n ≠ 12 →
        Completes (.nodeFire piste node) s (fun u => (u.graph g).fired = x.fired ++ [n] ∧ (u.graph g).openCycle = true ∧
          (s.nodeOp p n = 15 → (u.graph g).coded = x.coded ++ [n]))) ∧
      (s.nodeOp p n = 1 → x.ran = true → n ∉ x.fired → s.gRuns g = true → s.ready g n = true → Completes (.pack piste node) s (fun u =>
        (u.graph g).fired = x.fired ++ [n] ∧ (s.gIsOdd g = true → fld (s.nodeP p n 0) 53 40 ≠ 0x3FFF →
          ∃ f, sfind (u.graph g).built (fld (s.nodeP p n 0) 53 40) = some f ∧ f.cycle = x.cycle))) ∧
      (∀ f, s.gRuns g = true → s.nodeOp p n = 12 → sfind x.built n = some f → Completes (.seal piste node) s (fun u =>
        (u.nodeSt p n).seq = (s.nodeSt p n).seq + 1 ∧ sfind (u.graph g).built n = none ∧
        (s.gSafe g = true → ∃ q, (u.xchk (p / 2)).seals = (s.xchk (p / 2)).seals ++ [q] ∧ q.seq = (s.nodeSt p n).seq + 1 ∧ q.cycle = f.cycle) ∧
        (s.gSafe g = false → f.cells ≠ [] → ∃ c, u.tmInbox = s.tmInbox ++ [c] ∧ c.cells = f.cells ∧ c.egress = f.egress)))) ∧
    (∀ (it : UnpackItem) (r : List UnpackItem) (k : Packet), s.pisteUp p = true → s.items p = it :: r → s.pkt it.pkt = some k → k.st = .bound →
      Completes (.unpack piste) s (fun u => u.items p = r ∧
        (it.node = none → u.reg pg 0x8010 = satAdd (s.reg pg 0x8010) 1 ∧
          ((∀ q, q < 4 → q ≠ p → ∀ x ∈ s.items q, x.pkt ≠ it.pkt) → (∀ x ∈ r, x.pkt ≠ it.pkt) → ∃ k', u.pkt it.pkt = some k' ∧
            k'.st = .committed ∧ k'.disp = s.sigeDisp k.tgt.toNat k.cls.toNat))))

/-- The graph commands load, retire and swap graphs that pass their checks and force signals; XCHK passes two equal tokens or seals and
otherwise holds a pair fault with its safety record; a table pass shows its check; a migration puts the standby graph in place. (Drawn
from R286, R312-R325; log entries 93 to 95 name the model's readings.) -/
def Obligations.GraphCommands : Prop :=
  ∀ (s : State) (req : Requester), s.live = true →
    (∀ piste : BitVec 2,
      let p := piste.toNat
      let pg := pSIGE p
      let g := s.argSlot p false
      let done (u : State) : Prop := u.doneWith pg 0x8118 .ok
      let i := s.rfld pg 0x8110 18 0
      let v := s.reg64 pg 0x8108
      (s.mayCommand req pg 0x8114 0x8118 = true →
        (s.noMigrate g = false → graphMode s req (s.cmdSafe g) = true → s.evenSafe g = false → bit (s.gctl g) 9 = false →
          (bit (s.gctl g) 0 = true → s.safetySubst = false) → s.loadOk g none = true → s.slotTaken g = false →
          Completes (.load req piste) s (fun u => done u ∧ (∀ h ∈ s.newPlaces g, (u.graph h).st = .pending) ∧ u.mem = s.mem)) ∧
        (s.noMigrate g = false → graphMode s req (s.cmdSafe g) = true → s.evenSafe g = false → s.loadOk g none = false →
          Completes (.load req piste) s (fun u => u.doneWith pg 0x8118 .badArg ∧ u.sige = s.sige)) ∧
        (graphMode s req (s.cmdSafe g) = true → s.evenSafe g = false → (s.graph g).st ≠ .free → (s.graph g).st ≠ .pending →
          (s.graph g).st ≠ .retiring → Completes (.unload req piste) s (fun u => done u ∧
            (∀ h ∈ s.gPlaces g, (u.graph h).st = .retiring) ∧ u.mem = s.mem)) ∧
        (∀ n, n = s.argSlot p true → s.noMigrate n = false → graphMode s req (s.cmdSafe g || s.cmdSafe n) = true →
          s.evenSafe g = false → s.evenSafe n = false → g ≠ n → (s.graph g).st = .active → s.loadOk n (some g) = true → s.slotTaken n = false →
          Completes (.swap req piste) s (fun u => done u ∧ (∀ h ∈ s.newPlaces n, (u.graph h).st = .pending ∧ (u.graph h).swapFor = some g) ∧
            u.mem = s.mem)) ∧
        (i < Config.signals s.part → forceMode s = true →
          (s.forceCopy i ≠ some i → s.inv → Completes (.force req piste) s (fun u => done u ∧ (sfind u.sige.forced i).isSome = true ∧
            (Rec.ofBits (u.sigRaw i)).value = v ∧ (Rec.ofBits (u.sigRaw i)).quality = qFORCED)) ∧
          Completes (.unforce req piste) s (fun u => done u ∧ sfind u.sige.forced i = none ∧ u.mem = s.mem))) ∧
      (p < Config.pistes s.part → Config.hasSige s.part = true → Completes (.sigeTblPass piste) s (fun u =>
        u.reg pg 0x8004 = s.tblCrc p ∧ u = { s with regs := u.regs }))) ∧
    (∀ (pair : BitVec 1) (graph : BitVec 8) (port : BitVec 4),
      let k := pair.toNat
      let pg := pXCHK k
      let fault (u : State) (kind : Byte) : Prop := bit (u.reg pg 0x8000) 0 = true ∧
        ∃ r rest, u.safety.inbox = s.safety.inbox ++ r :: rest ∧ r.kind = kind
      (s.mayWrite req pg 0x800C = true → s.modeNow = .configure ∨ s.modeNow = .commission ∨ s.modeNow = .maintenance →
        Completes (.xchkClear req pair) s (fun u => u.reg pg 0x8000 = 0 ∧ bit u.safety.suspect k = false ∧ u.mem = s.mem)) ∧
      (s.pairUp k = true →
        (∀ a b, tokenPair (s.xchk k).tokens graph port = some (a, b) →
          (a.record = ~~~ b.record → (s.graph graph.toNat).standsFor = none → Completes (.xchkCompare pair graph port) s (fun u =>
            u.reg pg 0x8000 = s.reg pg 0x8000 ∧ u.reg64 pg 0x8010 = s.reg64 pg 0x8010 + 1 ∧
            (u.xchk k).tokens = ((s.xchk k).tokens.erase a).erase b ∧ sfind (u.graph graph.toNat).passed a.index = some a.record)) ∧
          (a.record ≠ ~~~ b.record → Completes (.xchkCompare pair graph port) s (fun u => fault u 4 ∧
            (u.xchk k).tokens = ((s.xchk k).tokens.erase a).erase b))) ∧
        (∀ a, (s.xchk k).tokens = [a] → a.graph = graph → a.port = port → (s.graph graph.toNat).openCycle = false →
          Completes (.xchkMissing pair graph port) s (fun u => fault u 6 ∧ (u.xchk k).tokens = [])) ∧
        (∀ a b, (s.xchk k).seals = [a, b] → a.odd = false → b.odd = true → a.graph = graph → b.graph = graph → a.cycle = b.cycle →
          a.node = b.node →
          (a.seq = b.seq → a.crc = b.crc → ∀ f, a.frame = some f → f.cells ≠ [] → Completes (.xchkSealCompare pair graph) s (fun u =>
            (u.xchk k).seals = [] ∧ ∃ c, u.tmInbox = s.tmInbox ++ [c] ∧ c.cells = f.cells ∧ c.egress = f.egress)) ∧
          (a.crc ≠ b.crc → a.frame = none → Completes (.xchkSealCompare pair graph) s (fun u => fault u 5 ∧ (u.xchk k).seals = [])))) ∧
      (∀ g h, s.migrates (2 + k) = true → s.migrants k = [(g, h)] → Completes (.migrationActivate pair) s (fun u =>
        bit u.sige.migrate (2 + k) = false ∧ ∀ x ∈ s.gPlaces h, (u.graph x).st = .active)))

/-- A granted request takes a free cell of the requester's pool, a free lowers REFS of every cell of its chain, a double free is counted,
raised and recorded; the commands do the same; dynamic blocks are handed out and returned, scrub errors and rebuilds recorded. (Drawn from
R334-R348.) -/
def Obligations.PoolCommands : Prop :=
  ∀ (s : State) (req : Requester), s.live = true →
    let taken (u : State) (c : Nat) : Prop := ctlRefs (u.cellCtl c) = 1 ∧ ctlRefs (s.cellCtl c) = 0 ∧ ∀ d, d ≠ c → u.cellCtl d = s.cellCtl d
    let freed (u : State) (c : Nat) : Prop := ctlRefs (u.cellCtl c) = ctlRefs (s.cellCtl c) - 1 ∧ ∀ d, d ≠ c → u.cellCtl d = s.cellCtl d
    let rejected (u : State) : Prop := u.reg pBPM 0x8004 = satAdd (s.reg pBPM 0x8004) 1 ∧ u.cells = s.cells ∧ bit (u.reg pBPM 0x20) 8 = true ∧
      ∃ r, u.safety.inbox = s.safety.inbox ++ [r] ∧ r.kind = 3
    (∀ (r : BitVec 12) (key : BitVec 5) (c : Nat) (w : State), isRequester r.toNat = true → reqPresent s.part r.toNat = true →
      requestCell r.toNat key.toNat s = (.ok, c, w) → Completes (.cellRequest r key) s (fun u => taken u c ∧ u = { s with cells := u.cells })) ∧
    (∀ (cell : CellId) (tag : BitVec 17), cell.toNat < cellCount → s.chain cell.toNat = [cell.toNat] →
      (ctlRefs (s.cellCtl cell.toNat) ≠ 0 → ctlTag (s.cellCtl cell.toNat) = tag.toNat % 65536 → Completes (.chainFree cell tag) s (fun u =>
        freed u cell.toNat ∧ u.regs = s.regs ∧ u.mem = s.mem)) ∧
      (ctlRefs (s.cellCtl cell.toNat) = 0 → Completes (.chainFree cell tag) s (fun u => rejected u ∧ u.mem = s.mem))) ∧
    (s.mayCommand req pBPM 0x8108 0x810C = true →
      let c := s.rfld pBPM 0x8100 18 0
      (∀ n w, isRequester (s.rfld pBPM 0x8100 10 0) = true → reqPresent s.part (s.rfld pBPM 0x8100 10 0) = true →
        requestCell (s.rfld pBPM 0x8100 10 0) (keyOf s.time.ns) s = (.ok, n, w) → Completes (.bpmAlloc req) s (fun u =>
          taken u n ∧ u.doneWith pBPM 0x810C .ok ∧ u.reg pBPM 0x8110 = w32 (n + keyOf s.time.ns * 0x80000))) ∧
      (c < cellCount → s.chain c = [c] → ctlRefs (s.cellCtl c) ≠ 0 →
        (ctlTag (s.cellCtl c) = s.rfld pBPM 0x8104 15 0 → Completes (.bpmFree req) s (fun u => freed u c ∧ u.doneWith pBPM 0x810C .ok)) ∧
        ((∃ n, req = .tel n) → Completes (.bpmReclaim req) s (fun u => freed u c ∧ u.doneWith pBPM 0x810C .ok))) ∧
      ((∀ n, req ≠ .tel n) → Completes (.bpmReclaim req) s (fun u => u.doneWith pBPM 0x810C .notOwner ∧ u.cells = s.cells))) ∧
    (∀ (pool : BitVec 6) (word : BitVec 14), exec (.bitmapRebuild pool word) s =
      .next { s with badBitmap := s.badBitmap.filter (· != (s.pool pool.toNat).2.1 / 64 + word.toNat) }) ∧
    (∀ (page : Page) (p c : Nat), pageKind s.part page.toNat = some (.clu p c) → page.toNat = pCLU (p * 8 + c) →
      let cl := p * 8 + c
      let t := s.rfld page.toNat 0x8500 10 0
      let b := s.rfld page.toNat 0x8500 23 16
      (s.mayCommand req page.toNat 0x8504 0x8508 = true → t / 512 < Config.pistes s.part → dynRight req t = true →
        (∀ n, (rangeFrom 0 (s.dynBlocks cl)).find? (fun b => s.dynOwner cl b == 0) = some n →
          ((rangeFrom 0 (s.dynBlocks cl)).filter (fun b => s.dynOwner cl b == t + 1)).length < s.rfld page.toNat 0x600 23 16 →
          Completes (.dynAlloc req page) s (fun u => u.dynOwner cl n = t + 1 ∧ u.reg page.toNat 0x850C = w32 n ∧
            u.doneWith page.toNat 0x8508 .ok ∧ u.mem = s.mem)) ∧
        (b < s.dynBlocks cl → s.dynOwner cl b = t + 1 → Completes (.dynFree req page) s (fun u => u.dynOwner cl b = 0 ∧
          u.doneWith page.toNat 0x8508 .ok ∧ u.mem = s.mem)) ∧
        (b < s.dynBlocks cl → s.dynOwner cl b = 0 → Completes (.dynFree req page) s (fun u => u.doneWith page.toNat 0x8508 .doubleFree ∧ u.dyn = s.dyn))) ∧
      (∀ (source : BitVec 8) (addr : Word), source.toNat < 9 →
        Completes (.scratchpadScrub page source addr true) s (fun u => u.poisoned (cluWordAddr cl source.toNat addr.toNat) 8 = true ∧
          u.reg page.toNat 0x44 = satAdd (s.reg page.toNat 0x44) 1 ∧ u.mem = s.mem) ∧
        Completes (.scratchpadScrub page source addr false) s (fun u => u.poison = s.poison ∧
          u.reg page.toNat 0x40 = satAdd (s.reg page.toNat 0x40) 1 ∧ u.mem = s.mem)))

/-- An acquire takes a unit for its holder and parks its thread with the status word, an empty one may arm the release event; a release
returns units; the commands do the same; RECLAIM returns an orphan's units, RETIRE withdraws them; a write of SEMA_CAP sets AVAIL. (Drawn
from R356-R368.) -/
def Obligations.SemaphoreCommands : Prop :=
  ∀ s : State,
    (∀ (t : Tid) (rd rs : Reg) (sem : BitVec 12), s.steady t = true → s.quiet t = true → s.schussHeld t.toNat = false →
      let n := sem.toNat
      let th := s.thr t.toNat
      let who := reqOfThread t.toNat
      let parks (i : Instr) (off : Nat) (ok : State → Word → Prop) : Prop := (∀ c, locate s t.toNat .load (semaAddr sem off) 4 ≠ .bad c) →
        Completes i s (fun u => (u.thr t.toNat).st = .parked ∧ (u.thr t.toNat).pc = th.pc ∧ u.mem = s.mem ∧
          ∃ v w, (u.thr t.toNat).park = some (.value rd (v.setWidth 64) (semaAddr sem off).toNat, w) ∧ ok u v)
      semaPermit s n who (th.pl == 0) = true →
        ((acquire who n s).1 = .ok →
          parks (.acquire t rd sem) 0 (fun u v => u.semAvail n = s.semAvail n - 1 ∧ fld v 3 0 = 0 ∧ fld v 31 16 = s.semAvail n - 1) ∧
          parks (.acquireArm t rd sem) 4 (fun u v => u.semAvail n = s.semAvail n - 1 ∧ fld v 3 0 = 0)) ∧
        (s.semAvail n = 0 →
          parks (.acquire t rd sem) 0 (fun u v => u.sema = s.sema ∧ fld v 3 0 = 6) ∧
          parks (.acquireArm t rd sem) 4 (fun u v => u.semArmed t.toNat n = true ∧ fld v 4 4 = 1 ∧ fld v 3 0 = 6)) ∧
        parks (.semaState t rd sem) 12 (fun u v => u.sema = s.sema ∧ v = w32 (s.semLive n * 0x10000 + s.semAvail n)) ∧
        (∀ i h, (∀ c, locate s t.toNat .store (semaAddr sem 8) 4 ≠ .bad c) → s.unwatched t .store (semaAddr sem 8) 4 = true →
          fld (lo32 (th.rg rs)) 31 16 = 0 → findHolder s.sema.holders (holderOf who).1 (holderOf who).2 n = some (i, h) → h.orphaned = false →
          1 ≤ fld (lo32 (th.rg rs)) 15 0 → fld (lo32 (th.rg rs)) 15 0 ≤ h.units.toNat → Completes (.semaRelease t rs sem) s (fun u =>
            u.semAvail n = (s.semAvail n + fld (lo32 (th.rg rs)) 15 0) % 65536 ∧ (u.thr t.toNat).st = .running ∧
            (u.thr t.toNat).pc = BitVec.ofNat 40 (th.pc.toNat + 4)))) ∧
    (∀ (req : Requester) (sem : BitVec 12) (v : Word),
      let n := (s.reg pSEMA 0x8100).toNat
      let e := s.rfld pSEMA 0x8100 14 0
      let done (u : State) : Prop := u.doneWith pSEMA 0x810C .ok
      (s.mayCommand req pSEMA 0x8108 0x810C = true → semaMode s = false →
        (n < 4096 → semaPermit s n req false = true →
          ((acquire req n s).1 = .ok → Completes (.semaCmdAcquire req) s (fun u => done u ∧ u.semAvail n = s.semAvail n - 1 ∧
            fld (u.reg pSEMA 0x8110) 3 0 = 0 ∧ u.mem = s.mem)) ∧
          (∀ i h, findHolder s.sema.holders (holderOf req).1 (holderOf req).2 n = some (i, h) → h.orphaned = false →
            1 ≤ s.rfld pSEMA 0x8104 15 0 → s.rfld pSEMA 0x8104 15 0 ≤ h.units.toNat → Completes (.semaCmdRelease req) s (fun u => done u ∧
              u.semAvail n = (s.semAvail n + s.rfld pSEMA 0x8104 15 0) % 65536)) ∧
          Completes (.semaCmdState req) s (fun u => done u ∧ u.reg pSEMA 0x8110 = w32 (s.semLive n * 0x10000 + s.semAvail n) ∧ u.sema = s.sema)) ∧
        (n < 4096 → semaPermit s n req false = false → Completes (.semaCmdState req) s (fun u => u.doneWith pSEMA 0x810C .notOwner ∧ u.sema = s.sema)) ∧
        (∀ h : Holder, sget none s.sema.holders e = some h → h.orphaned = true → semaSupervises s h.sem.toNat req = true →
          Completes (.semaReclaim req) s (fun u => done u ∧ sget none u.sema.holders e = none ∧
            u.semAvail h.sem.toNat = (s.semAvail h.sem.toNat + h.units.toNat) % 65536) ∧
          Completes (.retire req) s (fun u => done u ∧ sget none u.sema.holders e = none ∧ u.sema.avail = s.sema.avail ∧
            u.semRetired h.sem.toNat = (s.semRetired h.sem.toNat + h.units.toNat) % 65536))) ∧
      (s.mayWrite req pSEMA (0x1000 + 4 * sem.toNat) = true → (∀ x ∈ s.sema.holders, ∀ h, x.2 = some h → h.sem ≠ sem) →
        Completes (.semaCapWrite req sem v) s (fun u => u.reg pSEMA (0x1000 + 4 * sem.toNat) = w32 (fld v 15 0) ∧
          u.semAvail sem.toNat = fld v 15 0 ∧ u.semRetired sem.toNat = 0 ∧ u.sema.holders = s.sema.holders ∧ u.mem = s.mem)) ∧
      (s.mayWrite req pSEMA 0x9010 = true → s.sema.orphans ≠ [] → Completes (.semaOrphPop req) s (fun u =>
        u.sema.orphans = s.sema.orphans.drop 1 ∧ u = { s with sema := { s.sema with orphans := u.sema.orphans } })))

/-- A client's request is queued or counted as back-pressure, and a queued one is served in order with the error it meets and counted late
once; refreshes are issued, postponed or urgent; temperature readings, scrub progress, flow fills, quarantine marks, fences, flow commands
and writes of the HBM pages change what this statement says of each. (Drawn from R371-R391, R527, R528; where the readings of log entries
98 to 100 enter, they are the model's.) -/
def Obligations.HbmCommands : Prop :=
  ∀ (s : State) (req : Requester), s.live = true → s.inv →
    (∀ (port : BitVec 4) (addr : BitVec 40) (write : Bool) (data : Bytes) (a : Nat), hbmServes s = true → clientPresent s.part port.toNat = true →
      data ≠ [] → hbmOff s.part addr.toNat data.length = some a →
      (portDepth port.toNat ≤ (s.portQ port.toNat).length → Completes (.hbmRequest port addr write data) s (fun u =>
        u.reg pHBM (0xA00C + port.toNat * 0x10) = satAdd (s.reg pHBM (0xA00C + port.toNat * 0x10)) 1 ∧ u = { s with regs := u.regs })) ∧
      ((s.portQ port.toNat).length < portDepth port.toNat → Completes (.hbmRequest port addr write data) s (fun u =>
        u.portQ port.toNat = s.portQ port.toNat ++ [{ addr := a, write := write, data := data, late := false }] ∧
        u.reg64 pHBM (0xA000 + port.toNat * 0x10) = s.reg64 pHBM (0xA000 + port.toNat * 0x10) + 1 ∧
        (∀ m, m ≠ port.toNat → u.portQ m = s.portQ m) ∧ u.mem = s.mem))) ∧
    (∀ (port : BitVec 4) (r : HbmReq) (q : List HbmReq), s.portQ port.toNat = r :: q → r.data ≠ [] →
      let n := port.toNat
      let x := hbmA r.addr
      let pg := pHBMS (hbmStack s.part r.addr)
      (r.late = false → Completes (.requestLate port) s (fun u => u.portQ n = { r with late := true } :: q ∧
        u.reg pHBM (0xA008 + n * 0x10) = satAdd (s.reg pHBM (0xA008 + n * 0x10)) 1 ∧ u.mem = s.mem)) ∧
      (r.write = true → Completes (.hbmRequestComplete port 0) s (fun u => u.portQ n = q ∧ u.bytes x r.data.length = r.data ∧
        (∀ b, b < x ∨ x + r.data.length ≤ b → u.byte b = s.byte b) ∧ (s.hbm.fence = [(n, 1)] → u.doneWith pHBM 0x8108 .ok))) ∧
      (r.write = false → s.poisoned x r.data.length = false →
        Completes (.hbmRequestComplete port 0) s (fun u => u.portQ n = q ∧ sget [] u.hbm.result n = s.bytes x r.data.length ∧ u.mem = s.mem) ∧
        Completes (.hbmRequestComplete port 1) s (fun u => u.portQ n = q ∧ u.reg pg 0x40 = satAdd (s.reg pg 0x40) 1 ∧
          sget [] u.hbm.result n = s.bytes x r.data.length ∧ u.mem = s.mem)) ∧
      (r.write = false → Completes (.hbmRequestComplete port 2) s (fun u => u.portQ n = q ∧ u.reg pg 0x44 = satAdd (s.reg pg 0x44) 1 ∧
        u.poisoned x r.data.length = true ∧ u.mem = s.mem ∧ (∀ f, n = 0 → s.flowAt r.addr = some f → f ∈ u.hbm.quarantined)))) ∧
    (∀ pc : BitVec 6, s.refreshes pc.toNat = true →
      let c := pc.toNat
      let allowance := if bit s.hbm.high (c / 32) then 4 else 8
      (s.pcBusy c = false → Completes (.refreshDue pc) s (fun u => u.refOwed c = 0 ∧ u.regs = s.regs ∧ u.mem = s.mem)) ∧
      (s.pcBusy c = true → s.refOwed c + 1 < allowance →
        Completes (.refreshDue pc) s (fun u => u.refOwed c = s.refOwed c + 1 ∧ u.regs = s.regs ∧ u.mem = s.mem)) ∧
      (s.pcBusy c = true → allowance ≤ s.refOwed c + 1 → Completes (.refreshDue pc) s (fun u => u.refOwed c = allowance - 1 ∧
        u.reg (pHBMS (c / 32)) 0x8014 = satAdd (s.reg (pHBMS (c / 32)) 0x8014) 1 ∧ u.mem = s.mem)) ∧
      Completes (.refreshViolation pc) s (fun u => u.reg (pHBMS (c / 32)) 0x8018 = satAdd (s.reg (pHBMS (c / 32)) 0x8018) 1 ∧
        bit (u.reg (pHBMS (c / 32)) 0x20) 9 = true ∧ u.mem = s.mem ∧ ∃ r, u.safety.inbox = s.safety.inbox ++ [r] ∧ r.kind = 0x16)) ∧
    (∀ (stack : BitVec 1) (temp : BitVec 8), stackOk s.part stack.toNat = true →
      let pg := pHBMS stack.toNat
      let high := if bit s.hbm.high stack.toNat then decide (82 ≤ temp.toInt) else decide (85 < temp.toInt)
      Completes (.hbmTempRead stack temp) s (fun u => u.reg pg 0x8004 = w32 (temp.toNat + b2n high * 0x100) ∧
        bit u.hbm.high stack.toNat = high ∧ u.reg pRST (0x8010 + 4 * (16 + stack.toNat)) = w32 (0x80000000 + temp.toNat) ∧
        (95 < temp.toInt → bit (u.reg pg 0x20) 8 = true) ∧ u.mem = s.mem) ∧
      (105 ≤ ((s.reg pg 0x8004).setWidth 8).toInt → Completes (.hbmTempFault stack) s (fun u =>
        (∃ r, u.safety.inbox = s.safety.inbox ++ [r] ∧ r.kind = 0x13) ∧ u.regs = s.regs ∧ u.mem = s.mem))) ∧
    (∀ (addr : BitVec 40) (a : Nat), hbmServes s = true → bit (s.reg pHBM 0x100) 0 = true → hbmOff s.part addr.toNat 1 = some a → s.poison = [] →
      s.hbm.scrubPos ≤ a / 32 → Completes (.hbmScrubPass addr 0) s (fun u =>
        u.reg64 pHBM 0xA0E0 = s.reg64 pHBM 0xA0E0 + w64 (a / 32 + 1 - s.hbm.scrubPos) ∧ u.mem = s.mem ∧
        (a / 32 ≠ bursts s.part - 1 → u.hbm.scrubPos = a / 32 + 1) ∧
        (a / 32 = bursts s.part - 1 → u.hbm.scrubPos = 0 ∧ u.reg (pHBMS 0) 0x801C = satAdd (s.reg (pHBMS 0) 0x801C) 1))) ∧
    (∀ (flow : BitVec 20) (p : PktId) (k : Packet), s.pkt p = some k → k.noFlow = false → k.flow = flow → k.st = .bound ∨ k.st = .committed →
      k.hasSnap = false →
      Completes (.flowFillComplete flow false) s (fun u => flow.toNat ∈ u.hbm.quarantined ∧
        ∃ k', u.pkt p = some k' ∧ k'.hasSnap = true ∧ k'.ctxLost = true) ∧
      (s.poisoned (hbmA (s.flowOff flow.toNat)) 256 = false →
        bit (s.reg pHBM 0x110) 0 = true ∨ (s.hbm.lines.filter (fun l => l.flow % 8192 == flow.toNat % 8192)).length < 16 →
        Completes (.flowFillComplete flow true) s (fun u => u.mem = s.mem ∧ u.reg64 pHBM 0x8018 = s.reg64 pHBM 0x8018 + 1 ∧
          ∃ k', u.pkt p = some k' ∧ k'.hasSnap = true ∧ k'.snap = granulesOf (s.bytes (hbmA (s.flowOff flow.toNat)) 256)))) ∧
    (∀ flow : BitVec 20, flow.toNat ∈ s.hbm.quarantined → Completes (.quarantineScan flow) s (fun u =>
      (∀ i e, (i, e) ∈ s.cls.em → e.valid = true → e.flow = flow → (u.emSlot i).quarantine = true) ∧ u.hbm = s.hbm ∧ u.mem = s.mem)) ∧
    (s.mayCommand req pHBM 0x8104 0x8108 = true →
      let ports := (rangeFrom 0 16).filter (fun n => bit (s.reg pHBM 0x8100) n)
      (ports = [] → Completes (.hbmFence req) s (fun u => u.doneWith pHBM 0x8108 .badArg ∧ u.hbm = s.hbm)) ∧
      (ports ≠ [] → (∀ n ∈ ports, clientPresent s.part n = true) →
        ((∀ n ∈ ports, untilWrite (s.portQ n) = 0) → Completes (.hbmFence req) s (fun u => u.doneWith pHBM 0x8108 .ok ∧ u.hbm = s.hbm)) ∧
        (∀ n, n ∈ ports → untilWrite (s.portQ n) ≠ 0 → Completes (.hbmFence req) s (fun u =>
          u.reg pHBM 0x8108 = 0x40000000 ∧ (n, untilWrite (s.portQ n)) ∈ u.hbm.fence ∧ u.hbm.ports = s.hbm.ports ∧ u.mem = s.mem)))) ∧
    (s.mayCommand req pHBM 0x8204 0x8208 = true → hbmServes s = true → s.modeNow ≠ .boot → s.modeNow ≠ .zeroize →
      s.rfld pHBM 0x8200 19 0 < Config.flows s.part →
      let f := s.rfld pHBM 0x8200 19 0
      let x := hbmA (s.flowOff f)
      (s.pinned f = true → Completes (.writeContext req) s (fun u => u.doneWith pHBM 0x8208 .busy ∧ u.mem = s.mem ∧ u.hbm = s.hbm)) ∧
      (s.pinned f = false → Completes (.writeContext req) s (fun u => u.doneWith pHBM 0x8208 .ok ∧ f ∉ u.hbm.quarantined ∧
        u.bytes x 256 = wordsBytes ((rangeFrom 0 64).map (fun i => s.reg pHBM (0x9100 + 4 * i))) ∧
        (∀ l ∈ u.hbm.lines, l.flow ≠ f) ∧ (∀ b, b < x ∨ x + 256 ≤ b → u.byte b = s.byte b))) ∧
      (s.flowLine f = none → s.poisoned x 256 = false → Completes (.readContext req) s (fun u => u.doneWith pHBM 0x8208 .ok ∧
        (∀ i, i < 64 → u.reg pHBM (0x9100 + 4 * i) = w32 (leNat (Machine.slice (s.bytes x 256) (4 * i) 4))) ∧ u.mem = s.mem ∧ u.hbm = s.hbm))) ∧
    (s.mayWrite req pHBM 0x9020 = true → s.hbm.quar.recs ≠ [] → Completes (.hbmQuarPop req) s (fun u =>
      u.hbm.quar.recs = s.hbm.quar.recs.drop 1 ∧ u.regs = s.regs ∧ u.mem = s.mem)) ∧
    (∀ value : W64, s.mayWrite req pHBM 0x108 = true →
      let b := value &&& 0xFFF0000000
      (s.modeNow = .configure ∨ req = .loader → hbmOff s.part b.toNat (Config.flows s.part * 256) ≠ none →
        Completes (.hbmFlowBaseWrite req value) s (fun u => u.reg64 pHBM 0x108 = b ∧ u.hbm.lines = [] ∧ u.mem = s.mem)) ∧
      (s.modeNow ≠ .configure → req ≠ .loader → (∀ t, req ≠ .core t) → Completes (.hbmFlowBaseWrite req value) s (fun u =>
        u.reg64 pHBM 0x108 = s.reg64 pHBM 0x108 ∧ u.reg pMODE 0x8010 = satAdd (s.reg pMODE 0x8010) 1 ∧ u.hbm = s.hbm ∧ u.mem = s.mem)))

/-- An admitted frame joins its queue or is dropped and counted; a MAC sends the head that qualifies, counted and stamped at its end;
deliveries, gate lists, verification, recovery resets, table passes, store writes and timestamp pops change what this statement says of
each. (Drawn from R393-R426; where the readings of log entries 39 and 101 to 107 enter, they are the model's.) -/
def Obligations.TrafficCommands : Prop :=
  ∀ (s : State) (req : Requester), s.live = true → s.inv →
    (∀ (c : TmCopy) (r : List TmCopy), s.tmInbox = c :: r →
      let p := c.egress.toNat
      let q := c.queue.toNat
      (c.handle = none → s.portUp p = true → s.storeEntries < 262144 → ((s.port p).queue q).length < fld (s.qcfg p q) 15 0 →
        (c.yellow = true → ((s.port p).queue q).length < fld (s.qcfg p q) 31 20 * 16) → c.sched = none → bit (s.qcfg p q) 18 = false →
        Completes .tmAdmit s (fun u => u.tmInbox = r ∧ (u.port p).queue q = (s.port p).queue q ++ [c] ∧ u.mem = s.mem ∧ u.regs = s.regs ∧
          u.cells = s.cells ∧ (∀ m, m ≠ p → u.port m = s.port m))) ∧
      (c.handle = none → s.portUp p = false → c.mirror = none → c.inPort ≠ 0x7FF → Completes .tmAdmit s (fun u => u.tmInbox = r ∧
        u.win p (0xA20C + q * 0x20) = satAdd (s.win p (0xA20C + q * 0x20)) 1 ∧ u.ports = s.ports)) ∧
      (∀ h : BitVec 16, c.handle = some h → natFld (s.tsnEntry 1 h.toNat) 18 18 = 1 → natFld (s.tsnEntry 1 h.toNat) 15 0 = 0 →
        let a := tsnStoreA 4 (h.toNat * 32 + 16)
        Completes .tmAdmit s (fun u => u.tmInbox = r ∧ u.num a 4 = min (s.num a 4 + 1) (256 ^ 4 - 1) ∧ u.ports = s.ports ∧
          (∀ b, b < a ∨ a + 4 ≤ b → u.byte b = s.byte b)))) ∧
    (∀ port : Port,
      let p := port.toNat
      let w := (rangeFrom 0 8).foldl (fun s q => dropHeads p q ((s.port p).queue q).length s) (settleCredits p s)
      isLine p = true → s.portUp p = true → s.noFramesOut = false → s.isFmxPort p = false →
        (w.pickQueue p = none → exec (.txStart port) s = .next w) ∧
        (∀ q c, w.pickQueue p = some (q, c) → (w.port p).tx = none → Completes (.txStart port) s (fun u =>
          (∃ t, (u.port p).tx = some t ∧ t.copy = c ∧ t.queue = q ∧ t.data = w.sendBytes c (Int.ofNat w.totalNs + w.txAdj p) ∧ t.sent = 0) ∧
          (u.port p).queue q = ((w.port p).queue q).drop 1 ∧ u.mem = w.mem ∧ u.cells = w.cells ∧ (∀ m, m ≠ p → u.port m = w.port m)))) ∧
    (∀ (port : Port) (t : TxNow), (s.port port.toNat).tx = some t → s.copyCheck t.copy = some true → t.bad = false →
      s.isFmxPort port.toNat = false →
      Completes (.txComplete port) s (fun u => Out.frame port t.data false ∈ u.outs ∧ (u.port port.toNat).tx = (s.port port.toNat).held ∧
        (u.port port.toNat).held = none ∧
        u.reg64 (portPage port.toNat) (statBase port.toNat + 0x40) =
          s.reg64 (portPage port.toNat) (statBase port.toNat + 0x40) + w64 t.data.length ∧
        (∀ m, m ≠ port.toNat → u.port m = s.port m))) ∧
    (∀ (queue : BitVec 3) (c : TmCopy) (r : List TmCopy), (s.port 1344).queue queue.toNat = c :: r → s.copyCheck c = some true →
      let t := 2048 + s.rfld pTM (0x110 + queue.toNat * 4) 2 0
      s.mailRoom t = true → Completes (.telDelivery queue) s (fun u => (u.port 1344).queue queue.toNat = r ∧ u.cells = s.cells ∧
        (u.thr t).mbox = (s.thr t).mbox ++
          [{ sender := 0, words := (rangeFrom 0 4).map (fun i => w64 (leNat (Machine.slice (s.deliveredDesc c) (8 * i) 8))) }])) ∧
    (∀ port : Port, schedPort port.toNat = true →
      let p := port.toNat
      let g := (s.port p).gcl
      let kept (u : State) : Prop := u.mem = s.mem ∧ u.regs = s.regs ∧ ∀ m, m ≠ p → u.port m = s.port m
      (g.running = true → g.gap = false → g.entry + 1 < gclLen g.list → g.endAt < g.cycleEnd → Completes (.gclEntryEnd port) s (fun u =>
        (u.port p).gcl.entry = g.entry + 1 ∧ (u.port p).gcl.gates = entryGates (s.gclEntry g.list (g.entry + 1)) ∧
        (u.port p).gcl.cycleEnd = g.cycleEnd ∧ kept u)) ∧
      (g.running = true → g.gap = false → gclLen g.list ≤ g.entry + 1 → g.mark = none → g.pendingChange = false →
        (g.cycleEnd - g.base) % Int.ofNat g.cycle.toNat = 0 → Completes (.gclEntryEnd port) s (fun u =>
          (u.port p).gcl.entry = 0 ∧ (u.port p).gcl.gates = entryGates (s.gclEntry g.list 0) ∧
          (u.port p).gcl.cycleEnd = g.cycleEnd + Int.ofNat g.cycle.toNat ∧ u.mem = s.mem)) ∧
      (g.pendingChange = true → Completes (.gclChangeTime port) s (fun u =>
        (u.port p).gcl.list = s.win p 0xA114 ∧ (u.port p).gcl.cycle = s.win p 0xA10C ∧ (u.port p).gcl.ext = s.win p 0xA110 ∧
        (u.port p).gcl.pendingChange = false ∧ (u.port p).gcl.running = true ∧ (u.port p).gcl.entry = 0 ∧
        (u.port p).gcl.gates = entryGates (s.gclEntry (s.win p 0xA114) 0) ∧ kept u)) ∧
      (∀ ok, s.preemptible p = true → bit (s.portCfg p) 2 = true → bit (s.portCfg p) 3 = false → Completes (.verifyResult port ok) s (fun u =>
        (u.port p).verified = ok ∧ u.win p 0xA314 = (if ok then s.win p 0xA314 else satAdd (s.win p 0xA314) 1) ∧ u.mem = s.mem))) ∧
    (s.mayWrite req pTM 0xA11C = true → s.locked pTM = false → schedPort s.tmSel = true → s.portPresent s.tmSel = true →
      let p := s.tmSel
      let base := ((s.win p 0xA104).toNat * 0x100000000 + (s.win p 0xA100).toNat) * 1000000000 + (s.win p 0xA108).toNat
      (s.adminOk p = false → Completes (.configChange req) s (fun u => u.win p 0xA120 = 0x80000004 ∧ u.ports = s.ports ∧ u.mem = s.mem)) ∧
      (s.adminOk p = true → Completes (.configChange req) s (fun u => u.win p 0xA120 = 0x80000000 ∧ (u.port p).gcl.pendingChange = true ∧
        (s.totalNs < base → (s.win p 0xA108).toNat < 1000000000 → u.changeTime p = Int.ofNat base) ∧ u.mem = s.mem))) ∧
    (∀ index : BitVec 16, (s.stream index.toNat).recUsed = true → Completes (.recoveryReset index) s (fun u =>
      let a := tsnStoreA 4 (index.toNat * 32 + 14)
      (u.stream index.toNat).recUsed = false ∧ (u.stream index.toNat).hist = [] ∧ u.num a 2 = min (s.num a 2 + 1) 65535 ∧
      (∀ b, b < a ∨ a + 2 ≤ b → u.byte b = s.byte b))) ∧
    (∀ (page : Page) (off : Off) (v : Word), 0x04A ≤ page.toNat → page.toNat ≤ 0x04C → 0xC000 ≤ off.toNat → off.toNat < 0xE000 →
      off.toNat % 4 = 0 → s.mayWrite req page.toNat off.toNat = true → s.locked pTM = false →
      let n := page.toNat - 0x049
      let a := s.tsnAddr n off.toNat
      a + 4 ≤ tsnSize n →
        (n = 1 → (putNum (tsnStoreA n a) 4 v.toNat s).targetAbsent ((putNum (tsnStoreA n a) 4 v.toNat s).tsnEntry 1 (a / 16)) = false) →
        Completes (.streamEntryWrite req page off v) s (fun u => u.num (tsnStoreA n a) 4 = v.toNat ∧
          (∀ b, b < tsnStoreA n a ∨ tsnStoreA n a + 4 ≤ b → u.byte b = s.byte b) ∧ (n = 1 → (u.stream (a / 16)).genSeq = 0) ∧
          (n = 2 → (u.stream (a / 16)).live = false) ∧ (n = 3 → (u.stream (a / 16)).recUsed = false) ∧ u.regs = s.regs)) ∧
    Completes .tmTblPass s (fun u => u.reg pTM 0x8004 = crc32c s.tmTblBytes ∧ u = { s with regs := u.regs }) ∧
    (∀ piste : BitVec 2, s.mayWrite req (pTSN 5) (0x9010 + piste.toNat * 0x40) = true → (s.piste piste.toNat).tsRecs.recs ≠ [] →
      Completes (.tsPop req piste) s (fun u => (u.piste piste.toNat).tsRecs.recs = (s.piste piste.toNat).tsRecs.recs.drop 1 ∧
        u.regs = s.regs ∧ u.mem = s.mem ∧ (∀ m, m ≠ piste.toNat → u.piste m = s.piste m)))

/-- SET, STEP and SET_AT_PPS are taken and run on, a bad argument is refused; TIME_ADJ keeps its range; an accepted PPS edge is captured, sets
the time that waits for it, and a bouncing one is counted; the output rises and falls; a reference is lost and returns. (Drawn from
R414-R418, R424, R518; the instant at which a time is taken is log entry 108, the model's reading.) -/
def Obligations.TimeBaseCommands : Prop :=
  ∀ (s : State) (req : Requester), s.live = true →
    (s.mayCommand req pTIME 0x810C 0x8110 = true → s.modeNow ≠ .boot → s.modeNow ≠ .zeroize →
      let d := s.argNs.toInt
      let after := Int.ofNat s.frac + d * 0x100000000
      let begun (u : State) : Prop := u.reg pTIME 0x8110 = 0x40000000 ∧
        u = { s with regs := u.regs, time := { s.time with nextSet := u.time.nextSet, atPps := u.time.atPps } }
      let refused (u : State) : Prop := u.doneWith pTIME 0x8110 .badArg ∧ u.time = s.time ∧ u.mem = s.mem
      (s.argNs.toNat < 1000000000 → Completes (.set req) s (fun u => begun u ∧ u.time.nextSet = some (.set s.argSec s.argNs) ∧
        u.time.atPps = s.time.atPps)) ∧
      (1000000000 ≤ s.argNs.toNat → Completes (.set req) s refused ∧ Completes (.setAtPps req) s refused) ∧
      (-1000000000 ≤ d → d ≤ 1000000000 → 0 ≤ after → after < Int.ofNat fracWrap →
        Completes (.timeStep req) s (fun u => begun u ∧ u.time.nextSet = some (.step d) ∧ u.time.atPps = s.time.atPps)) ∧
      (d < -1000000000 ∨ 1000000000 < d → Completes (.timeStep req) s refused) ∧
      (s.argNs.toNat < 1000000000 → bit (s.reg pTIME 0x100) 1 = true → Completes (.setAtPps req) s (fun u =>
        begun u ∧ u.time.atPps = some (s.argSec, s.argNs) ∧ u.time.nextSet = s.time.nextSet))) ∧
    (∀ v : Word, s.mayWrite req pTIME 0x8010 = true →
      (-4294967 ≤ v.toInt → v.toInt ≤ 4294967 → Completes (.timeAdjWrite req v) s (fun u =>
        u.reg pTIME 0x8010 = v ∧ u = { s with regs := u.regs })) ∧
      (v.toInt < -4294967 ∨ 4294967 < v.toInt → (∀ t, req ≠ .core t) → Completes (.timeAdjWrite req v) s (fun u =>
        u.reg pTIME 0x8010 = s.reg pTIME 0x8010 ∧ fld (u.reg pTIME 0x14) 15 12 = 4 ∧ u.reg pTIME 0x50 = satAdd (s.reg pTIME 0x50) 1))) ∧
    (bit (s.reg pTIME 0x100) 1 = true →
      let captured (u : State) : Prop := u.reg pTIME 0x8020 = s.time.ns ∧ u.reg pTIME 0x8024 = w32 s.time.sec.toNat ∧
        u.reg pTIME 0x8028 = w32 (s.time.sec.toNat / 0x100000000) ∧ u.reg pTIME 0x8034 = s.reg pTIME 0x8034 + 1 ∧
        bit (u.reg pTIME 0x20) 8 = true ∧ u.time.lastPps = some s.time.ticks ∧ u.mem = s.mem
      (∀ t, s.time.lastPps = some t → s.time.ticks < t + 1000000 → Completes .ppsInEdge s (fun u =>
        u.reg pTIME 0x8038 = satAdd (s.reg pTIME 0x8038) 1 ∧ u = { s with regs := u.regs })) ∧
      ((∀ t, s.time.lastPps = some t → t + 1000000 ≤ s.time.ticks) →
        (s.time.atPps = none → Completes .ppsInEdge s (fun u => captured u ∧ u.time.sec = s.time.sec ∧ u.time.ns = s.time.ns)) ∧
        (∀ sec ns, s.time.atPps = some (sec, ns) → ns.toNat < 1000000000 → Completes .ppsInEdge s (fun u => captured u ∧
          u.time.sec = sec ∧ u.time.ns = ns ∧ u.time.frac = 0 ∧ u.time.atPps = none ∧ u.doneWith pTIME 0x8110 .ok ∧
          u.reg pTIME 0x8030 = satAdd (s.reg pTIME 0x8030) 1)))) ∧
    (bit (s.reg pTIME 0x100) 0 = true → exec .ppsOutRise s = .next { s with time := { s.time with ppsOut := true } }) ∧
    exec .ppsOutFall s = .next { s with time := { s.time with ppsOut := false } } ∧
    (∀ input : BitVec 5, refPresent s.part input.toNat = true →
      exec (.refClockReturn input) s = .next { s with refOk := setBit s.refOk input.toNat true } ∧
      (bit s.refOk input.toNat = true → Completes (.refClockLoss input) s (fun u => bit u.refOk input.toNat = false ∧
        (s.refOn input.toNat = true → u.reg pCLK 0x8008 = satAdd (s.reg pCLK 0x8008) 1 ∧ bit (u.reg pCLK 0x20) 8 = true) ∧
        (input.toNat = 25 → u.host.linkUp = false) ∧
        (∀ p, input.toNat < 25 → isLine p = true → refInput p = input.toNat → (u.port p).state = 1))))

/-- A tamper event latches its cause, is counted and heads for ZEROIZE; a wipe zeroes its unit or is itself a tamper event; the erasure ends;
each LIFE command checks its conditions and begins its fuses, draws a nonce or acts on a signature; fuses programmed act. (Drawn from
R351, R352, R490-R496; the codes and byte orders of log entries 36, 118 and 119 are the model's.) -/
def Obligations.LifeCycleCommands : Prop :=
  ∀ (s : State) (req : Requester), s.mode.powered = true → s.inv →
    (∀ cause : TamperCause,
      let i := match cause with
        | .pin => 0
        | .voltage => 1
        | .clock => 2
        | .wipeFail => 3
      let on := match cause with
        | .pin => s.tamperEn 0
        | .voltage => s.tamperEn 1
        | .clock => s.tamperEn 1
        | .wipeFail => !bit s.life.tamper 3
      (on = true → Completes (.tamperEvent cause) s (fun u => bit u.life.tamper i = true ∧ u.reg pLIFE 0x8034 = satAdd (s.reg pLIFE 0x8034) 1 ∧
        u.keyStores = [] ∧ (s.modeNow ≠ .reset → s.modeNow ≠ .zeroize → u.transTarget = some .zeroize) ∧ u.life.keys = s.life.keys)) ∧
      (on = false → Completes (.tamperEvent cause) s (fun u => u.life.tamper = s.life.tamper ∧ (cause ≠ .pin → u = s) ∧
        (cause = .pin → u = { s with life := { s.life with tamperPin := false } })))) ∧
    (∀ (unit : BitVec 6) (w : WipeState), sfind s.wipes unit.toNat = some w → w.running = true → unit.toNat ≤ 32 →
      Completes (.wipeDone unit true) s (fun u => sfind u.wipes unit.toNat = some { running := false, done := true, fail := w.fail } ∧
        (∀ b, (if unit.toNat = 32 then telSecA 0 ≤ b ∧ b < telSecA 0 + 0x40000
          else clusterA unit.toNat 0xF0000 ≤ b ∧ b < clusterA unit.toNat 0xF0000 + 0x10000) → u.byte b = 0)) ∧
      Completes (.wipeDone unit false) s (fun u => ∃ r ∈ u.safety.inbox, r.kind = 0x19)) ∧
    (∀ ok : Bool, s.modeNow = .zeroize → s.life.zeroing = true → Completes (.zeroizeDone ok) s (fun u =>
      u.reg pLIFE 0x8050 = (if ok then 1 else 3) ∧ u.life.zeroing = false ∧ u.cells = [] ∧ u.pkts = [] ∧
      (∀ b, erased b = true → u.byte b = memDefault b) ∧ (∀ b, erased b = false → u.byte b = s.byte b))) ∧
    (s.mayCommand req pLIFE 0x8104 0x8108 = true →
      let st := s.life.state.toNat
      let slot := s.lifeSlot
      let begun (code sl : Nat) (u : State) : Prop := u.reg pLIFE 0x8108 = 0x40000000 ∧ u.life.op = some (code, sl) ∧ u.life.state = s.life.state ∧
        u.mem = s.mem
      let failed (u : State) : Prop := u.doneWith pLIFE 0x8108 .badArg ∧ u.life = s.life ∧ u.mem = s.mem
      let others := (rangeFrom 0 4).any (fun i => i != slot && s.slotGood i)
      let fresh := (s.lifeBytes 0x8040 4).all (· == 0) = false
      let signed (tag : Nat) := s.keyUsable slot && ecdsaVerify (s.pubKey slot) (s.lifeBytes 0x9100 24) (sha384 (s.authBytes tag))
      let unsigned (u : State) : Prop := u.doneWith pLIFE 0x8108 .notOwner ∧ u.reg pLIFE 0x8038 = satAdd (s.reg pLIFE 0x8038) 1 ∧
        u.life = s.life ∧ ∀ k, k < 4 → u.reg pLIFE (0x8040 + 4 * k) = 0
      (s.modeNow = .configure ∨ s.modeNow = .maintenance →
        (st ≤ 1 → bit s.life.programmed slot = false → p384Point (s.lifeBytes 0x9000 24) = true → Completes (.keyProg req) s (fun u =>
          begun 1 slot u ∧ sget [] u.life.keys slot = s.lifeBytes 0x9000 24)) ∧
        (1 < st ∨ bit s.life.programmed slot = true ∨ p384Point (s.lifeBytes 0x9000 24) = false → Completes (.keyProg req) s failed) ∧
        (st ≤ 3 → bit s.life.programmed slot = true → others = true → Completes (.keyRevoke req) s (begun 2 slot)) ∧
        (others = false → Completes (.keyRevoke req) s failed) ∧
        (st = 0 → s.life.programmed ≠ 0 → Completes (.provision req) s (begun 3 0)) ∧
        (st ≠ 0 → Completes (.provision req) s failed) ∧
        (st = 1 → s.boot.verified = true → Completes (.toField req) s (begun 4 0)) ∧
        (st = 2 ∨ st = 3 → Completes (.nonce req) s (fun u => u.doneWith pLIFE 0x8108 .ok ∧
          (∀ k, k < 4 → u.reg pLIFE (0x8040 + 4 * k) = Config.random (s.free + k)) ∧ u.life = s.life ∧ u.mem = s.mem)) ∧
        (st = 2 → fresh →
          (signed 0x5254524E = true → Completes (.toReturn req) s (begun 6 0)) ∧ (signed 0x5254524E = false → Completes (.toReturn req) s unsigned) ∧
          (signed 0x44425547 = true → Completes (.debugUnlock req) s (fun u => u.doneWith pLIFE 0x8108 .ok ∧ u.life.unlocked = true ∧
            u.debuggerOpen = true)) ∧
          (signed 0x44425547 = false → Completes (.debugUnlock req) s unsigned)) ∧
        (st < 2 → Completes (.scrap req) s (begun 7 0)) ∧
        (st = 2 ∨ st = 3 → fresh → signed 0x53435250 = true → Completes (.scrap req) s (begun 7 0))) ∧
      (s.modeNow ≠ .configure → s.modeNow ≠ .maintenance →
        Completes (.keyProg req) s (fun u => u.doneWith pLIFE 0x8108 .stateRefused ∧ u.life = s.life) ∧
        Completes (.scrap req) s (fun u => u.doneWith pLIFE 0x8108 .stateRefused ∧ u.life = s.life))) ∧
    (∀ code slot : Nat, s.life.op = some (code, slot) → s.life.opRefused = false → slot < 4 → Completes .fuseProgrammingDone s (fun u =>
      u.doneWith pLIFE 0x8108 .ok ∧ u.life.op = none ∧ (code = 1 → bit u.life.programmed slot = true) ∧ (code = 2 → bit u.life.revoked slot = true) ∧
      (3 ≤ code → u.life.state = BitVec.ofNat 3 (max s.life.state.toNat (fuseGroup code)) ∧ sget 0 u.life.fuses (fuseGroup code) = 8)))

/-- HALT, RESUME, STEP and ABANDON act on the thread of DBG_ARG and complete with its count, a step that has not retired times out, traces
start and stop, and each TAP instruction selects its register, the ones that take hold of the pins in RESET only. (Drawn from R539-R549;
the codes of log entry 126 are the model's reading.) -/
def Obligations.DebugCommands : Prop :=
  ∀ (s : State) (req : Requester),
    (s.mayCommand req pDBG 0x8104 0x8108 = true → s.dbgThread / 512 < Config.pistes s.part → s.debuggerOpen = true →
      let t := s.dbgThread
      let th := s.thr t
      let done (u : State) (n : Nat) : Prop := u.doneWith pDBG 0x8108 .ok ∧ u.reg pDBG 0x810C = w32 n
      let others (u : State) : Prop := ∀ m, m ≠ t → u.thr m = s.thr m
      (debugMode s = true → s.dbgScope = 0 →
        (haltable th = true → Completes (.halt req) s (fun u => done u 1 ∧ (u.thr t).st = .halted ∧ (u.thr t).prev = th.st ∧
          (u.thr t).pc = th.pc ∧ (u.thr t).g = th.g ∧ u.reg pDBG 0x8008 = w32 (0x80000000 + t) ∧ others u ∧
          ((s.piste (t / 512)).traceRun = false → u.mem = s.mem))) ∧
        (haltable th = false → th.st ≠ .halted → Completes (.halt req) s (fun u =>
          u.doneWith pDBG 0x8108 .busy ∧ u.reg pDBG 0x810C = 0 ∧ u.threads = s.threads ∧ u.mem = s.mem)) ∧
        (th.st = .halted → th.prev ≠ .waiting → th.late = none →
          Completes (.dbgResume req) s (fun u => done u 1 ∧ u.thr t = { th with st := th.prev } ∧ others u ∧ u.mem = s.mem) ∧
          Completes (.step req) s (fun u => u.reg pDBG 0x8108 = 0x40000000 ∧ u.reg pDBG 0x810C = 1 ∧
            u.thr t = { th with st := th.prev, stepping := true, skipBp := true } ∧ others u ∧ u.mem = s.mem)) ∧
        (th.st ≠ .halted → Completes (.dbgResume req) s (fun u => u.doneWith pDBG 0x8108 .busy ∧ u.threads = s.threads) ∧
          Completes (.step req) s (fun u => u.doneWith pDBG 0x8108 .busy ∧ u.threads = s.threads)) ∧
        (∀ i, th.st = .halted → th.item = some (.pkt i) → Completes (.abandon req) s (fun u => done u 1 ∧ (u.thr t).item = none ∧ others u ∧
          u.mem = s.mem ∧ (∀ k, s.held t = some (i, k) → k.st = .bound →
            ∃ k', u.pkt i = some k' ∧ k'.st = .committed ∧ k'.holder = none ∧ k'.disp = 0)))) ∧
      (debugMode s = false → Completes (.halt req) s (fun u => u.doneWith pDBG 0x8108 .stateRefused ∧ u.threads = s.threads)) ∧
      (traceMode s = true → Completes (.traceStart req) s (fun u => u.doneWith pDBG 0x8108 .ok ∧ (u.piste (t / 512)).traceRun = true ∧
        u.threads = s.threads ∧ u.mem = s.mem)) ∧
      Completes (.traceStop req) s (fun u => u.doneWith pDBG 0x8108 .ok ∧ (u.piste (t / 512)).traceRun = false ∧
        u.threads = s.threads ∧ u.mem = s.mem)) ∧
    (∀ t : Tid, s.live = true → bit (s.reg pDBG 0x8108) 30 = true → (s.thr t.toNat).st ≠ .halted → Completes (.stepTimeout t) s (fun u =>
      u.doneWith pDBG 0x8108 .timeout ∧ u.threads = s.threads ∧ u.mem = s.mem)) ∧
    (s.mode.powered = true → ∀ cells : Bytes,
      let pins (m : TapMode) : State := { s with tap := if s.mode.inReset then m else .bypass }
      exec .tapReset s = .next { s with tap := .idle } ∧
      exec .idcode s = .next { s with tap := .idcode, outs := .tdo s.idcode :: s.outs } ∧
      exec .bypass s = .next { s with tap := .bypass } ∧
      exec (.samplePreload cells) s = .next { s with tap := .sample, boundary := cells } ∧
      exec .extest s = .next (pins .extest) ∧ exec .clamp s = .next (pins .clamp) ∧ exec .highz s = .next (pins .highz))

/-- The oldest record is counted, classed and queued, and its class reacts; each monitor posts its record; kicks, safety inputs and PENNANT
follow their rules; POP removes the head of the queue. (Drawn from R459-R479, R527; the choices of log entries 112 to 117 are the
model's.) -/
def Obligations.SafetyMonitors : Prop :=
  ∀ s : State, s.monitors = true →
    let posts (u : State) (kind : Byte) : Prop := ∃ r, u.safety.inbox = s.safety.inbox ++ [r] ∧ r.kind = kind
    let silent (u : State) : Prop := u.safety.inbox = s.safety.inbox
    (∀ (r : SafeRec) (rest : List SafeRec), s.safety.inbox = r :: rest → r.kind ≠ 0x03 → Completes .safetyRecord s (fun u =>
      let cls := recClass s r 0
      u.reg pSAFE 0x8008 = satAdd (s.reg pSAFE 0x8008) 1 ∧ u.safety.lastClass = BitVec.ofNat 2 cls ∧
      (s.safety.queue.recs.length < 256 → ∃ q, u.safety.queue.recs = s.safety.queue.recs ++ [q] ∧ q.kind = r.kind ∧ q.d0 = r.d0 ∧ q.d1 = r.d1 ∧
        q.cls = BitVec.ofNat 2 cls) ∧
      (cls = 0 → u.mode = s.mode) ∧ (cls = 2 → s.pisteUp r.piste = true → bit u.mode.lost r.piste = true) ∧
      (cls = 3 → r.kind ≠ 0x14 → safeable s.modeNow = true → s.mode.trans = none →
        u.transTarget = some .safeState ∧ u.reg pSAFE 0x8004 = w32 r.kind.toNat))) ∧
    (s.injWaits 7 = false → Completes (.scCompare true) s (posts · 0x18) ∧ exec (.scCompare false) s = .next s) ∧
    (∀ (clk : BitVec 4) (count : BitVec 20), clk.toNat < 11 → s.injWaits 4 = false →
      let e := clockExpect.getD clk.toNat 0
      let bad := decide (count.toNat * 50 < e * 49) || decide (e * 51 < count.toNat * 50)
      Completes (.clockWindow clk count) s (fun u => u.reg pCLK (0x8010 + 4 * clk.toNat) = w32 count.toNat ∧
        bit (u.reg pSAFE 0x8408) clk.toNat = bad ∧ (bad = true → posts u 0x11) ∧ (bad = false → silent u) ∧ u.mem = s.mem)) ∧
    (∀ (rail : BitVec 4) (high : Bool), rail.toNat < 9 → Completes (.voltageDeparture rail high) s (fun u =>
      bit (u.reg pSAFE 0x8400) rail.toNat = true ∧ posts u 0x12 ∧ u.mem = s.mem)) ∧
    (∀ sensor temp, Completes (.dieTempRead sensor temp) s (fun u =>
      u.reg pRST (0x8010 + 4 * sensor.toNat) = w32 (0x80000000 + temp.toNat) ∧ (110 ≤ temp.toInt → posts u 0x13) ∧
      (temp.toInt < 110 → silent u) ∧ (Int.ofNat (s.rfld pRST 0x100 7 0) ≤ temp.toInt → bit (u.reg pRST 0x20) 8 = true) ∧ u.mem = s.mem)) ∧
    (s.safety.trip = false → Completes .thermtrip s (fun u => u.safety.trip = true ∧ posts u 0x13 ∧ u.regs = s.regs ∧ u.mem = s.mem)) ∧
    (∀ (pair : BitVec 1) (outcome : BitVec 2), s.live = true → pairOk s.part pair.toNat = true → (s.xchk pair.toNat).selfFail = false →
      s.modeNow ≠ .boot → s.modeNow ≠ .fallback → s.modeNow ≠ .zeroize → Completes (.xchkSelfcheck pair outcome) s (fun u =>
        u.reg pSAFE 0x8018 = s.reg pSAFE 0x8018 + 2 ∧ (outcome = 0 → silent u) ∧ (outcome = 1 ∨ outcome = 2 → posts u 0x17) ∧ u.mem = s.mem)) ∧
    (∀ (n : Nat) (v : Word),
      let w := s.wd n
      let age := s.time.ticks - w.since
      let due := if w.first then 10000000 else s.wdTimeout
      let early := !w.first && decide (age * 4 < s.wdTimeout)
      let kicks (i : Instr) : Prop := w.armed = true → age ≤ due →
        (early = false → v = w.expected → Completes i s (fun u => silent u ∧ u.regs = s.regs ∧ u.mem = s.mem ∧
          u.wd n = { armed := true, first := false, expected := if w.expected = 0xA55A then 0x5AA5 else 0xA55A, since := s.time.ticks })) ∧
        (early = true ∨ v ≠ w.expected → Completes i s (fun u => u.wd n = .off ∧ posts u (if n < 4 then 0x0D else 0x0E)))
      (∀ t : BitVec 11, n < 4 → isSup t.toNat = true → tPiste t.toNat = n → s.mayWrite (.core t) (pPST n) 0x8200 = true →
        kicks (.pstWdKick (.core t) (BitVec.ofNat 2 n) v)) ∧
      (∀ (t : BitVec 3) (m : BitVec 1), n = 4 + m.toNat → t.toNat / 4 = m.toNat → s.mayWrite (.tel t) pSAFE (0x8040 + 4 * m.toNat) = true →
        kicks (.safeWdKickTel (.tel t) m v)) ∧
      (∀ k : BitVec 3, k.toNat = n → w.armed = true → Completes (.watchdogExpiry k) s (fun u => u.wd n = .off ∧
        posts u (if n < 4 then 0x0D else 0x0E) ∧ u.regs = s.regs ∧ u.mem = s.mem))) ∧
    (∀ a b : Bool, Completes (.safeInSample a b) s (fun u => u.safety.inA = a ∧ u.safety.inB = b ∧ u.safety.inSeen = true ∧
      (a = false → b = false → s.safety.inA = true ∨ s.safety.inB = true → posts u 0x14) ∧ (a = true ∨ b = true → silent u) ∧
      u.regs = s.regs ∧ u.mem = s.mem)) ∧
    (s.safety.inSeen = true → s.safety.inA ≠ s.safety.inB → Completes .safeInDisc s (fun u => u.safety.disc = true ∧ posts u 0x15 ∧
      u.regs = s.regs ∧ u.mem = s.mem)) ∧
    (s.pennantRuns = true → Completes .pennantEdge s (fun u => u.safety.pennantP = !s.safety.pennantP ∧ u.safety.pennantN = s.safety.pennantP ∧
      u.regs = s.regs ∧ u.mem = s.mem)) ∧
    (s.pennantRuns = false → exec .pennantEdge s = .next s) ∧
    (∀ req, s.mayWrite req pSAFE 0x9020 = true → s.safety.queue.recs ≠ [] → Completes (.safeRecPop req) s (fun u =>
      u.safety.queue.recs = s.safety.queue.recs.drop 1 ∧ u.regs = s.regs ∧ u.mem = s.mem))

/-- The rotation of core logic self-tests takes a core out, tests, retries, fails or skips it and moves on; an injection is accepted in the
bench modes, arms or posts its fault, and waits for its record. (Drawn from R468, R469, R479; which injections wait is log entry 116, the
model's reading.) -/
def Obligations.SelfTestsAndInjections : Prop :=
  ∀ s : State, s.live = true →
    let posts (u : State) (kind : Byte) : Prop := ∃ r, u.safety.inbox = s.safety.inbox ++ [r] ∧ r.kind = kind
    (∀ piste : BitVec 2, s.pisteUp piste.toNat = true →
      let p := piste.toNat
      let x := s.selfTest p
      let c := x.core.toNat
      let moved (u : State) : Prop := (u.selfTest p).core = x.core + 1 ∧ (u.selfTest p).active = false ∧ (u.selfTest p).offline = false ∧
        ∀ t ∈ coreThreads p c, (s.thr t).st = .offline → (s.thr t).prev = .stopped → (u.thr t).st = .stopped
      (s.testMode = true → x.active = false → Completes (.stSlotStart piste) s (fun u => u.selfTest p = { x with active := true } ∧
        u.regs = s.regs ∧ u.threads = s.threads ∧ u.mem = s.mem)) ∧
      (x.active = true → x.offline = false → s.coreIdle p c = true → Completes (.stCoreOffline piste) s (fun u =>
        u.selfTest p = { x with offline := true } ∧ u.mem = s.mem ∧
        (∀ t ∈ coreThreads p c, (u.thr t).st = .offline ∧ (u.thr t).prev = (s.thr t).st))) ∧
      (∀ sig : Word, x.offline = true →
        Completes (.stTestDone piste true sig) s (fun u => moved u ∧ sget 0 (u.selfTest p).skips c = 0 ∧ u.safety.inbox = s.safety.inbox) ∧
        (x.retried = false → Completes (.stTestDone piste false sig) s (fun u => u.selfTest p = { x with retried := true } ∧
          u.threads = s.threads ∧ u.regs = s.regs ∧ u.mem = s.mem)) ∧
        (x.retried = true → Completes (.stTestDone piste false sig) s (fun u => moved u ∧ posts u 0x0A ∧
          u.reg pSAFE (0x810C + p * 0x10) = w32 (0x80000000 + c)))) ∧
      (x.active = true → x.offline = false → sget 0 x.skips c + 1 < 8 → Completes (.stIdleTimeout piste) s (fun u => moved u ∧ posts u 0x0B ∧
        sget 0 (u.selfTest p).skips c = sget 0 x.skips c + 1 ∧ u.reg pSAFE (0x8104 + p * 0x10) = satAdd (s.reg pSAFE (0x8104 + p * 0x10)) 1))) ∧
    (∀ req, s.mayCommand req pSAFE 0x8304 0x8308 = true →
      let arg := s.reg pSAFE 0x8300
      let waits (u : State) (code : Nat) : Prop := u.reg pSAFE 0x8308 = 0x40000000 ∧ u.safety.inj = some (code, arg) ∧
        u.safety.injAt = s.time.ticks ∧ u.mem = s.mem
      (s.modeNow = .commission ∨ s.modeNow = .maintenance →
        (∀ g, s.injGraph = .ok g →
          Completes (.injTokenFlip req) s (fun u => waits u 1 ∧ (u.xchk (g / 128)).flip = some (BitVec.ofNat 8 g)) ∧
          Completes (.injTokenWithhold req) s (fun u => waits u 2 ∧ (u.xchk (g / 128)).withhold = some (BitVec.ofNat 8 g, none))) ∧
        (∀ st, s.injGraph = .error st → Completes (.injTokenFlip req) s (fun u => u.doneWith pSAFE 0x8308 st ∧ u.safety.inj = s.safety.inj)) ∧
        Completes (.injLockstep req) s (fun u => waits u 3 ∧ posts u 0x0F) ∧
        Completes (.injClock req) s (fun u => waits u 4 ∧ u.safety.inbox = s.safety.inbox) ∧
        (fld arg 3 0 < 9 → Completes (.injRail req) s (fun u => waits u 5 ∧ posts u 0x12)) ∧
        (9 ≤ fld arg 3 0 → Completes (.injRail req) s (fun u => u.doneWith pSAFE 0x8308 .badArg ∧ u.safety.inbox = s.safety.inbox)) ∧
        (bit arg 8 = true → Completes (.injWatchdog req) s (fun u => waits u 6 ∧ posts u 0x0E ∧ u.wd (4 + b2n (bit arg 9)) = .off)) ∧
        (bit arg 8 = false → fld arg 1 0 < Config.pistes s.part → Completes (.injWatchdog req) s (fun u => waits u 6 ∧ posts u 0x0D ∧
          u.wd (fld arg 1 0) = .off)) ∧
        Completes (.injScState req) s (fun u => waits u 7 ∧ u.safety.inbox = s.safety.inbox) ∧
        (pairOk s.part (b2n (bit arg 8)) = true → Completes (.injXchkSelf req) s (fun u => waits u 8 ∧
          (u.xchk (b2n (bit arg 8))).selfFail = true)) ∧
        (pairOk s.part (b2n (bit arg 8)) = false → Completes (.injXchkSelf req) s (fun u => u.doneWith pSAFE 0x8308 .absent))) ∧
      (s.modeNow ≠ .commission → s.modeNow ≠ .maintenance → ∀ i ∈ [Instr.injTokenFlip req, .injTokenWithhold req, .injLockstep req,
        .injClock req, .injRail req, .injWatchdog req, .injScState req, .injXchkSelf req],
        Completes i s (fun u => u.doneWith pSAFE 0x8308 .stateRefused ∧ u.safety.inj = s.safety.inj)))

/-- Doorbells move TAIL or are counted; descriptors are fetched, a frame is read, admitted or ends in a DMA error; a frame is delivered into
posted entries; a ring's interrupt leaves; bulk transfers move bytes between host memory and HBM. (Drawn from R434-R441, R449, R454; the
counts and ends of log entries 110 and 111 are the model's.) -/
def Obligations.HostTransfers : Prop :=
  ∀ s : State, s.live = true → s.inv →
    (∀ inst : BitVec 8,
      let i := inst.toNat
      let pg := pINST i
      let rings (db : Instr) (r tail : Nat) : Prop :=
        (s.instRuns i = true → s.ringOn i r = true → tail < s.ringSize i r → Completes db s (fun u => (u.inst i).tail r = tail ∧
          (u.inst i).head r = (s.inst i).head r ∧ u.regs = s.regs ∧ u.mem = s.mem ∧ (∀ m, m ≠ i → u.inst m = s.inst m))) ∧
        (s.instRuns i = false ∨ s.ringOn i r = false ∨ s.ringSize i r ≤ tail → Completes db s (fun u =>
          u.reg pg 0x8030 = satAdd (s.reg pg 0x8030) 1 ∧ u = { s with regs := u.regs }))
      let has (u : State) (p : TxXfer → Prop) : Prop := ∃ x ∈ (u.inst i).xfers, p x
      let errored (u : State) : Prop := (u.inst i).st = .error ∧ (u.inst i).xfers = [] ∧ u.reg pg 0x803C = satAdd (s.reg pg 0x803C) 1
      (∀ (ring : BitVec 4) (tail : BitVec 16), rings (.txDb inst ring tail) ring.toNat tail.toNat ∧
        rings (.rxDb inst ring tail) (16 + ring.toNat) tail.toNat) ∧
      (s.instRuns i = true → bit (s.reg pg 0x110) 31 = true → s.rfld pg 0x110 10 0 / 512 < Config.pistes s.part →
        Completes (.evtDb inst) s (fun u => bit (u.thr (s.rfld pg 0x110 10 0)).evlatch 5 = true)) ∧
      (s.instRuns i = false → Completes (.evtDb inst) s (fun u => u.reg pg 0x8030 = satAdd (s.reg pg 0x8030) 1 ∧ u = { s with regs := u.regs })) ∧
      (∀ (ring : BitVec 4) (descs : Bytes) (f : List TxDesc),
        let r := ring.toNat
        let n := min (min (s.posted i r) 16) (descs.length / 16)
        s.instRuns i = true → s.ringOn i r = true → (∀ x ∈ (s.inst i).xfers, x.ring ≠ r) → (s.inst i).admitQ.length < s.ceiling i → s.admitRoom = true →
          s.mediated i = false → 0 < n → frameRun ((chunks 16 n descs).map txDesc) = some f →
          (frameLegal f = true → Completes (.descriptorFetch inst ring descs) s (fun u => has u (fun x => x.ring = r ∧
            x.head = (s.inst i).head r + f.length ∧ x.bufs = f.map (fun d => (w64 d.addr, d.len)) ∧ x.got = []))) ∧
          (frameLegal f = false → Completes (.descriptorFetch inst ring descs) s (fun u => u.reg pg 0x8020 = satAdd (s.reg pg 0x8020) 1 ∧
            (u.inst i).head r = ((s.inst i).head r + f.length) % s.ringSize i r))) ∧
      (∀ (ring : BitVec 4) (x : TxXfer), s.instRuns i = true →
        (s.inst i).xfers.find? (fun x => x.ring == ring.toNat && !x.going) = some x →
        let asked := requestCells 12 (instPort i) (keyOf s.time.ns) (ceilDiv (x.total + 4) 256) [] s
        (∀ cells w, asked = (some cells, w) → Completes (.txRetry inst ring) s (fun u => has u (fun y => y.ring = x.ring ∧ y.cells = cells ∧
          y.bufs = x.bufs))) ∧
        (∀ w, asked = (none, w) → Completes (.txRetry inst ring) s (fun u => u.reg pg 0x8028 = satAdd (s.reg pg 0x8028) 1 ∧
          has u (fun y => y = { x with cells := [] })))) ∧
      (∀ (ring : BitVec 4) (data : Bytes) (x : TxXfer), s.host.linkUp = true → (s.inst i).st = .active ∨ (s.inst i).st = .resetting →
        (s.inst i).xfers.find? (fun x => x.ring == ring.toNat && x.going) = some x →
        (x.got.length + data.length < x.total → Completes (.hostReadCompletion inst ring data false) s (fun u =>
          has u (fun y => y = { x with got := x.got ++ data }) ∧ u.reg64 pHOST 0x8010 = s.reg64 pHOST 0x8010 + w64 data.length ∧
          u.mem = s.mem)) ∧
        (x.total ≤ x.got.length + data.length → Completes (.hostReadCompletion inst ring data false) s (fun u =>
          (u.inst i).admitQ = (s.inst i).admitQ ++ [s.nextPkt] ∧ ∃ k, u.pkt s.nextPkt = some k ∧ k.port.toNat = instPort i ∧ k.cells = x.cells ∧
            k.tail = true)) ∧
        Completes (.hostReadCompletion inst ring data true) s errored ∧ Completes (.completionTimeout inst) s errored) ∧
      (∀ (queue : BitVec 3) (entries : Bytes) (c : TmCopy) (rest : List TmCopy),
        let q := queue.toNat
        let ring := 16 + s.rfld pg 0x9400 (4 * q + 3) (4 * q)
        let sent := s.sendBytes c (Int.ofNat s.totalNs)
        let n := min (s.posted i ring) (entries.length / 32)
        s.instRuns i = true → (s.port (instPort i)).queue q = c :: rest → s.copyCheck c = some true →
          (s.ringOn i ring = false → Completes (.rxDelivery inst queue entries) s (fun u => u.reg pg 0x8034 = satAdd (s.reg pg 0x8034) 1 ∧
            (u.port (instPort i)).queue q = rest)) ∧
          (∀ plan used malformed, s.ringOn i ring = true → s.mediated i = false →
            rxPlan ((chunks 32 n entries).map rxEntry) 0 (sent.take (sent.length - 4)).length = some (plan, used, malformed) →
            Completes (.rxDelivery inst queue entries) s (fun u => (u.port (instPort i)).queue q = rest ∧
              (u.inst i).head ring = ((s.inst i).head ring + used) % s.ringSize i ring ∧
              u.reg64 pg 0x8018 = s.reg64 pg 0x8018 + 1 ∧ u.mem = s.mem))) ∧
      (∀ ring : BitVec 5, s.host.linkUp = true → (s.inst i).irqWait.contains ring.toNat = true → Completes (.msixMessage inst ring) s (fun u =>
        u.outs = .msix (.inst inst) (s.ringVec i ring.toNat) :: s.outs ∧ (u.inst i).irqWait.contains ring.toNat = false ∧ u.regs = s.regs ∧
        u.mem = s.mem))) ∧
    (∀ (req : Requester) (data : Bytes) (a : Nat), s.mayCommand req pHOST 0x8114 0x8118 = true → bulkReq req = true → hbmServes s = true →
      hbmOff s.part (s.reg64 pHOST 0x8108).toNat s.xferLen = some a → s.xferLen % 64 = 0 → s.xferLen ≤ 0x1000000 →
      let x := hbmA a
      (s.host.linkUp = true → data.length = s.xferLen → Completes (.toHbm req data) s (fun u => u.doneWith pHOST 0x8118 .ok ∧
        u.bytes x s.xferLen = data ∧ (∀ b, b < x ∨ x + s.xferLen ≤ b → u.byte b = s.byte b))) ∧
      (s.host.linkUp = true → s.poisoned x s.xferLen = false → Completes (.fromHbm req) s (fun u => u.doneWith pHOST 0x8118 .ok ∧
        Out.hostWrite (s.reg64 pHOST 0x8100) (s.bytes x s.xferLen) ∈ u.outs ∧ u.mem = s.mem)) ∧
      (s.host.linkUp = false → Completes (.toHbm req data) s (fun u => u.doneWith pHOST 0x8118 .timeout ∧ u.mem = s.mem) ∧
        Completes (.fromHbm req) s (fun u => u.doneWith pHOST 0x8118 .timeout ∧ u.mem = s.mem)))

/-- An instance is enabled, disabled, given its share and reset; a mediated write is applied or rejected; the dirty log is synchronised or
restarted; the link's loss freezes every running instance, its return and a function level reset start them afresh. (Drawn from R431-R433,
R441-R450, R523; the ends of a reset in log entry 109 are the model's.) -/
def Obligations.InstanceCommands : Prop :=
  ∀ (s : State) (req : Requester), s.live = true →
    (∀ inst : BitVec 8,
      let i := inst.toNat
      let pg := pINST i
      let emptied (u : State) : Prop := ∀ q, q < 8 → (u.port (instPort i)).queue q = []
      (s.mayWrite req pg 0x10 = true →
        (s.instOn i = false → s.modeNow ≠ .boot → s.modeNow ≠ .fallback → s.modeNow ≠ .zeroize → (s.inst i).st = .disabled →
          ((s.mediated i = true ∧ s.mediatedOn < 64) ∨ (s.mediated i = false ∧ Config.flag s.free = true) →
            Completes (.instEnable req inst true) s (fun u => u.instOn i = true ∧
              (u.inst i).st = (if s.host.linkUp then .active else .frozen) ∧ u.mem = s.mem)) ∧
          (s.mediated i = true → 64 ≤ s.mediatedOn → (∀ t, req ≠ .core t) → Completes (.instEnable req inst true) s (fun u =>
            u.instOn i = false ∧ fld (u.reg pg 0x14) 15 12 = 4 ∧ u.inst i = s.inst i))) ∧
        (s.instOn i = true → s.host.linkUp = true → (s.inst i).st = .active → Completes (.instEnable req inst false) s (fun u =>
          u.instOn i = false ∧ (u.inst i).st = .resetting ∧ emptied u ∧ u.mem = s.mem))) ∧
      (∀ v : Word, s.mayWrite req pg 0x108 = true → fld v 7 0 ≠ 0 → 0 < fld v 29 16 → fld v 29 16 ≤ 8192 →
        Completes (.instShareWrite req inst v) s (fun u => u.reg pg 0x108 = v &&& 0x3FFF00FF ∧
          (u.inst i).overShare = decide (fld v 29 16 ≤ (s.inst i).admitQ.length) ∧ u.mem = s.mem)) ∧
      (s.mayCommand req pg 0x8104 0x8108 = true →
        (s.mediated i = false → s.modeNow ≠ .boot → s.modeNow ≠ .zeroize → s.host.linkUp = true → (s.inst i).st = .active →
          Completes (.instReset req inst) s (fun u => u.reg pg 0x8108 = 0x40000000 ∧ (u.inst i).st = .resetting ∧ (u.inst i).byCmd = true ∧
            emptied u ∧ u.mem = s.mem)) ∧
        (s.mediated i = true → req = .inst inst → s.host.med.length < 64 → Completes (.instReset req inst) s (fun u =>
          u.inst i = s.inst i ∧ bit (u.reg pIOV 0x20) 8 = true ∧
          ∃ r, u.host.med = s.host.med ++ [r] ∧ r.off = 0x8104 ∧ r.inst = inst ∧ r.value = 1))) ∧
      ((s.inst i).st = .resetting →
        Completes (.instDrainTimeout inst) s (fun u => (u.inst i).xfers = [] ∧ (u.inst i).st = .resetting ∧ u.mem = s.mem) ∧
        ((s.inst i).xfers = [] → Completes (.instResetComplete inst) s (fun u => (u.inst i).st = s.afterReset i ∧
          (∀ r, (u.inst i).head r = 0 ∧ (u.inst i).tail r = 0) ∧
          u.reg pg 0x810C = w32 (min (s.inst i).drained 0xFFFF + min (s.inst i).squashed 0xFFFF * 0x10000) ∧
          ((s.inst i).byCmd = true → u.doneWith pg 0x8108 .ok) ∧ u.mem = s.mem)))) ∧
    (s.mayCommand req pIOV 0x8208 0x820C = true →
      (s.host.med = [] → Completes (.apply req) s (fun u => u.doneWith pIOV 0x820C .empty ∧ u.host = s.host) ∧
        Completes (.reject req) s (fun u => u.doneWith pIOV 0x820C .empty ∧ u.host = s.host)) ∧
      (∀ (r : MedRec) (rest : List MedRec), s.host.med = r :: rest →
        let i := r.inst.toNat
        Completes (.reject req) s (fun u => u.doneWith pIOV 0x820C .ok ∧ u.host.med = rest ∧ (u.inst i).medLast = 7 ∧ u.mem = s.mem) ∧
        (r.off = 0x9400 → r.wide = false → (s.inst i).st = .active → s.mayWrite (.inst r.inst) (pINST i) 0x9400 = true →
          Completes (.apply req) s (fun u => u.doneWith pIOV 0x820C .ok ∧ u.host.med = rest ∧ (u.inst i).medLast = 0 ∧
            u.reg (pINST i) 0x9400 = s.reg pIOV 0x8200 ∧ u.mem = s.mem)))) ∧
    (s.mayCommand req pIOV 0x8104 0x8108 = true →
      Completes (.sync req) s (fun u => u.doneWith pIOV 0x8108 .ok ∧ u.reg pIOV 0x8008 = s.reg pIOV 0x8000 ∧ u.host.filter = [] ∧
        u.mem = s.mem) ∧
      Completes (.dirtyRestart req) s (fun u => u.doneWith pIOV 0x8108 .ok ∧ u.reg pIOV 0x8000 = s.reg pIOV 0x8004 ∧ u.reg pIOV 0x800C = 0 ∧
        u.host.filter = [] ∧ u.mem = s.mem)) ∧
    (s.host.linkUp = true →
      Completes .pcieLinkDown s (fun u => u.host.linkUp = false ∧ u.reg pHOST 0x8004 = satAdd (s.reg pHOST 0x8004) 1 ∧
        bit (u.reg pHOST 0x20) 8 = true ∧ (∀ i, (s.inst i).st = .active ∨ (s.inst i).st = .error → (u.inst i).st = .frozen) ∧ u.mem = s.mem) ∧
      Completes .functionLevelReset s (fun u => bit (u.reg pHOST 0x20) 9 = true ∧
        (∀ i, (s.inst i).st = .active → (u.inst i).st = s.afterReset i ∧ (u.inst i).xfers = []) ∧ u.mem = s.mem)) ∧
    (s.host.linkUp = false → bit s.refOk 25 = true → Completes .pcieLinkUp s (fun u => u.host.linkUp = true ∧
      bit (u.reg pHOST 0x8000) 16 = true ∧ (∀ i, (s.inst i).st = .frozen → (u.inst i).st = s.afterReset i) ∧ u.mem = s.mem))

/-- R7: on the CF1024-F a MODE_REQ for SAFE-OPERATE completes with ABSENT, in every mode in which the register may be written, and the mode
does not change. -/
def Obligations.AbsentSafeOperate : Prop :=
  ∀ (s : State) (req : Requester), s.part = .cf1024F → s.mayCommand req pMODE 0x8104 0x8108 = true →
    Completes (.reqSafeOperate req 0x5A17) s (fun u => u.doneWith pMODE 0x8108 .absent ∧ u.mode = s.mode ∧ u.modeNow = s.modeNow)

/-- R69: MODE_STATUS.SS_LATCH (bit 18) reads the latch; no step, of a command or of a tick, enters SAFE-STATE without setting it, and no step
clears it but one that ends in RESET or in OFF. -/
def Obligations.SafeStateIsLatched : Prop :=
  (∀ s u : State, step s = .next u →
    (u.modeNow = .safeState → s.modeNow ≠ .safeState → u.mode.ssLatch = true) ∧
    (s.mode.ssLatch = true → u.mode.ssLatch = true ∨ u.modeNow = .reset ∨ u.modeNow = .off)) ∧
  ∀ s : State, bit s.modeStatus 18 = s.mode.ssLatch

/-- R467: a thread of the piste's supervisor core kicks its watchdog by writing PST_WD_KICK; the same write by any other thread, of a piste or
of the Telemark complex, is refused with NOT_OWNER and moves no watchdog; a Telemark thread kicks the watchdog of its own pair. -/
def Obligations.WatchdogKicks : Prop :=
  ∀ (s : State) (v : Word),
    (∀ (t : BitVec 11) (p : BitVec 2), isSup t.toNat = true → tPiste t.toNat = p.toNat →
      s.mayWrite (.core t) (pPST p.toNat) 0x8200 = true →
      exec (.pstWdKick (.core t) p v) s = .next (wdKick p.toNat v s)) ∧
    (∀ (req : Requester) (p : BitVec 2), (pageKind s.part (pPST p.toNat)).isSome = true → s.live = true → s.modeNow ≠ .boot →
      reqOk s.part req = true → ((∃ t, req = .core t ∧ (isSup t.toNat = false ∨ tPiste t.toNat ≠ p.toNat)) ∨ ∃ t, req = .tel t) →
      Completes (.pstWdKick req p v) s (fun u => fld (u.reg (pPST p.toNat) 0x14) 15 12 = Status.notOwner.code ∧
        u.safety.wds = s.safety.wds)) ∧
    (∀ (t : BitVec 3) (m : BitVec 1), t.toNat / 4 = m.toNat → s.mayWrite (.tel t) pSAFE (0x8040 + 4 * m.toNat) = true →
      exec (.safeWdKickTel (.tel t) m v) s = .next (wdKick (4 + m.toNat) v s))
end

