-- ==== Sys2Proof/Laws/Tables.lean ====
section
/-! SUPPORT. Laws of the sparse tables and of memory: read after write, other keys kept, a second write replaces the first, and
that every memory operation keeps the canonical form. -/
namespace Sys2Proof.Machine

@[simp] theorem sfind_sset_same (m : SMap α) (k : Nat) (v : α) : sfind (sset m k v) k = some v := by
  induction m with
  | nil => simp [sset, sfind]
  | cons e r ih =>
    obtain ⟨a, x⟩ := e
    simp only [sset]
    split
    · simp [sfind]
    · split
      · simp [sfind, *]
      · simp [sfind, *]

theorem sfind_sset_ne (m : SMap α) {k k' : Nat} (v : α) (h : k' ≠ k) : sfind (sset m k v) k' = sfind m k' := by
  induction m with
  | nil => simp [sset, sfind, h]
  | cons e r ih =>
    obtain ⟨a, x⟩ := e
    simp only [sset]
    split
    · simp only [sfind, h]
      split
      · rw [if_pos (by omega)]
      · rfl
    · split
      · subst_vars; simp [sfind, h]
      · simp [sfind, ih]

@[simp] theorem sget_sset_same (d : α) (m : SMap α) (k : Nat) (v : α) : sget d (sset m k v) k = v := by simp [sget]

theorem sget_sset_ne (d : α) (m : SMap α) {k k' : Nat} (v : α) (h : k' ≠ k) : sget d (sset m k v) k' = sget d m k' := by
  simp [sget, sfind_sset_ne m v h]

@[simp] theorem sset_sset (m : SMap α) (k : Nat) (v w : α) : sset (sset m k v) k w = sset m k w := by
  induction m with
  | nil => simp [sset]
  | cons e r ih =>
    obtain ⟨a, x⟩ := e
    simp only [sset]
    split
    · simp [sset]
    · split
      · subst_vars; simp [sset]
      · rename_i h1 h2; simp [sset, h1, h2, ih]

theorem Memory.wfFrom_mono {b c : Nat} {m : List Host.Cell} (h : c ≤ b) (w : Memory.wfFrom b m = true) :
    Memory.wfFrom c m = true := by
  cases m with
  | nil => rfl
  | cons e r =>
    simp only [Memory.wfFrom, Bool.and_eq_true, decide_eq_true_eq] at *
    exact ⟨⟨by omega, w.1.2⟩, w.2⟩

theorem Memory.wfFrom_set {b a : Nat} {v : Byte} {m : List Host.Cell} (h : b ≤ a) (w : Memory.wfFrom b m = true) :
    Memory.wfFrom b (Memory.set m a v) = true := by
  induction m generalizing b with
  | nil => simp only [Memory.set]; split <;> simp_all [Memory.wfFrom]
  | cons e r ih =>
    obtain ⟨k, x⟩ := e
    simp only [Memory.wfFrom, Bool.and_eq_true, decide_eq_true_eq] at w
    obtain ⟨⟨hb, hx⟩, hr⟩ := w
    simp only [Memory.set]
    split
    · split
      · simp [Memory.wfFrom, hb, hx, hr]
      · rename_i h1 h2
        have : a + 1 ≤ k := h1
        simp [Memory.wfFrom, h, h2, hx, hr, this]
    · split
      · rename_i h1 h2
        subst h2
        split
        · exact Memory.wfFrom_mono (by omega) hr
        · rename_i h3; simp [Memory.wfFrom, hb, h3, hr]
      · rename_i h1 h2
        simp [Memory.wfFrom, hb, hx, ih (b := k + 1) (by omega) hr]

theorem Memory.wfFrom_filter {b : Nat} {m : List Host.Cell} (p : Host.Cell → Bool) (w : Memory.wfFrom b m = true) :
    Memory.wfFrom b (m.filter p) = true := by
  induction m generalizing b with
  | nil => rfl
  | cons e r ih =>
    simp only [Memory.wfFrom, Bool.and_eq_true, decide_eq_true_eq] at w
    simp only [List.filter]
    split
    · simp [Memory.wfFrom, w.1.1, w.1.2, ih w.2]
    · exact Memory.wfFrom_mono (by omega) (ih w.2)

/-- A byte written keeps the canonical form. -/
theorem Memory.wf_set {m : List Host.Cell} (a : Nat) (v : Byte) (w : Memory.wf m = true) : Memory.wf (Memory.set m a v) = true :=
  Memory.wfFrom_set (Nat.zero_le a) w

/-- Bytes written keep the canonical form. -/
theorem Memory.wf_write {m : List Host.Cell} (a : Nat) (b : Bytes) (w : Memory.wf m = true) :
    Memory.wf (Memory.write m a b) = true := by
  induction b generalizing m a with
  | nil => exact w
  | cons x r ih => exact ih (a + 1) (Memory.wf_set a x w)

/-- A range cleared keeps the canonical form. -/
theorem Memory.wf_clear {m : List Host.Cell} (a n : Nat) (w : Memory.wf m = true) : Memory.wf (Memory.clear m a n) = true :=
  Memory.wfFrom_filter _ w

/-- What a test leaves of a memory keeps the canonical form. -/
theorem Memory.wf_filter {m : List Host.Cell} (p : Host.Cell → Bool) (w : Memory.wf m = true) : Memory.wf (m.filter p) = true :=
  Memory.wfFrom_filter p w

theorem Memory.get_of_lt {b a : Nat} {m : List Host.Cell} (w : Memory.wfFrom b m = true) (h : a < b) :
    Memory.get m a = memDefault a := by
  cases m with
  | nil => rfl
  | cons e r =>
    simp only [Memory.wfFrom, Bool.and_eq_true, decide_eq_true_eq] at w
    simp [Memory.get, show a < e.1 by omega]

theorem Memory.get_set_from {b : Nat} {m : List Host.Cell} (a c : Nat) (v : Byte) (w : Memory.wfFrom b m = true) :
    Memory.get (Memory.set m a v) c = if c = a then v else Memory.get m c := by
  induction m generalizing b with
  | nil =>
    simp only [Memory.set]
    split <;> split <;> simp_all [Memory.get]
  | cons e r ih =>
    obtain ⟨k, x⟩ := e
    simp only [Memory.wfFrom, Bool.and_eq_true, decide_eq_true_eq] at w
    obtain ⟨⟨hb, hx⟩, hr⟩ := w
    simp only [Memory.set]
    split
    · split
      · split
        · rename_i h1 h2 h3; subst h3; simp [Memory.get, h1, h2]
        · rfl
      · rename_i h1 h2
        by_cases hc : c = a
        · subst hc; simp [Memory.get]
        · by_cases hl : c < a
          · simp [Memory.get, hc, hl, show c < k by omega]
          · rw [Memory.get]; simp [hl, hc]
    · split
      · rename_i h1 h2
        subst h2
        split
        · rename_i h3
          by_cases hc : c = a
          · subst hc; simp [Memory.get_of_lt hr (Nat.lt_succ_self c), h3]
          · by_cases hl : c < a
            · simp [Memory.get, hl, hc, Memory.get_of_lt hr (show c < a + 1 by omega)]
            · simp [Memory.get, hl, hc]
        · by_cases hc : c = a <;> simp [Memory.get, hc]
      · rename_i h1 h2
        by_cases hl : c < k
        · simp [Memory.get, hl, show c ≠ a by omega]
        · by_cases hk : c = k
          · subst hk; simp [Memory.get, show c ≠ a by omega]
          · simp [Memory.get, hl, hk, ih hr]

/-- Read after write of one byte. -/
theorem Memory.get_set {m : List Host.Cell} (a c : Nat) (v : Byte) (w : Memory.wf m = true) :
    Memory.get (Memory.set m a v) c = if c = a then v else Memory.get m c := Memory.get_set_from a c v w

/-- A byte outside the bytes written reads as before. -/
theorem Memory.get_write_other {m : List Host.Cell} (a c : Nat) (b : Bytes) (w : Memory.wf m = true)
    (h : c < a ∨ a + b.length ≤ c) : Memory.get (Memory.write m a b) c = Memory.get m c := by
  induction b generalizing m a with
  | nil => rfl
  | cons x r ih =>
    simp only [List.length_cons] at h
    rw [Memory.write, ih (a + 1) (Memory.wf_set a x w) (by omega), Memory.get_set a c x w, if_neg (by omega)]

end Sys2Proof.Machine
end

