-- ==== Sys2Proof/Laws/State.lean ====
section
/-! SUPPORT. The frame of each primitive update of the state, field by field, and what reading a register, a thread, a packet, a
piste after its update gives: no later proof unfolds a record update. -/
namespace Sys2Proof.Machine

@[simp] theorem setRegK_frame (k : Nat) (v : Word) (s : State) :
    (setRegK k v s).part = s.part ∧ (setRegK k v s).stepping = s.stepping ∧ (setRegK k v s).mem = s.mem ∧
    (setRegK k v s).poison = s.poison ∧ (setRegK k v s).mode = s.mode ∧ (setRegK k v s).boot = s.boot ∧
    (setRegK k v s).fabric = s.fabric ∧ (setRegK k v s).threads = s.threads ∧ (setRegK k v s).pkts = s.pkts ∧
    (setRegK k v s).nextPkt = s.nextPkt ∧ (setRegK k v s).pistes = s.pistes ∧ (setRegK k v s).telFaults = s.telFaults ∧
    (setRegK k v s).btb = s.btb ∧ (setRegK k v s).keyStores = s.keyStores ∧ (setRegK k v s).wipes = s.wipes ∧
    (setRegK k v s).cells = s.cells ∧ (setRegK k v s).badBitmap = s.badBitmap ∧ (setRegK k v s).dyn = s.dyn ∧
    (setRegK k v s).sema = s.sema ∧ (setRegK k v s).hbm = s.hbm ∧ (setRegK k v s).cls = s.cls ∧
    (setRegK k v s).ports = s.ports ∧ (setRegK k v s).fmx = s.fmx ∧ (setRegK k v s).tmInbox = s.tmInbox ∧
    (setRegK k v s).streams = s.streams ∧ (setRegK k v s).sige = s.sige ∧ (setRegK k v s).time = s.time ∧
    (setRegK k v s).host = s.host ∧ (setRegK k v s).safety = s.safety ∧ (setRegK k v s).life = s.life ∧
    (setRegK k v s).log = s.log ∧ (setRegK k v s).tap = s.tap ∧ (setRegK k v s).boundary = s.boundary ∧
    (setRegK k v s).smbus = s.smbus ∧ (setRegK k v s).refOk = s.refOk ∧ (setRegK k v s).free = s.free ∧
    (setRegK k v s).outs = s.outs ∧ (setRegK k v s).pending = s.pending := by
  and_intros <;> rfl

@[simp] theorem setReg_frame (p o : Nat) (v : Word) (s : State) :
    (setReg p o v s).part = s.part ∧ (setReg p o v s).stepping = s.stepping ∧ (setReg p o v s).mem = s.mem ∧
    (setReg p o v s).poison = s.poison ∧ (setReg p o v s).mode = s.mode ∧ (setReg p o v s).boot = s.boot ∧
    (setReg p o v s).fabric = s.fabric ∧ (setReg p o v s).threads = s.threads ∧ (setReg p o v s).pkts = s.pkts ∧
    (setReg p o v s).nextPkt = s.nextPkt ∧ (setReg p o v s).pistes = s.pistes ∧ (setReg p o v s).telFaults = s.telFaults ∧
    (setReg p o v s).btb = s.btb ∧ (setReg p o v s).keyStores = s.keyStores ∧ (setReg p o v s).wipes = s.wipes ∧
    (setReg p o v s).cells = s.cells ∧ (setReg p o v s).badBitmap = s.badBitmap ∧ (setReg p o v s).dyn = s.dyn ∧
    (setReg p o v s).sema = s.sema ∧ (setReg p o v s).hbm = s.hbm ∧ (setReg p o v s).cls = s.cls ∧
    (setReg p o v s).ports = s.ports ∧ (setReg p o v s).fmx = s.fmx ∧ (setReg p o v s).tmInbox = s.tmInbox ∧
    (setReg p o v s).streams = s.streams ∧ (setReg p o v s).sige = s.sige ∧ (setReg p o v s).time = s.time ∧
    (setReg p o v s).host = s.host ∧ (setReg p o v s).safety = s.safety ∧ (setReg p o v s).life = s.life ∧
    (setReg p o v s).log = s.log ∧ (setReg p o v s).tap = s.tap ∧ (setReg p o v s).boundary = s.boundary ∧
    (setReg p o v s).smbus = s.smbus ∧ (setReg p o v s).refOk = s.refOk ∧ (setReg p o v s).free = s.free ∧
    (setReg p o v s).outs = s.outs ∧ (setReg p o v s).pending = s.pending := by
  and_intros <;> rfl

@[simp] theorem setReg64_frame (p o : Nat) (v : W64) (s : State) :
    (setReg64 p o v s).part = s.part ∧ (setReg64 p o v s).stepping = s.stepping ∧ (setReg64 p o v s).mem = s.mem ∧
    (setReg64 p o v s).poison = s.poison ∧ (setReg64 p o v s).mode = s.mode ∧ (setReg64 p o v s).boot = s.boot ∧
    (setReg64 p o v s).fabric = s.fabric ∧ (setReg64 p o v s).threads = s.threads ∧ (setReg64 p o v s).pkts = s.pkts ∧
    (setReg64 p o v s).nextPkt = s.nextPkt ∧ (setReg64 p o v s).pistes = s.pistes ∧
    (setReg64 p o v s).telFaults = s.telFaults ∧ (setReg64 p o v s).btb = s.btb ∧ (setReg64 p o v s).keyStores = s.keyStores ∧
    (setReg64 p o v s).wipes = s.wipes ∧ (setReg64 p o v s).cells = s.cells ∧ (setReg64 p o v s).badBitmap = s.badBitmap ∧
    (setReg64 p o v s).dyn = s.dyn ∧ (setReg64 p o v s).sema = s.sema ∧ (setReg64 p o v s).hbm = s.hbm ∧
    (setReg64 p o v s).cls = s.cls ∧ (setReg64 p o v s).ports = s.ports ∧ (setReg64 p o v s).fmx = s.fmx ∧
    (setReg64 p o v s).tmInbox = s.tmInbox ∧ (setReg64 p o v s).streams = s.streams ∧ (setReg64 p o v s).sige = s.sige ∧
    (setReg64 p o v s).time = s.time ∧ (setReg64 p o v s).host = s.host ∧ (setReg64 p o v s).safety = s.safety ∧
    (setReg64 p o v s).life = s.life ∧ (setReg64 p o v s).log = s.log ∧ (setReg64 p o v s).tap = s.tap ∧
    (setReg64 p o v s).boundary = s.boundary ∧ (setReg64 p o v s).smbus = s.smbus ∧ (setReg64 p o v s).refOk = s.refOk ∧
    (setReg64 p o v s).free = s.free ∧ (setReg64 p o v s).outs = s.outs ∧ (setReg64 p o v s).pending = s.pending := by
  and_intros <;> rfl

@[simp] theorem setRfld_frame (p o hi lo v : Nat) (s : State) :
    (setRfld p o hi lo v s).part = s.part ∧ (setRfld p o hi lo v s).stepping = s.stepping ∧
    (setRfld p o hi lo v s).mem = s.mem ∧ (setRfld p o hi lo v s).poison = s.poison ∧ (setRfld p o hi lo v s).mode = s.mode ∧
    (setRfld p o hi lo v s).boot = s.boot ∧ (setRfld p o hi lo v s).fabric = s.fabric ∧
    (setRfld p o hi lo v s).threads = s.threads ∧ (setRfld p o hi lo v s).pkts = s.pkts ∧
    (setRfld p o hi lo v s).nextPkt = s.nextPkt ∧ (setRfld p o hi lo v s).pistes = s.pistes ∧
    (setRfld p o hi lo v s).telFaults = s.telFaults ∧ (setRfld p o hi lo v s).btb = s.btb ∧
    (setRfld p o hi lo v s).keyStores = s.keyStores ∧ (setRfld p o hi lo v s).wipes = s.wipes ∧
    (setRfld p o hi lo v s).cells = s.cells ∧ (setRfld p o hi lo v s).badBitmap = s.badBitmap ∧
    (setRfld p o hi lo v s).dyn = s.dyn ∧ (setRfld p o hi lo v s).sema = s.sema ∧ (setRfld p o hi lo v s).hbm = s.hbm ∧
    (setRfld p o hi lo v s).cls = s.cls ∧ (setRfld p o hi lo v s).ports = s.ports ∧ (setRfld p o hi lo v s).fmx = s.fmx ∧
    (setRfld p o hi lo v s).tmInbox = s.tmInbox ∧ (setRfld p o hi lo v s).streams = s.streams ∧
    (setRfld p o hi lo v s).sige = s.sige ∧ (setRfld p o hi lo v s).time = s.time ∧ (setRfld p o hi lo v s).host = s.host ∧
    (setRfld p o hi lo v s).safety = s.safety ∧ (setRfld p o hi lo v s).life = s.life ∧ (setRfld p o hi lo v s).log = s.log ∧
    (setRfld p o hi lo v s).tap = s.tap ∧ (setRfld p o hi lo v s).boundary = s.boundary ∧
    (setRfld p o hi lo v s).smbus = s.smbus ∧ (setRfld p o hi lo v s).refOk = s.refOk ∧ (setRfld p o hi lo v s).free = s.free ∧
    (setRfld p o hi lo v s).outs = s.outs ∧ (setRfld p o hi lo v s).pending = s.pending := by
  and_intros <;> rfl

@[simp] theorem bump_frame (p o : Nat) (s : State) :
    (bump p o s).part = s.part ∧ (bump p o s).stepping = s.stepping ∧ (bump p o s).mem = s.mem ∧
    (bump p o s).poison = s.poison ∧ (bump p o s).mode = s.mode ∧ (bump p o s).boot = s.boot ∧ (bump p o s).fabric = s.fabric ∧
    (bump p o s).threads = s.threads ∧ (bump p o s).pkts = s.pkts ∧ (bump p o s).nextPkt = s.nextPkt ∧
    (bump p o s).pistes = s.pistes ∧ (bump p o s).telFaults = s.telFaults ∧ (bump p o s).btb = s.btb ∧
    (bump p o s).keyStores = s.keyStores ∧ (bump p o s).wipes = s.wipes ∧ (bump p o s).cells = s.cells ∧
    (bump p o s).badBitmap = s.badBitmap ∧ (bump p o s).dyn = s.dyn ∧ (bump p o s).sema = s.sema ∧ (bump p o s).hbm = s.hbm ∧
    (bump p o s).cls = s.cls ∧ (bump p o s).ports = s.ports ∧ (bump p o s).fmx = s.fmx ∧ (bump p o s).tmInbox = s.tmInbox ∧
    (bump p o s).streams = s.streams ∧ (bump p o s).sige = s.sige ∧ (bump p o s).time = s.time ∧ (bump p o s).host = s.host ∧
    (bump p o s).safety = s.safety ∧ (bump p o s).life = s.life ∧ (bump p o s).log = s.log ∧ (bump p o s).tap = s.tap ∧
    (bump p o s).boundary = s.boundary ∧ (bump p o s).smbus = s.smbus ∧ (bump p o s).refOk = s.refOk ∧
    (bump p o s).free = s.free ∧ (bump p o s).outs = s.outs ∧ (bump p o s).pending = s.pending := by
  and_intros <;> rfl

@[simp] theorem bumpBy_frame (p o n : Nat) (s : State) :
    (bumpBy p o n s).part = s.part ∧ (bumpBy p o n s).stepping = s.stepping ∧ (bumpBy p o n s).mem = s.mem ∧
    (bumpBy p o n s).poison = s.poison ∧ (bumpBy p o n s).mode = s.mode ∧ (bumpBy p o n s).boot = s.boot ∧
    (bumpBy p o n s).fabric = s.fabric ∧ (bumpBy p o n s).threads = s.threads ∧ (bumpBy p o n s).pkts = s.pkts ∧
    (bumpBy p o n s).nextPkt = s.nextPkt ∧ (bumpBy p o n s).pistes = s.pistes ∧ (bumpBy p o n s).telFaults = s.telFaults ∧
    (bumpBy p o n s).btb = s.btb ∧ (bumpBy p o n s).keyStores = s.keyStores ∧ (bumpBy p o n s).wipes = s.wipes ∧
    (bumpBy p o n s).cells = s.cells ∧ (bumpBy p o n s).badBitmap = s.badBitmap ∧ (bumpBy p o n s).dyn = s.dyn ∧
    (bumpBy p o n s).sema = s.sema ∧ (bumpBy p o n s).hbm = s.hbm ∧ (bumpBy p o n s).cls = s.cls ∧
    (bumpBy p o n s).ports = s.ports ∧ (bumpBy p o n s).fmx = s.fmx ∧ (bumpBy p o n s).tmInbox = s.tmInbox ∧
    (bumpBy p o n s).streams = s.streams ∧ (bumpBy p o n s).sige = s.sige ∧ (bumpBy p o n s).time = s.time ∧
    (bumpBy p o n s).host = s.host ∧ (bumpBy p o n s).safety = s.safety ∧ (bumpBy p o n s).life = s.life ∧
    (bumpBy p o n s).log = s.log ∧ (bumpBy p o n s).tap = s.tap ∧ (bumpBy p o n s).boundary = s.boundary ∧
    (bumpBy p o n s).smbus = s.smbus ∧ (bumpBy p o n s).refOk = s.refOk ∧ (bumpBy p o n s).free = s.free ∧
    (bumpBy p o n s).outs = s.outs ∧ (bumpBy p o n s).pending = s.pending := by
  and_intros <;> rfl

@[simp] theorem bumpWrap_frame (p o : Nat) (s : State) :
    (bumpWrap p o s).part = s.part ∧ (bumpWrap p o s).stepping = s.stepping ∧ (bumpWrap p o s).mem = s.mem ∧
    (bumpWrap p o s).poison = s.poison ∧ (bumpWrap p o s).mode = s.mode ∧ (bumpWrap p o s).boot = s.boot ∧
    (bumpWrap p o s).fabric = s.fabric ∧ (bumpWrap p o s).threads = s.threads ∧ (bumpWrap p o s).pkts = s.pkts ∧
    (bumpWrap p o s).nextPkt = s.nextPkt ∧ (bumpWrap p o s).pistes = s.pistes ∧ (bumpWrap p o s).telFaults = s.telFaults ∧
    (bumpWrap p o s).btb = s.btb ∧ (bumpWrap p o s).keyStores = s.keyStores ∧ (bumpWrap p o s).wipes = s.wipes ∧
    (bumpWrap p o s).cells = s.cells ∧ (bumpWrap p o s).badBitmap = s.badBitmap ∧ (bumpWrap p o s).dyn = s.dyn ∧
    (bumpWrap p o s).sema = s.sema ∧ (bumpWrap p o s).hbm = s.hbm ∧ (bumpWrap p o s).cls = s.cls ∧
    (bumpWrap p o s).ports = s.ports ∧ (bumpWrap p o s).fmx = s.fmx ∧ (bumpWrap p o s).tmInbox = s.tmInbox ∧
    (bumpWrap p o s).streams = s.streams ∧ (bumpWrap p o s).sige = s.sige ∧ (bumpWrap p o s).time = s.time ∧
    (bumpWrap p o s).host = s.host ∧ (bumpWrap p o s).safety = s.safety ∧ (bumpWrap p o s).life = s.life ∧
    (bumpWrap p o s).log = s.log ∧ (bumpWrap p o s).tap = s.tap ∧ (bumpWrap p o s).boundary = s.boundary ∧
    (bumpWrap p o s).smbus = s.smbus ∧ (bumpWrap p o s).refOk = s.refOk ∧ (bumpWrap p o s).free = s.free ∧
    (bumpWrap p o s).outs = s.outs ∧ (bumpWrap p o s).pending = s.pending := by
  and_intros <;> rfl

@[simp] theorem bump64_frame (p o : Nat) (s : State) :
    (bump64 p o s).part = s.part ∧ (bump64 p o s).stepping = s.stepping ∧ (bump64 p o s).mem = s.mem ∧
    (bump64 p o s).poison = s.poison ∧ (bump64 p o s).mode = s.mode ∧ (bump64 p o s).boot = s.boot ∧
    (bump64 p o s).fabric = s.fabric ∧ (bump64 p o s).threads = s.threads ∧ (bump64 p o s).pkts = s.pkts ∧
    (bump64 p o s).nextPkt = s.nextPkt ∧ (bump64 p o s).pistes = s.pistes ∧ (bump64 p o s).telFaults = s.telFaults ∧
    (bump64 p o s).btb = s.btb ∧ (bump64 p o s).keyStores = s.keyStores ∧ (bump64 p o s).wipes = s.wipes ∧
    (bump64 p o s).cells = s.cells ∧ (bump64 p o s).badBitmap = s.badBitmap ∧ (bump64 p o s).dyn = s.dyn ∧
    (bump64 p o s).sema = s.sema ∧ (bump64 p o s).hbm = s.hbm ∧ (bump64 p o s).cls = s.cls ∧ (bump64 p o s).ports = s.ports ∧
    (bump64 p o s).fmx = s.fmx ∧ (bump64 p o s).tmInbox = s.tmInbox ∧ (bump64 p o s).streams = s.streams ∧
    (bump64 p o s).sige = s.sige ∧ (bump64 p o s).time = s.time ∧ (bump64 p o s).host = s.host ∧
    (bump64 p o s).safety = s.safety ∧ (bump64 p o s).life = s.life ∧ (bump64 p o s).log = s.log ∧ (bump64 p o s).tap = s.tap ∧
    (bump64 p o s).boundary = s.boundary ∧ (bump64 p o s).smbus = s.smbus ∧ (bump64 p o s).refOk = s.refOk ∧
    (bump64 p o s).free = s.free ∧ (bump64 p o s).outs = s.outs ∧ (bump64 p o s).pending = s.pending := by
  and_intros <;> rfl

@[simp] theorem store_frame (p o : Nat) (m v : Word) (s : State) :
    (store p o m v s).part = s.part ∧ (store p o m v s).stepping = s.stepping ∧ (store p o m v s).mem = s.mem ∧
    (store p o m v s).poison = s.poison ∧ (store p o m v s).mode = s.mode ∧ (store p o m v s).boot = s.boot ∧
    (store p o m v s).fabric = s.fabric ∧ (store p o m v s).threads = s.threads ∧ (store p o m v s).pkts = s.pkts ∧
    (store p o m v s).nextPkt = s.nextPkt ∧ (store p o m v s).pistes = s.pistes ∧ (store p o m v s).telFaults = s.telFaults ∧
    (store p o m v s).btb = s.btb ∧ (store p o m v s).keyStores = s.keyStores ∧ (store p o m v s).wipes = s.wipes ∧
    (store p o m v s).cells = s.cells ∧ (store p o m v s).badBitmap = s.badBitmap ∧ (store p o m v s).dyn = s.dyn ∧
    (store p o m v s).sema = s.sema ∧ (store p o m v s).hbm = s.hbm ∧ (store p o m v s).cls = s.cls ∧
    (store p o m v s).ports = s.ports ∧ (store p o m v s).fmx = s.fmx ∧ (store p o m v s).tmInbox = s.tmInbox ∧
    (store p o m v s).streams = s.streams ∧ (store p o m v s).sige = s.sige ∧ (store p o m v s).time = s.time ∧
    (store p o m v s).host = s.host ∧ (store p o m v s).safety = s.safety ∧ (store p o m v s).life = s.life ∧
    (store p o m v s).log = s.log ∧ (store p o m v s).tap = s.tap ∧ (store p o m v s).boundary = s.boundary ∧
    (store p o m v s).smbus = s.smbus ∧ (store p o m v s).refOk = s.refOk ∧ (store p o m v s).free = s.free ∧
    (store p o m v s).outs = s.outs ∧ (store p o m v s).pending = s.pending := by
  and_intros <;> rfl

@[simp] theorem setThr_frame (t : Nat) (th : Thread) (s : State) :
    (setThr t th s).part = s.part ∧ (setThr t th s).stepping = s.stepping ∧ (setThr t th s).regs = s.regs ∧
    (setThr t th s).mem = s.mem ∧ (setThr t th s).poison = s.poison ∧ (setThr t th s).mode = s.mode ∧
    (setThr t th s).boot = s.boot ∧ (setThr t th s).fabric = s.fabric ∧ (setThr t th s).pkts = s.pkts ∧
    (setThr t th s).nextPkt = s.nextPkt ∧ (setThr t th s).pistes = s.pistes ∧ (setThr t th s).telFaults = s.telFaults ∧
    (setThr t th s).btb = s.btb ∧ (setThr t th s).keyStores = s.keyStores ∧ (setThr t th s).wipes = s.wipes ∧
    (setThr t th s).cells = s.cells ∧ (setThr t th s).badBitmap = s.badBitmap ∧ (setThr t th s).dyn = s.dyn ∧
    (setThr t th s).sema = s.sema ∧ (setThr t th s).hbm = s.hbm ∧ (setThr t th s).cls = s.cls ∧
    (setThr t th s).ports = s.ports ∧ (setThr t th s).fmx = s.fmx ∧ (setThr t th s).tmInbox = s.tmInbox ∧
    (setThr t th s).streams = s.streams ∧ (setThr t th s).sige = s.sige ∧ (setThr t th s).time = s.time ∧
    (setThr t th s).host = s.host ∧ (setThr t th s).safety = s.safety ∧ (setThr t th s).life = s.life ∧
    (setThr t th s).log = s.log ∧ (setThr t th s).tap = s.tap ∧ (setThr t th s).boundary = s.boundary ∧
    (setThr t th s).smbus = s.smbus ∧ (setThr t th s).refOk = s.refOk ∧ (setThr t th s).free = s.free ∧
    (setThr t th s).outs = s.outs ∧ (setThr t th s).pending = s.pending := by
  and_intros <;> rfl

@[simp] theorem updThr_frame (t : Nat) (f : Thread → Thread) (s : State) :
    (updThr t f s).part = s.part ∧ (updThr t f s).stepping = s.stepping ∧ (updThr t f s).regs = s.regs ∧
    (updThr t f s).mem = s.mem ∧ (updThr t f s).poison = s.poison ∧ (updThr t f s).mode = s.mode ∧
    (updThr t f s).boot = s.boot ∧ (updThr t f s).fabric = s.fabric ∧ (updThr t f s).pkts = s.pkts ∧
    (updThr t f s).nextPkt = s.nextPkt ∧ (updThr t f s).pistes = s.pistes ∧ (updThr t f s).telFaults = s.telFaults ∧
    (updThr t f s).btb = s.btb ∧ (updThr t f s).keyStores = s.keyStores ∧ (updThr t f s).wipes = s.wipes ∧
    (updThr t f s).cells = s.cells ∧ (updThr t f s).badBitmap = s.badBitmap ∧ (updThr t f s).dyn = s.dyn ∧
    (updThr t f s).sema = s.sema ∧ (updThr t f s).hbm = s.hbm ∧ (updThr t f s).cls = s.cls ∧ (updThr t f s).ports = s.ports ∧
    (updThr t f s).fmx = s.fmx ∧ (updThr t f s).tmInbox = s.tmInbox ∧ (updThr t f s).streams = s.streams ∧
    (updThr t f s).sige = s.sige ∧ (updThr t f s).time = s.time ∧ (updThr t f s).host = s.host ∧
    (updThr t f s).safety = s.safety ∧ (updThr t f s).life = s.life ∧ (updThr t f s).log = s.log ∧ (updThr t f s).tap = s.tap ∧
    (updThr t f s).boundary = s.boundary ∧ (updThr t f s).smbus = s.smbus ∧ (updThr t f s).refOk = s.refOk ∧
    (updThr t f s).free = s.free ∧ (updThr t f s).outs = s.outs ∧ (updThr t f s).pending = s.pending := by
  and_intros <;> rfl

@[simp] theorem setReg_g_frame (t : Nat) (r : Reg) (v : W64) (s : State) :
    (setReg' t r v s).part = s.part ∧ (setReg' t r v s).stepping = s.stepping ∧ (setReg' t r v s).regs = s.regs ∧
    (setReg' t r v s).mem = s.mem ∧ (setReg' t r v s).poison = s.poison ∧ (setReg' t r v s).mode = s.mode ∧
    (setReg' t r v s).boot = s.boot ∧ (setReg' t r v s).fabric = s.fabric ∧ (setReg' t r v s).pkts = s.pkts ∧
    (setReg' t r v s).nextPkt = s.nextPkt ∧ (setReg' t r v s).pistes = s.pistes ∧ (setReg' t r v s).telFaults = s.telFaults ∧
    (setReg' t r v s).btb = s.btb ∧ (setReg' t r v s).keyStores = s.keyStores ∧ (setReg' t r v s).wipes = s.wipes ∧
    (setReg' t r v s).cells = s.cells ∧ (setReg' t r v s).badBitmap = s.badBitmap ∧ (setReg' t r v s).dyn = s.dyn ∧
    (setReg' t r v s).sema = s.sema ∧ (setReg' t r v s).hbm = s.hbm ∧ (setReg' t r v s).cls = s.cls ∧
    (setReg' t r v s).ports = s.ports ∧ (setReg' t r v s).fmx = s.fmx ∧ (setReg' t r v s).tmInbox = s.tmInbox ∧
    (setReg' t r v s).streams = s.streams ∧ (setReg' t r v s).sige = s.sige ∧ (setReg' t r v s).time = s.time ∧
    (setReg' t r v s).host = s.host ∧ (setReg' t r v s).safety = s.safety ∧ (setReg' t r v s).life = s.life ∧
    (setReg' t r v s).log = s.log ∧ (setReg' t r v s).tap = s.tap ∧ (setReg' t r v s).boundary = s.boundary ∧
    (setReg' t r v s).smbus = s.smbus ∧ (setReg' t r v s).refOk = s.refOk ∧ (setReg' t r v s).free = s.free ∧
    (setReg' t r v s).outs = s.outs ∧ (setReg' t r v s).pending = s.pending := by
  and_intros <;> rfl

@[simp] theorem updPiste_frame (p : Nat) (f : Piste → Piste) (s : State) :
    (updPiste p f s).part = s.part ∧ (updPiste p f s).stepping = s.stepping ∧ (updPiste p f s).regs = s.regs ∧
    (updPiste p f s).mem = s.mem ∧ (updPiste p f s).poison = s.poison ∧ (updPiste p f s).mode = s.mode ∧
    (updPiste p f s).boot = s.boot ∧ (updPiste p f s).fabric = s.fabric ∧ (updPiste p f s).threads = s.threads ∧
    (updPiste p f s).pkts = s.pkts ∧ (updPiste p f s).nextPkt = s.nextPkt ∧ (updPiste p f s).telFaults = s.telFaults ∧
    (updPiste p f s).btb = s.btb ∧ (updPiste p f s).keyStores = s.keyStores ∧ (updPiste p f s).wipes = s.wipes ∧
    (updPiste p f s).cells = s.cells ∧ (updPiste p f s).badBitmap = s.badBitmap ∧ (updPiste p f s).dyn = s.dyn ∧
    (updPiste p f s).sema = s.sema ∧ (updPiste p f s).hbm = s.hbm ∧ (updPiste p f s).cls = s.cls ∧
    (updPiste p f s).ports = s.ports ∧ (updPiste p f s).fmx = s.fmx ∧ (updPiste p f s).tmInbox = s.tmInbox ∧
    (updPiste p f s).streams = s.streams ∧ (updPiste p f s).sige = s.sige ∧ (updPiste p f s).time = s.time ∧
    (updPiste p f s).host = s.host ∧ (updPiste p f s).safety = s.safety ∧ (updPiste p f s).life = s.life ∧
    (updPiste p f s).log = s.log ∧ (updPiste p f s).tap = s.tap ∧ (updPiste p f s).boundary = s.boundary ∧
    (updPiste p f s).smbus = s.smbus ∧ (updPiste p f s).refOk = s.refOk ∧ (updPiste p f s).free = s.free ∧
    (updPiste p f s).outs = s.outs ∧ (updPiste p f s).pending = s.pending := by
  and_intros <;> rfl

@[simp] theorem setPkt_frame (p : PktId) (k : Packet) (s : State) :
    (setPkt p k s).part = s.part ∧ (setPkt p k s).stepping = s.stepping ∧ (setPkt p k s).regs = s.regs ∧
    (setPkt p k s).mem = s.mem ∧ (setPkt p k s).poison = s.poison ∧ (setPkt p k s).mode = s.mode ∧
    (setPkt p k s).boot = s.boot ∧ (setPkt p k s).fabric = s.fabric ∧ (setPkt p k s).threads = s.threads ∧
    (setPkt p k s).nextPkt = s.nextPkt ∧ (setPkt p k s).pistes = s.pistes ∧ (setPkt p k s).telFaults = s.telFaults ∧
    (setPkt p k s).btb = s.btb ∧ (setPkt p k s).keyStores = s.keyStores ∧ (setPkt p k s).wipes = s.wipes ∧
    (setPkt p k s).cells = s.cells ∧ (setPkt p k s).badBitmap = s.badBitmap ∧ (setPkt p k s).dyn = s.dyn ∧
    (setPkt p k s).sema = s.sema ∧ (setPkt p k s).hbm = s.hbm ∧ (setPkt p k s).cls = s.cls ∧ (setPkt p k s).ports = s.ports ∧
    (setPkt p k s).fmx = s.fmx ∧ (setPkt p k s).tmInbox = s.tmInbox ∧ (setPkt p k s).streams = s.streams ∧
    (setPkt p k s).sige = s.sige ∧ (setPkt p k s).time = s.time ∧ (setPkt p k s).host = s.host ∧
    (setPkt p k s).safety = s.safety ∧ (setPkt p k s).life = s.life ∧ (setPkt p k s).log = s.log ∧ (setPkt p k s).tap = s.tap ∧
    (setPkt p k s).boundary = s.boundary ∧ (setPkt p k s).smbus = s.smbus ∧ (setPkt p k s).refOk = s.refOk ∧
    (setPkt p k s).free = s.free ∧ (setPkt p k s).outs = s.outs ∧ (setPkt p k s).pending = s.pending := by
  and_intros <;> rfl

@[simp] theorem emit_frame (o : Out) (s : State) :
    (emit o s).part = s.part ∧ (emit o s).stepping = s.stepping ∧ (emit o s).regs = s.regs ∧ (emit o s).mem = s.mem ∧
    (emit o s).poison = s.poison ∧ (emit o s).mode = s.mode ∧ (emit o s).boot = s.boot ∧ (emit o s).fabric = s.fabric ∧
    (emit o s).threads = s.threads ∧ (emit o s).pkts = s.pkts ∧ (emit o s).nextPkt = s.nextPkt ∧ (emit o s).pistes = s.pistes ∧
    (emit o s).telFaults = s.telFaults ∧ (emit o s).btb = s.btb ∧ (emit o s).keyStores = s.keyStores ∧
    (emit o s).wipes = s.wipes ∧ (emit o s).cells = s.cells ∧ (emit o s).badBitmap = s.badBitmap ∧ (emit o s).dyn = s.dyn ∧
    (emit o s).sema = s.sema ∧ (emit o s).hbm = s.hbm ∧ (emit o s).cls = s.cls ∧ (emit o s).ports = s.ports ∧
    (emit o s).fmx = s.fmx ∧ (emit o s).tmInbox = s.tmInbox ∧ (emit o s).streams = s.streams ∧ (emit o s).sige = s.sige ∧
    (emit o s).time = s.time ∧ (emit o s).host = s.host ∧ (emit o s).safety = s.safety ∧ (emit o s).life = s.life ∧
    (emit o s).log = s.log ∧ (emit o s).tap = s.tap ∧ (emit o s).boundary = s.boundary ∧ (emit o s).smbus = s.smbus ∧
    (emit o s).refOk = s.refOk ∧ (emit o s).free = s.free ∧ (emit o s).pending = s.pending := by
  and_intros <;> rfl

@[simp] theorem putBytes_frame (a : Nat) (b : Bytes) (s : State) :
    (putBytes a b s).part = s.part ∧ (putBytes a b s).stepping = s.stepping ∧ (putBytes a b s).regs = s.regs ∧
    (putBytes a b s).mode = s.mode ∧ (putBytes a b s).boot = s.boot ∧ (putBytes a b s).fabric = s.fabric ∧
    (putBytes a b s).threads = s.threads ∧ (putBytes a b s).pkts = s.pkts ∧ (putBytes a b s).nextPkt = s.nextPkt ∧
    (putBytes a b s).pistes = s.pistes ∧ (putBytes a b s).telFaults = s.telFaults ∧ (putBytes a b s).btb = s.btb ∧
    (putBytes a b s).keyStores = s.keyStores ∧ (putBytes a b s).wipes = s.wipes ∧ (putBytes a b s).cells = s.cells ∧
    (putBytes a b s).badBitmap = s.badBitmap ∧ (putBytes a b s).dyn = s.dyn ∧ (putBytes a b s).sema = s.sema ∧
    (putBytes a b s).hbm = s.hbm ∧ (putBytes a b s).cls = s.cls ∧ (putBytes a b s).ports = s.ports ∧
    (putBytes a b s).fmx = s.fmx ∧ (putBytes a b s).tmInbox = s.tmInbox ∧ (putBytes a b s).streams = s.streams ∧
    (putBytes a b s).sige = s.sige ∧ (putBytes a b s).time = s.time ∧ (putBytes a b s).host = s.host ∧
    (putBytes a b s).safety = s.safety ∧ (putBytes a b s).life = s.life ∧ (putBytes a b s).log = s.log ∧
    (putBytes a b s).tap = s.tap ∧ (putBytes a b s).boundary = s.boundary ∧ (putBytes a b s).smbus = s.smbus ∧
    (putBytes a b s).refOk = s.refOk ∧ (putBytes a b s).free = s.free ∧ (putBytes a b s).outs = s.outs ∧
    (putBytes a b s).pending = s.pending := by
  and_intros <;> rfl

@[simp] theorem clearMem_frame (a n : Nat) (s : State) :
    (clearMem a n s).part = s.part ∧ (clearMem a n s).stepping = s.stepping ∧ (clearMem a n s).regs = s.regs ∧
    (clearMem a n s).mode = s.mode ∧ (clearMem a n s).boot = s.boot ∧ (clearMem a n s).fabric = s.fabric ∧
    (clearMem a n s).threads = s.threads ∧ (clearMem a n s).pkts = s.pkts ∧ (clearMem a n s).nextPkt = s.nextPkt ∧
    (clearMem a n s).pistes = s.pistes ∧ (clearMem a n s).telFaults = s.telFaults ∧ (clearMem a n s).btb = s.btb ∧
    (clearMem a n s).keyStores = s.keyStores ∧ (clearMem a n s).wipes = s.wipes ∧ (clearMem a n s).cells = s.cells ∧
    (clearMem a n s).badBitmap = s.badBitmap ∧ (clearMem a n s).dyn = s.dyn ∧ (clearMem a n s).sema = s.sema ∧
    (clearMem a n s).hbm = s.hbm ∧ (clearMem a n s).cls = s.cls ∧ (clearMem a n s).ports = s.ports ∧
    (clearMem a n s).fmx = s.fmx ∧ (clearMem a n s).tmInbox = s.tmInbox ∧ (clearMem a n s).streams = s.streams ∧
    (clearMem a n s).sige = s.sige ∧ (clearMem a n s).time = s.time ∧ (clearMem a n s).host = s.host ∧
    (clearMem a n s).safety = s.safety ∧ (clearMem a n s).life = s.life ∧ (clearMem a n s).log = s.log ∧
    (clearMem a n s).tap = s.tap ∧ (clearMem a n s).boundary = s.boundary ∧ (clearMem a n s).smbus = s.smbus ∧
    (clearMem a n s).refOk = s.refOk ∧ (clearMem a n s).free = s.free ∧ (clearMem a n s).outs = s.outs ∧
    (clearMem a n s).pending = s.pending := by
  and_intros <;> rfl

@[simp] theorem poisonMem_frame (a n : Nat) (s : State) :
    (poisonMem a n s).part = s.part ∧ (poisonMem a n s).stepping = s.stepping ∧ (poisonMem a n s).regs = s.regs ∧
    (poisonMem a n s).mem = s.mem ∧ (poisonMem a n s).mode = s.mode ∧ (poisonMem a n s).boot = s.boot ∧
    (poisonMem a n s).fabric = s.fabric ∧ (poisonMem a n s).threads = s.threads ∧ (poisonMem a n s).pkts = s.pkts ∧
    (poisonMem a n s).nextPkt = s.nextPkt ∧ (poisonMem a n s).pistes = s.pistes ∧ (poisonMem a n s).telFaults = s.telFaults ∧
    (poisonMem a n s).btb = s.btb ∧ (poisonMem a n s).keyStores = s.keyStores ∧ (poisonMem a n s).wipes = s.wipes ∧
    (poisonMem a n s).cells = s.cells ∧ (poisonMem a n s).badBitmap = s.badBitmap ∧ (poisonMem a n s).dyn = s.dyn ∧
    (poisonMem a n s).sema = s.sema ∧ (poisonMem a n s).hbm = s.hbm ∧ (poisonMem a n s).cls = s.cls ∧
    (poisonMem a n s).ports = s.ports ∧ (poisonMem a n s).fmx = s.fmx ∧ (poisonMem a n s).tmInbox = s.tmInbox ∧
    (poisonMem a n s).streams = s.streams ∧ (poisonMem a n s).sige = s.sige ∧ (poisonMem a n s).time = s.time ∧
    (poisonMem a n s).host = s.host ∧ (poisonMem a n s).safety = s.safety ∧ (poisonMem a n s).life = s.life ∧
    (poisonMem a n s).log = s.log ∧ (poisonMem a n s).tap = s.tap ∧ (poisonMem a n s).boundary = s.boundary ∧
    (poisonMem a n s).smbus = s.smbus ∧ (poisonMem a n s).refOk = s.refOk ∧ (poisonMem a n s).free = s.free ∧
    (poisonMem a n s).outs = s.outs ∧ (poisonMem a n s).pending = s.pending := by
  and_intros <;> rfl

@[simp] theorem updMode_frame (f : ModeState → ModeState) (s : State) :
    (updMode f s).part = s.part ∧ (updMode f s).stepping = s.stepping ∧ (updMode f s).regs = s.regs ∧
    (updMode f s).mem = s.mem ∧ (updMode f s).poison = s.poison ∧ (updMode f s).boot = s.boot ∧
    (updMode f s).fabric = s.fabric ∧ (updMode f s).threads = s.threads ∧ (updMode f s).pkts = s.pkts ∧
    (updMode f s).nextPkt = s.nextPkt ∧ (updMode f s).pistes = s.pistes ∧ (updMode f s).telFaults = s.telFaults ∧
    (updMode f s).btb = s.btb ∧ (updMode f s).keyStores = s.keyStores ∧ (updMode f s).wipes = s.wipes ∧
    (updMode f s).cells = s.cells ∧ (updMode f s).badBitmap = s.badBitmap ∧ (updMode f s).dyn = s.dyn ∧
    (updMode f s).sema = s.sema ∧ (updMode f s).hbm = s.hbm ∧ (updMode f s).cls = s.cls ∧ (updMode f s).ports = s.ports ∧
    (updMode f s).fmx = s.fmx ∧ (updMode f s).tmInbox = s.tmInbox ∧ (updMode f s).streams = s.streams ∧
    (updMode f s).sige = s.sige ∧ (updMode f s).time = s.time ∧ (updMode f s).host = s.host ∧ (updMode f s).safety = s.safety ∧
    (updMode f s).life = s.life ∧ (updMode f s).log = s.log ∧ (updMode f s).tap = s.tap ∧ (updMode f s).boundary = s.boundary ∧
    (updMode f s).smbus = s.smbus ∧ (updMode f s).refOk = s.refOk ∧ (updMode f s).free = s.free ∧ (updMode f s).outs = s.outs ∧
    (updMode f s).pending = s.pending := by
  and_intros <;> rfl

@[simp] theorem updBoot_frame (f : BootState → BootState) (s : State) :
    (updBoot f s).part = s.part ∧ (updBoot f s).stepping = s.stepping ∧ (updBoot f s).regs = s.regs ∧
    (updBoot f s).mem = s.mem ∧ (updBoot f s).poison = s.poison ∧ (updBoot f s).mode = s.mode ∧
    (updBoot f s).fabric = s.fabric ∧ (updBoot f s).threads = s.threads ∧ (updBoot f s).pkts = s.pkts ∧
    (updBoot f s).nextPkt = s.nextPkt ∧ (updBoot f s).pistes = s.pistes ∧ (updBoot f s).telFaults = s.telFaults ∧
    (updBoot f s).btb = s.btb ∧ (updBoot f s).keyStores = s.keyStores ∧ (updBoot f s).wipes = s.wipes ∧
    (updBoot f s).cells = s.cells ∧ (updBoot f s).badBitmap = s.badBitmap ∧ (updBoot f s).dyn = s.dyn ∧
    (updBoot f s).sema = s.sema ∧ (updBoot f s).hbm = s.hbm ∧ (updBoot f s).cls = s.cls ∧ (updBoot f s).ports = s.ports ∧
    (updBoot f s).fmx = s.fmx ∧ (updBoot f s).tmInbox = s.tmInbox ∧ (updBoot f s).streams = s.streams ∧
    (updBoot f s).sige = s.sige ∧ (updBoot f s).time = s.time ∧ (updBoot f s).host = s.host ∧ (updBoot f s).safety = s.safety ∧
    (updBoot f s).life = s.life ∧ (updBoot f s).log = s.log ∧ (updBoot f s).tap = s.tap ∧ (updBoot f s).boundary = s.boundary ∧
    (updBoot f s).smbus = s.smbus ∧ (updBoot f s).refOk = s.refOk ∧ (updBoot f s).free = s.free ∧ (updBoot f s).outs = s.outs ∧
    (updBoot f s).pending = s.pending := by
  and_intros <;> rfl

@[simp] theorem updFabric_frame (f : FabricState → FabricState) (s : State) :
    (updFabric f s).part = s.part ∧ (updFabric f s).stepping = s.stepping ∧ (updFabric f s).regs = s.regs ∧
    (updFabric f s).mem = s.mem ∧ (updFabric f s).poison = s.poison ∧ (updFabric f s).mode = s.mode ∧
    (updFabric f s).boot = s.boot ∧ (updFabric f s).threads = s.threads ∧ (updFabric f s).pkts = s.pkts ∧
    (updFabric f s).nextPkt = s.nextPkt ∧ (updFabric f s).pistes = s.pistes ∧ (updFabric f s).telFaults = s.telFaults ∧
    (updFabric f s).btb = s.btb ∧ (updFabric f s).keyStores = s.keyStores ∧ (updFabric f s).wipes = s.wipes ∧
    (updFabric f s).cells = s.cells ∧ (updFabric f s).badBitmap = s.badBitmap ∧ (updFabric f s).dyn = s.dyn ∧
    (updFabric f s).sema = s.sema ∧ (updFabric f s).hbm = s.hbm ∧ (updFabric f s).cls = s.cls ∧
    (updFabric f s).ports = s.ports ∧ (updFabric f s).fmx = s.fmx ∧ (updFabric f s).tmInbox = s.tmInbox ∧
    (updFabric f s).streams = s.streams ∧ (updFabric f s).sige = s.sige ∧ (updFabric f s).time = s.time ∧
    (updFabric f s).host = s.host ∧ (updFabric f s).safety = s.safety ∧ (updFabric f s).life = s.life ∧
    (updFabric f s).log = s.log ∧ (updFabric f s).tap = s.tap ∧ (updFabric f s).boundary = s.boundary ∧
    (updFabric f s).smbus = s.smbus ∧ (updFabric f s).refOk = s.refOk ∧ (updFabric f s).free = s.free ∧
    (updFabric f s).outs = s.outs ∧ (updFabric f s).pending = s.pending := by
  and_intros <;> rfl

@[simp] theorem updSafety_frame (f : SafetyState → SafetyState) (s : State) :
    (updSafety f s).part = s.part ∧ (updSafety f s).stepping = s.stepping ∧ (updSafety f s).regs = s.regs ∧
    (updSafety f s).mem = s.mem ∧ (updSafety f s).poison = s.poison ∧ (updSafety f s).mode = s.mode ∧
    (updSafety f s).boot = s.boot ∧ (updSafety f s).fabric = s.fabric ∧ (updSafety f s).threads = s.threads ∧
    (updSafety f s).pkts = s.pkts ∧ (updSafety f s).nextPkt = s.nextPkt ∧ (updSafety f s).pistes = s.pistes ∧
    (updSafety f s).telFaults = s.telFaults ∧ (updSafety f s).btb = s.btb ∧ (updSafety f s).keyStores = s.keyStores ∧
    (updSafety f s).wipes = s.wipes ∧ (updSafety f s).cells = s.cells ∧ (updSafety f s).badBitmap = s.badBitmap ∧
    (updSafety f s).dyn = s.dyn ∧ (updSafety f s).sema = s.sema ∧ (updSafety f s).hbm = s.hbm ∧ (updSafety f s).cls = s.cls ∧
    (updSafety f s).ports = s.ports ∧ (updSafety f s).fmx = s.fmx ∧ (updSafety f s).tmInbox = s.tmInbox ∧
    (updSafety f s).streams = s.streams ∧ (updSafety f s).sige = s.sige ∧ (updSafety f s).time = s.time ∧
    (updSafety f s).host = s.host ∧ (updSafety f s).life = s.life ∧ (updSafety f s).log = s.log ∧ (updSafety f s).tap = s.tap ∧
    (updSafety f s).boundary = s.boundary ∧ (updSafety f s).smbus = s.smbus ∧ (updSafety f s).refOk = s.refOk ∧
    (updSafety f s).free = s.free ∧ (updSafety f s).outs = s.outs ∧ (updSafety f s).pending = s.pending := by
  and_intros <;> rfl

@[simp] theorem updLife_frame (f : LifeState → LifeState) (s : State) :
    (updLife f s).part = s.part ∧ (updLife f s).stepping = s.stepping ∧ (updLife f s).regs = s.regs ∧
    (updLife f s).mem = s.mem ∧ (updLife f s).poison = s.poison ∧ (updLife f s).mode = s.mode ∧ (updLife f s).boot = s.boot ∧
    (updLife f s).fabric = s.fabric ∧ (updLife f s).threads = s.threads ∧ (updLife f s).pkts = s.pkts ∧
    (updLife f s).nextPkt = s.nextPkt ∧ (updLife f s).pistes = s.pistes ∧ (updLife f s).telFaults = s.telFaults ∧
    (updLife f s).btb = s.btb ∧ (updLife f s).keyStores = s.keyStores ∧ (updLife f s).wipes = s.wipes ∧
    (updLife f s).cells = s.cells ∧ (updLife f s).badBitmap = s.badBitmap ∧ (updLife f s).dyn = s.dyn ∧
    (updLife f s).sema = s.sema ∧ (updLife f s).hbm = s.hbm ∧ (updLife f s).cls = s.cls ∧ (updLife f s).ports = s.ports ∧
    (updLife f s).fmx = s.fmx ∧ (updLife f s).tmInbox = s.tmInbox ∧ (updLife f s).streams = s.streams ∧
    (updLife f s).sige = s.sige ∧ (updLife f s).time = s.time ∧ (updLife f s).host = s.host ∧ (updLife f s).safety = s.safety ∧
    (updLife f s).log = s.log ∧ (updLife f s).tap = s.tap ∧ (updLife f s).boundary = s.boundary ∧
    (updLife f s).smbus = s.smbus ∧ (updLife f s).refOk = s.refOk ∧ (updLife f s).free = s.free ∧ (updLife f s).outs = s.outs ∧
    (updLife f s).pending = s.pending := by
  and_intros <;> rfl

@[simp] theorem updCls_frame (f : ClassState → ClassState) (s : State) :
    (updCls f s).part = s.part ∧ (updCls f s).stepping = s.stepping ∧ (updCls f s).regs = s.regs ∧ (updCls f s).mem = s.mem ∧
    (updCls f s).poison = s.poison ∧ (updCls f s).mode = s.mode ∧ (updCls f s).boot = s.boot ∧ (updCls f s).fabric = s.fabric ∧
    (updCls f s).threads = s.threads ∧ (updCls f s).pkts = s.pkts ∧ (updCls f s).nextPkt = s.nextPkt ∧
    (updCls f s).pistes = s.pistes ∧ (updCls f s).telFaults = s.telFaults ∧ (updCls f s).btb = s.btb ∧
    (updCls f s).keyStores = s.keyStores ∧ (updCls f s).wipes = s.wipes ∧ (updCls f s).cells = s.cells ∧
    (updCls f s).badBitmap = s.badBitmap ∧ (updCls f s).dyn = s.dyn ∧ (updCls f s).sema = s.sema ∧ (updCls f s).hbm = s.hbm ∧
    (updCls f s).ports = s.ports ∧ (updCls f s).fmx = s.fmx ∧ (updCls f s).tmInbox = s.tmInbox ∧
    (updCls f s).streams = s.streams ∧ (updCls f s).sige = s.sige ∧ (updCls f s).time = s.time ∧ (updCls f s).host = s.host ∧
    (updCls f s).safety = s.safety ∧ (updCls f s).life = s.life ∧ (updCls f s).log = s.log ∧ (updCls f s).tap = s.tap ∧
    (updCls f s).boundary = s.boundary ∧ (updCls f s).smbus = s.smbus ∧ (updCls f s).refOk = s.refOk ∧
    (updCls f s).free = s.free ∧ (updCls f s).outs = s.outs ∧ (updCls f s).pending = s.pending := by
  and_intros <;> rfl

@[simp] theorem updHbm_frame (f : HbmState → HbmState) (s : State) :
    (updHbm f s).part = s.part ∧ (updHbm f s).stepping = s.stepping ∧ (updHbm f s).regs = s.regs ∧ (updHbm f s).mem = s.mem ∧
    (updHbm f s).poison = s.poison ∧ (updHbm f s).mode = s.mode ∧ (updHbm f s).boot = s.boot ∧ (updHbm f s).fabric = s.fabric ∧
    (updHbm f s).threads = s.threads ∧ (updHbm f s).pkts = s.pkts ∧ (updHbm f s).nextPkt = s.nextPkt ∧
    (updHbm f s).pistes = s.pistes ∧ (updHbm f s).telFaults = s.telFaults ∧ (updHbm f s).btb = s.btb ∧
    (updHbm f s).keyStores = s.keyStores ∧ (updHbm f s).wipes = s.wipes ∧ (updHbm f s).cells = s.cells ∧
    (updHbm f s).badBitmap = s.badBitmap ∧ (updHbm f s).dyn = s.dyn ∧ (updHbm f s).sema = s.sema ∧ (updHbm f s).cls = s.cls ∧
    (updHbm f s).ports = s.ports ∧ (updHbm f s).fmx = s.fmx ∧ (updHbm f s).tmInbox = s.tmInbox ∧
    (updHbm f s).streams = s.streams ∧ (updHbm f s).sige = s.sige ∧ (updHbm f s).time = s.time ∧ (updHbm f s).host = s.host ∧
    (updHbm f s).safety = s.safety ∧ (updHbm f s).life = s.life ∧ (updHbm f s).log = s.log ∧ (updHbm f s).tap = s.tap ∧
    (updHbm f s).boundary = s.boundary ∧ (updHbm f s).smbus = s.smbus ∧ (updHbm f s).refOk = s.refOk ∧
    (updHbm f s).free = s.free ∧ (updHbm f s).outs = s.outs ∧ (updHbm f s).pending = s.pending := by
  and_intros <;> rfl

@[simp] theorem updHost_frame (f : HostState → HostState) (s : State) :
    (updHost f s).part = s.part ∧ (updHost f s).stepping = s.stepping ∧ (updHost f s).regs = s.regs ∧
    (updHost f s).mem = s.mem ∧ (updHost f s).poison = s.poison ∧ (updHost f s).mode = s.mode ∧ (updHost f s).boot = s.boot ∧
    (updHost f s).fabric = s.fabric ∧ (updHost f s).threads = s.threads ∧ (updHost f s).pkts = s.pkts ∧
    (updHost f s).nextPkt = s.nextPkt ∧ (updHost f s).pistes = s.pistes ∧ (updHost f s).telFaults = s.telFaults ∧
    (updHost f s).btb = s.btb ∧ (updHost f s).keyStores = s.keyStores ∧ (updHost f s).wipes = s.wipes ∧
    (updHost f s).cells = s.cells ∧ (updHost f s).badBitmap = s.badBitmap ∧ (updHost f s).dyn = s.dyn ∧
    (updHost f s).sema = s.sema ∧ (updHost f s).hbm = s.hbm ∧ (updHost f s).cls = s.cls ∧ (updHost f s).ports = s.ports ∧
    (updHost f s).fmx = s.fmx ∧ (updHost f s).tmInbox = s.tmInbox ∧ (updHost f s).streams = s.streams ∧
    (updHost f s).sige = s.sige ∧ (updHost f s).time = s.time ∧ (updHost f s).safety = s.safety ∧ (updHost f s).life = s.life ∧
    (updHost f s).log = s.log ∧ (updHost f s).tap = s.tap ∧ (updHost f s).boundary = s.boundary ∧
    (updHost f s).smbus = s.smbus ∧ (updHost f s).refOk = s.refOk ∧ (updHost f s).free = s.free ∧ (updHost f s).outs = s.outs ∧
    (updHost f s).pending = s.pending := by
  and_intros <;> rfl

@[simp] theorem updSema_frame (f : SemaState → SemaState) (s : State) :
    (updSema f s).part = s.part ∧ (updSema f s).stepping = s.stepping ∧ (updSema f s).regs = s.regs ∧
    (updSema f s).mem = s.mem ∧ (updSema f s).poison = s.poison ∧ (updSema f s).mode = s.mode ∧ (updSema f s).boot = s.boot ∧
    (updSema f s).fabric = s.fabric ∧ (updSema f s).threads = s.threads ∧ (updSema f s).pkts = s.pkts ∧
    (updSema f s).nextPkt = s.nextPkt ∧ (updSema f s).pistes = s.pistes ∧ (updSema f s).telFaults = s.telFaults ∧
    (updSema f s).btb = s.btb ∧ (updSema f s).keyStores = s.keyStores ∧ (updSema f s).wipes = s.wipes ∧
    (updSema f s).cells = s.cells ∧ (updSema f s).badBitmap = s.badBitmap ∧ (updSema f s).dyn = s.dyn ∧
    (updSema f s).hbm = s.hbm ∧ (updSema f s).cls = s.cls ∧ (updSema f s).ports = s.ports ∧ (updSema f s).fmx = s.fmx ∧
    (updSema f s).tmInbox = s.tmInbox ∧ (updSema f s).streams = s.streams ∧ (updSema f s).sige = s.sige ∧
    (updSema f s).time = s.time ∧ (updSema f s).host = s.host ∧ (updSema f s).safety = s.safety ∧ (updSema f s).life = s.life ∧
    (updSema f s).log = s.log ∧ (updSema f s).tap = s.tap ∧ (updSema f s).boundary = s.boundary ∧
    (updSema f s).smbus = s.smbus ∧ (updSema f s).refOk = s.refOk ∧ (updSema f s).free = s.free ∧ (updSema f s).outs = s.outs ∧
    (updSema f s).pending = s.pending := by
  and_intros <;> rfl

@[simp] theorem updTime_frame (f : TimeState → TimeState) (s : State) :
    (updTime f s).part = s.part ∧ (updTime f s).stepping = s.stepping ∧ (updTime f s).regs = s.regs ∧
    (updTime f s).mem = s.mem ∧ (updTime f s).poison = s.poison ∧ (updTime f s).mode = s.mode ∧ (updTime f s).boot = s.boot ∧
    (updTime f s).fabric = s.fabric ∧ (updTime f s).threads = s.threads ∧ (updTime f s).pkts = s.pkts ∧
    (updTime f s).nextPkt = s.nextPkt ∧ (updTime f s).pistes = s.pistes ∧ (updTime f s).telFaults = s.telFaults ∧
    (updTime f s).btb = s.btb ∧ (updTime f s).keyStores = s.keyStores ∧ (updTime f s).wipes = s.wipes ∧
    (updTime f s).cells = s.cells ∧ (updTime f s).badBitmap = s.badBitmap ∧ (updTime f s).dyn = s.dyn ∧
    (updTime f s).sema = s.sema ∧ (updTime f s).hbm = s.hbm ∧ (updTime f s).cls = s.cls ∧ (updTime f s).ports = s.ports ∧
    (updTime f s).fmx = s.fmx ∧ (updTime f s).tmInbox = s.tmInbox ∧ (updTime f s).streams = s.streams ∧
    (updTime f s).sige = s.sige ∧ (updTime f s).host = s.host ∧ (updTime f s).safety = s.safety ∧ (updTime f s).life = s.life ∧
    (updTime f s).log = s.log ∧ (updTime f s).tap = s.tap ∧ (updTime f s).boundary = s.boundary ∧
    (updTime f s).smbus = s.smbus ∧ (updTime f s).refOk = s.refOk ∧ (updTime f s).free = s.free ∧ (updTime f s).outs = s.outs ∧
    (updTime f s).pending = s.pending := by
  and_intros <;> rfl

@[simp] theorem updPort_frame (p : Nat) (f : PortState → PortState) (s : State) :
    (updPort p f s).part = s.part ∧ (updPort p f s).stepping = s.stepping ∧ (updPort p f s).regs = s.regs ∧
    (updPort p f s).mem = s.mem ∧ (updPort p f s).poison = s.poison ∧ (updPort p f s).mode = s.mode ∧
    (updPort p f s).boot = s.boot ∧ (updPort p f s).fabric = s.fabric ∧ (updPort p f s).threads = s.threads ∧
    (updPort p f s).pkts = s.pkts ∧ (updPort p f s).nextPkt = s.nextPkt ∧ (updPort p f s).pistes = s.pistes ∧
    (updPort p f s).telFaults = s.telFaults ∧ (updPort p f s).btb = s.btb ∧ (updPort p f s).keyStores = s.keyStores ∧
    (updPort p f s).wipes = s.wipes ∧ (updPort p f s).cells = s.cells ∧ (updPort p f s).badBitmap = s.badBitmap ∧
    (updPort p f s).dyn = s.dyn ∧ (updPort p f s).sema = s.sema ∧ (updPort p f s).hbm = s.hbm ∧ (updPort p f s).cls = s.cls ∧
    (updPort p f s).fmx = s.fmx ∧ (updPort p f s).tmInbox = s.tmInbox ∧ (updPort p f s).streams = s.streams ∧
    (updPort p f s).sige = s.sige ∧ (updPort p f s).time = s.time ∧ (updPort p f s).host = s.host ∧
    (updPort p f s).safety = s.safety ∧ (updPort p f s).life = s.life ∧ (updPort p f s).log = s.log ∧
    (updPort p f s).tap = s.tap ∧ (updPort p f s).boundary = s.boundary ∧ (updPort p f s).smbus = s.smbus ∧
    (updPort p f s).refOk = s.refOk ∧ (updPort p f s).free = s.free ∧ (updPort p f s).outs = s.outs ∧
    (updPort p f s).pending = s.pending := by
  and_intros <;> rfl

@[simp] theorem updFmx_frame (l : Nat) (f : FmxLane → FmxLane) (s : State) :
    (updFmx l f s).part = s.part ∧ (updFmx l f s).stepping = s.stepping ∧ (updFmx l f s).regs = s.regs ∧
    (updFmx l f s).mem = s.mem ∧ (updFmx l f s).poison = s.poison ∧ (updFmx l f s).mode = s.mode ∧
    (updFmx l f s).boot = s.boot ∧ (updFmx l f s).fabric = s.fabric ∧ (updFmx l f s).threads = s.threads ∧
    (updFmx l f s).pkts = s.pkts ∧ (updFmx l f s).nextPkt = s.nextPkt ∧ (updFmx l f s).pistes = s.pistes ∧
    (updFmx l f s).telFaults = s.telFaults ∧ (updFmx l f s).btb = s.btb ∧ (updFmx l f s).keyStores = s.keyStores ∧
    (updFmx l f s).wipes = s.wipes ∧ (updFmx l f s).cells = s.cells ∧ (updFmx l f s).badBitmap = s.badBitmap ∧
    (updFmx l f s).dyn = s.dyn ∧ (updFmx l f s).sema = s.sema ∧ (updFmx l f s).hbm = s.hbm ∧ (updFmx l f s).cls = s.cls ∧
    (updFmx l f s).ports = s.ports ∧ (updFmx l f s).tmInbox = s.tmInbox ∧ (updFmx l f s).streams = s.streams ∧
    (updFmx l f s).sige = s.sige ∧ (updFmx l f s).time = s.time ∧ (updFmx l f s).host = s.host ∧
    (updFmx l f s).safety = s.safety ∧ (updFmx l f s).life = s.life ∧ (updFmx l f s).log = s.log ∧ (updFmx l f s).tap = s.tap ∧
    (updFmx l f s).boundary = s.boundary ∧ (updFmx l f s).smbus = s.smbus ∧ (updFmx l f s).refOk = s.refOk ∧
    (updFmx l f s).free = s.free ∧ (updFmx l f s).outs = s.outs ∧ (updFmx l f s).pending = s.pending := by
  and_intros <;> rfl

@[simp] theorem updInst_frame (i : Nat) (f : Instance → Instance) (s : State) :
    (updInst i f s).part = s.part ∧ (updInst i f s).stepping = s.stepping ∧ (updInst i f s).regs = s.regs ∧
    (updInst i f s).mem = s.mem ∧ (updInst i f s).poison = s.poison ∧ (updInst i f s).mode = s.mode ∧
    (updInst i f s).boot = s.boot ∧ (updInst i f s).fabric = s.fabric ∧ (updInst i f s).threads = s.threads ∧
    (updInst i f s).pkts = s.pkts ∧ (updInst i f s).nextPkt = s.nextPkt ∧ (updInst i f s).pistes = s.pistes ∧
    (updInst i f s).telFaults = s.telFaults ∧ (updInst i f s).btb = s.btb ∧ (updInst i f s).keyStores = s.keyStores ∧
    (updInst i f s).wipes = s.wipes ∧ (updInst i f s).cells = s.cells ∧ (updInst i f s).badBitmap = s.badBitmap ∧
    (updInst i f s).dyn = s.dyn ∧ (updInst i f s).sema = s.sema ∧ (updInst i f s).hbm = s.hbm ∧ (updInst i f s).cls = s.cls ∧
    (updInst i f s).ports = s.ports ∧ (updInst i f s).fmx = s.fmx ∧ (updInst i f s).tmInbox = s.tmInbox ∧
    (updInst i f s).streams = s.streams ∧ (updInst i f s).sige = s.sige ∧ (updInst i f s).time = s.time ∧
    (updInst i f s).safety = s.safety ∧ (updInst i f s).life = s.life ∧ (updInst i f s).log = s.log ∧
    (updInst i f s).tap = s.tap ∧ (updInst i f s).boundary = s.boundary ∧ (updInst i f s).smbus = s.smbus ∧
    (updInst i f s).refOk = s.refOk ∧ (updInst i f s).free = s.free ∧ (updInst i f s).outs = s.outs ∧
    (updInst i f s).pending = s.pending := by
  and_intros <;> rfl

@[simp] theorem updXchk_frame (k : Nat) (f : Xchk → Xchk) (s : State) :
    (updXchk k f s).part = s.part ∧ (updXchk k f s).stepping = s.stepping ∧ (updXchk k f s).regs = s.regs ∧
    (updXchk k f s).mem = s.mem ∧ (updXchk k f s).poison = s.poison ∧ (updXchk k f s).mode = s.mode ∧
    (updXchk k f s).boot = s.boot ∧ (updXchk k f s).fabric = s.fabric ∧ (updXchk k f s).threads = s.threads ∧
    (updXchk k f s).pkts = s.pkts ∧ (updXchk k f s).nextPkt = s.nextPkt ∧ (updXchk k f s).pistes = s.pistes ∧
    (updXchk k f s).telFaults = s.telFaults ∧ (updXchk k f s).btb = s.btb ∧ (updXchk k f s).keyStores = s.keyStores ∧
    (updXchk k f s).wipes = s.wipes ∧ (updXchk k f s).cells = s.cells ∧ (updXchk k f s).badBitmap = s.badBitmap ∧
    (updXchk k f s).dyn = s.dyn ∧ (updXchk k f s).sema = s.sema ∧ (updXchk k f s).hbm = s.hbm ∧ (updXchk k f s).cls = s.cls ∧
    (updXchk k f s).ports = s.ports ∧ (updXchk k f s).fmx = s.fmx ∧ (updXchk k f s).tmInbox = s.tmInbox ∧
    (updXchk k f s).streams = s.streams ∧ (updXchk k f s).time = s.time ∧ (updXchk k f s).host = s.host ∧
    (updXchk k f s).safety = s.safety ∧ (updXchk k f s).life = s.life ∧ (updXchk k f s).log = s.log ∧
    (updXchk k f s).tap = s.tap ∧ (updXchk k f s).boundary = s.boundary ∧ (updXchk k f s).smbus = s.smbus ∧
    (updXchk k f s).refOk = s.refOk ∧ (updXchk k f s).free = s.free ∧ (updXchk k f s).outs = s.outs ∧
    (updXchk k f s).pending = s.pending := by
  and_intros <;> rfl

@[simp] theorem updGraph_frame (g : Nat) (f : Graph → Graph) (s : State) :
    (updGraph g f s).part = s.part ∧ (updGraph g f s).stepping = s.stepping ∧ (updGraph g f s).regs = s.regs ∧
    (updGraph g f s).mem = s.mem ∧ (updGraph g f s).poison = s.poison ∧ (updGraph g f s).mode = s.mode ∧
    (updGraph g f s).boot = s.boot ∧ (updGraph g f s).fabric = s.fabric ∧ (updGraph g f s).threads = s.threads ∧
    (updGraph g f s).pkts = s.pkts ∧ (updGraph g f s).nextPkt = s.nextPkt ∧ (updGraph g f s).pistes = s.pistes ∧
    (updGraph g f s).telFaults = s.telFaults ∧ (updGraph g f s).btb = s.btb ∧ (updGraph g f s).keyStores = s.keyStores ∧
    (updGraph g f s).wipes = s.wipes ∧ (updGraph g f s).cells = s.cells ∧ (updGraph g f s).badBitmap = s.badBitmap ∧
    (updGraph g f s).dyn = s.dyn ∧ (updGraph g f s).sema = s.sema ∧ (updGraph g f s).hbm = s.hbm ∧
    (updGraph g f s).cls = s.cls ∧ (updGraph g f s).ports = s.ports ∧ (updGraph g f s).fmx = s.fmx ∧
    (updGraph g f s).tmInbox = s.tmInbox ∧ (updGraph g f s).streams = s.streams ∧ (updGraph g f s).time = s.time ∧
    (updGraph g f s).host = s.host ∧ (updGraph g f s).safety = s.safety ∧ (updGraph g f s).life = s.life ∧
    (updGraph g f s).log = s.log ∧ (updGraph g f s).tap = s.tap ∧ (updGraph g f s).boundary = s.boundary ∧
    (updGraph g f s).smbus = s.smbus ∧ (updGraph g f s).refOk = s.refOk ∧ (updGraph g f s).free = s.free ∧
    (updGraph g f s).outs = s.outs ∧ (updGraph g f s).pending = s.pending := by
  and_intros <;> rfl

@[simp] theorem post_frame (k p a b : Nat) (s : State) :
    (post k p a b s).part = s.part ∧ (post k p a b s).stepping = s.stepping ∧ (post k p a b s).regs = s.regs ∧
    (post k p a b s).mem = s.mem ∧ (post k p a b s).poison = s.poison ∧ (post k p a b s).mode = s.mode ∧
    (post k p a b s).boot = s.boot ∧ (post k p a b s).fabric = s.fabric ∧ (post k p a b s).threads = s.threads ∧
    (post k p a b s).pkts = s.pkts ∧ (post k p a b s).nextPkt = s.nextPkt ∧ (post k p a b s).pistes = s.pistes ∧
    (post k p a b s).telFaults = s.telFaults ∧ (post k p a b s).btb = s.btb ∧ (post k p a b s).keyStores = s.keyStores ∧
    (post k p a b s).wipes = s.wipes ∧ (post k p a b s).cells = s.cells ∧ (post k p a b s).badBitmap = s.badBitmap ∧
    (post k p a b s).dyn = s.dyn ∧ (post k p a b s).sema = s.sema ∧ (post k p a b s).hbm = s.hbm ∧
    (post k p a b s).cls = s.cls ∧ (post k p a b s).ports = s.ports ∧ (post k p a b s).fmx = s.fmx ∧
    (post k p a b s).tmInbox = s.tmInbox ∧ (post k p a b s).streams = s.streams ∧ (post k p a b s).sige = s.sige ∧
    (post k p a b s).time = s.time ∧ (post k p a b s).host = s.host ∧ (post k p a b s).life = s.life ∧
    (post k p a b s).log = s.log ∧ (post k p a b s).tap = s.tap ∧ (post k p a b s).boundary = s.boundary ∧
    (post k p a b s).smbus = s.smbus ∧ (post k p a b s).refOk = s.refOk ∧ (post k p a b s).free = s.free ∧
    (post k p a b s).outs = s.outs ∧ (post k p a b s).pending = s.pending := by
  and_intros <;> rfl

theorem notify_eq (p : Nat) (s : State) : notify p s =
    { s with outs := (notify p s).outs } := by unfold notify; dsimp only; repeat (first | rfl | split)
@[simp] theorem notify_frame (p : Nat) (s : State) :
    (notify p s).part = s.part ∧ (notify p s).stepping = s.stepping ∧ (notify p s).regs = s.regs ∧ (notify p s).mem = s.mem ∧
    (notify p s).poison = s.poison ∧ (notify p s).mode = s.mode ∧ (notify p s).boot = s.boot ∧ (notify p s).fabric = s.fabric ∧
    (notify p s).threads = s.threads ∧ (notify p s).pkts = s.pkts ∧ (notify p s).nextPkt = s.nextPkt ∧
    (notify p s).pistes = s.pistes ∧ (notify p s).telFaults = s.telFaults ∧ (notify p s).btb = s.btb ∧
    (notify p s).keyStores = s.keyStores ∧ (notify p s).wipes = s.wipes ∧ (notify p s).cells = s.cells ∧
    (notify p s).badBitmap = s.badBitmap ∧ (notify p s).dyn = s.dyn ∧ (notify p s).sema = s.sema ∧ (notify p s).hbm = s.hbm ∧
    (notify p s).cls = s.cls ∧ (notify p s).ports = s.ports ∧ (notify p s).fmx = s.fmx ∧ (notify p s).tmInbox = s.tmInbox ∧
    (notify p s).streams = s.streams ∧ (notify p s).sige = s.sige ∧ (notify p s).time = s.time ∧ (notify p s).host = s.host ∧
    (notify p s).safety = s.safety ∧ (notify p s).life = s.life ∧ (notify p s).log = s.log ∧ (notify p s).tap = s.tap ∧
    (notify p s).boundary = s.boundary ∧ (notify p s).smbus = s.smbus ∧ (notify p s).refOk = s.refOk ∧
    (notify p s).free = s.free ∧ (notify p s).pending = s.pending := by
  rw [notify_eq]; and_intros <;> rfl

theorem raise_eq (p : Nat) (c : Word) (s : State) : raise p c s =
    { s with regs := (raise p c s).regs, outs := (raise p c s).outs } := by unfold raise; dsimp only; rw [notify_eq]; repeat (first | rfl | split)
@[simp] theorem raise_frame (p : Nat) (c : Word) (s : State) :
    (raise p c s).part = s.part ∧ (raise p c s).stepping = s.stepping ∧ (raise p c s).mem = s.mem ∧
    (raise p c s).poison = s.poison ∧ (raise p c s).mode = s.mode ∧ (raise p c s).boot = s.boot ∧
    (raise p c s).fabric = s.fabric ∧ (raise p c s).threads = s.threads ∧ (raise p c s).pkts = s.pkts ∧
    (raise p c s).nextPkt = s.nextPkt ∧ (raise p c s).pistes = s.pistes ∧ (raise p c s).telFaults = s.telFaults ∧
    (raise p c s).btb = s.btb ∧ (raise p c s).keyStores = s.keyStores ∧ (raise p c s).wipes = s.wipes ∧
    (raise p c s).cells = s.cells ∧ (raise p c s).badBitmap = s.badBitmap ∧ (raise p c s).dyn = s.dyn ∧
    (raise p c s).sema = s.sema ∧ (raise p c s).hbm = s.hbm ∧ (raise p c s).cls = s.cls ∧ (raise p c s).ports = s.ports ∧
    (raise p c s).fmx = s.fmx ∧ (raise p c s).tmInbox = s.tmInbox ∧ (raise p c s).streams = s.streams ∧
    (raise p c s).sige = s.sige ∧ (raise p c s).time = s.time ∧ (raise p c s).host = s.host ∧ (raise p c s).safety = s.safety ∧
    (raise p c s).life = s.life ∧ (raise p c s).log = s.log ∧ (raise p c s).tap = s.tap ∧ (raise p c s).boundary = s.boundary ∧
    (raise p c s).smbus = s.smbus ∧ (raise p c s).refOk = s.refOk ∧ (raise p c s).free = s.free ∧
    (raise p c s).pending = s.pending := by
  rw [raise_eq]; and_intros <;> rfl

theorem raiseBit_eq (p i : Nat) (s : State) : raiseBit p i s =
    { s with regs := (raiseBit p i s).regs, outs := (raiseBit p i s).outs } := by unfold raiseBit; exact raise_eq ..
@[simp] theorem raiseBit_frame (p i : Nat) (s : State) :
    (raiseBit p i s).part = s.part ∧ (raiseBit p i s).stepping = s.stepping ∧ (raiseBit p i s).mem = s.mem ∧
    (raiseBit p i s).poison = s.poison ∧ (raiseBit p i s).mode = s.mode ∧ (raiseBit p i s).boot = s.boot ∧
    (raiseBit p i s).fabric = s.fabric ∧ (raiseBit p i s).threads = s.threads ∧ (raiseBit p i s).pkts = s.pkts ∧
    (raiseBit p i s).nextPkt = s.nextPkt ∧ (raiseBit p i s).pistes = s.pistes ∧ (raiseBit p i s).telFaults = s.telFaults ∧
    (raiseBit p i s).btb = s.btb ∧ (raiseBit p i s).keyStores = s.keyStores ∧ (raiseBit p i s).wipes = s.wipes ∧
    (raiseBit p i s).cells = s.cells ∧ (raiseBit p i s).badBitmap = s.badBitmap ∧ (raiseBit p i s).dyn = s.dyn ∧
    (raiseBit p i s).sema = s.sema ∧ (raiseBit p i s).hbm = s.hbm ∧ (raiseBit p i s).cls = s.cls ∧
    (raiseBit p i s).ports = s.ports ∧ (raiseBit p i s).fmx = s.fmx ∧ (raiseBit p i s).tmInbox = s.tmInbox ∧
    (raiseBit p i s).streams = s.streams ∧ (raiseBit p i s).sige = s.sige ∧ (raiseBit p i s).time = s.time ∧
    (raiseBit p i s).host = s.host ∧ (raiseBit p i s).safety = s.safety ∧ (raiseBit p i s).life = s.life ∧
    (raiseBit p i s).log = s.log ∧ (raiseBit p i s).tap = s.tap ∧ (raiseBit p i s).boundary = s.boundary ∧
    (raiseBit p i s).smbus = s.smbus ∧ (raiseBit p i s).refOk = s.refOk ∧ (raiseBit p i s).free = s.free ∧
    (raiseBit p i s).pending = s.pending := by
  rw [raiseBit_eq]; and_intros <;> rfl

theorem logAdd_eq (k p a b c : Nat) (s : State) : logAdd k p a b c s =
    { s with regs := (logAdd k p a b c s).regs, log := (logAdd k p a b c s).log } := by unfold logAdd; dsimp only; split <;> rfl
@[simp] theorem logAdd_frame (k p a b c : Nat) (s : State) :
    (logAdd k p a b c s).part = s.part ∧ (logAdd k p a b c s).stepping = s.stepping ∧ (logAdd k p a b c s).mem = s.mem ∧
    (logAdd k p a b c s).poison = s.poison ∧ (logAdd k p a b c s).mode = s.mode ∧ (logAdd k p a b c s).boot = s.boot ∧
    (logAdd k p a b c s).fabric = s.fabric ∧ (logAdd k p a b c s).threads = s.threads ∧ (logAdd k p a b c s).pkts = s.pkts ∧
    (logAdd k p a b c s).nextPkt = s.nextPkt ∧ (logAdd k p a b c s).pistes = s.pistes ∧
    (logAdd k p a b c s).telFaults = s.telFaults ∧ (logAdd k p a b c s).btb = s.btb ∧
    (logAdd k p a b c s).keyStores = s.keyStores ∧ (logAdd k p a b c s).wipes = s.wipes ∧
    (logAdd k p a b c s).cells = s.cells ∧ (logAdd k p a b c s).badBitmap = s.badBitmap ∧ (logAdd k p a b c s).dyn = s.dyn ∧
    (logAdd k p a b c s).sema = s.sema ∧ (logAdd k p a b c s).hbm = s.hbm ∧ (logAdd k p a b c s).cls = s.cls ∧
    (logAdd k p a b c s).ports = s.ports ∧ (logAdd k p a b c s).fmx = s.fmx ∧ (logAdd k p a b c s).tmInbox = s.tmInbox ∧
    (logAdd k p a b c s).streams = s.streams ∧ (logAdd k p a b c s).sige = s.sige ∧ (logAdd k p a b c s).time = s.time ∧
    (logAdd k p a b c s).host = s.host ∧ (logAdd k p a b c s).safety = s.safety ∧ (logAdd k p a b c s).life = s.life ∧
    (logAdd k p a b c s).tap = s.tap ∧ (logAdd k p a b c s).boundary = s.boundary ∧ (logAdd k p a b c s).smbus = s.smbus ∧
    (logAdd k p a b c s).refOk = s.refOk ∧ (logAdd k p a b c s).free = s.free ∧ (logAdd k p a b c s).outs = s.outs ∧
    (logAdd k p a b c s).pending = s.pending := by
  rw [logAdd_eq]; and_intros <;> rfl

theorem cmdDone_eq (p o : Nat) (st : Status) (s : State) : cmdDone p o st s =
    { s with regs := (cmdDone p o st s).regs, outs := (cmdDone p o st s).outs } := by unfold cmdDone; rw [raiseBit_eq]; rfl
@[simp] theorem cmdDone_frame (p o : Nat) (st : Status) (s : State) :
    (cmdDone p o st s).part = s.part ∧ (cmdDone p o st s).stepping = s.stepping ∧ (cmdDone p o st s).mem = s.mem ∧
    (cmdDone p o st s).poison = s.poison ∧ (cmdDone p o st s).mode = s.mode ∧ (cmdDone p o st s).boot = s.boot ∧
    (cmdDone p o st s).fabric = s.fabric ∧ (cmdDone p o st s).threads = s.threads ∧ (cmdDone p o st s).pkts = s.pkts ∧
    (cmdDone p o st s).nextPkt = s.nextPkt ∧ (cmdDone p o st s).pistes = s.pistes ∧
    (cmdDone p o st s).telFaults = s.telFaults ∧ (cmdDone p o st s).btb = s.btb ∧ (cmdDone p o st s).keyStores = s.keyStores ∧
    (cmdDone p o st s).wipes = s.wipes ∧ (cmdDone p o st s).cells = s.cells ∧ (cmdDone p o st s).badBitmap = s.badBitmap ∧
    (cmdDone p o st s).dyn = s.dyn ∧ (cmdDone p o st s).sema = s.sema ∧ (cmdDone p o st s).hbm = s.hbm ∧
    (cmdDone p o st s).cls = s.cls ∧ (cmdDone p o st s).ports = s.ports ∧ (cmdDone p o st s).fmx = s.fmx ∧
    (cmdDone p o st s).tmInbox = s.tmInbox ∧ (cmdDone p o st s).streams = s.streams ∧ (cmdDone p o st s).sige = s.sige ∧
    (cmdDone p o st s).time = s.time ∧ (cmdDone p o st s).host = s.host ∧ (cmdDone p o st s).safety = s.safety ∧
    (cmdDone p o st s).life = s.life ∧ (cmdDone p o st s).log = s.log ∧ (cmdDone p o st s).tap = s.tap ∧
    (cmdDone p o st s).boundary = s.boundary ∧ (cmdDone p o st s).smbus = s.smbus ∧ (cmdDone p o st s).refOk = s.refOk ∧
    (cmdDone p o st s).free = s.free ∧ (cmdDone p o st s).pending = s.pending := by
  rw [cmdDone_eq]; and_intros <;> rfl

theorem endDeadlock_eq (t : Nat) (s : State) : endDeadlock t s =
    { s with pistes := (endDeadlock t s).pistes } := by unfold endDeadlock; split <;> rfl
@[simp] theorem endDeadlock_frame (t : Nat) (s : State) :
    (endDeadlock t s).part = s.part ∧ (endDeadlock t s).stepping = s.stepping ∧ (endDeadlock t s).regs = s.regs ∧
    (endDeadlock t s).mem = s.mem ∧ (endDeadlock t s).poison = s.poison ∧ (endDeadlock t s).mode = s.mode ∧
    (endDeadlock t s).boot = s.boot ∧ (endDeadlock t s).fabric = s.fabric ∧ (endDeadlock t s).threads = s.threads ∧
    (endDeadlock t s).pkts = s.pkts ∧ (endDeadlock t s).nextPkt = s.nextPkt ∧ (endDeadlock t s).telFaults = s.telFaults ∧
    (endDeadlock t s).btb = s.btb ∧ (endDeadlock t s).keyStores = s.keyStores ∧ (endDeadlock t s).wipes = s.wipes ∧
    (endDeadlock t s).cells = s.cells ∧ (endDeadlock t s).badBitmap = s.badBitmap ∧ (endDeadlock t s).dyn = s.dyn ∧
    (endDeadlock t s).sema = s.sema ∧ (endDeadlock t s).hbm = s.hbm ∧ (endDeadlock t s).cls = s.cls ∧
    (endDeadlock t s).ports = s.ports ∧ (endDeadlock t s).fmx = s.fmx ∧ (endDeadlock t s).tmInbox = s.tmInbox ∧
    (endDeadlock t s).streams = s.streams ∧ (endDeadlock t s).sige = s.sige ∧ (endDeadlock t s).time = s.time ∧
    (endDeadlock t s).host = s.host ∧ (endDeadlock t s).safety = s.safety ∧ (endDeadlock t s).life = s.life ∧
    (endDeadlock t s).log = s.log ∧ (endDeadlock t s).tap = s.tap ∧ (endDeadlock t s).boundary = s.boundary ∧
    (endDeadlock t s).smbus = s.smbus ∧ (endDeadlock t s).refOk = s.refOk ∧ (endDeadlock t s).free = s.free ∧
    (endDeadlock t s).outs = s.outs ∧ (endDeadlock t s).pending = s.pending := by
  rw [endDeadlock_eq]; and_intros <;> rfl

/-! ### Reading after writing -/

theorem regK_setRegK (s : State) (k k' : Nat) (v : Word) : (setRegK k v s).regK k' = if k' = k then v else s.regK k' := by
  unfold State.regK setRegK
  split
  · rename_i h; by_cases e : k' = k
    · subst e; simp_all
    · simp_all [sfind_sset_ne s.regs v e]
  · rename_i h; by_cases e : k' = k
    · subst e; simp_all
    · simp_all [sfind_sset_ne s.regs v e]

theorem reg_setReg (s : State) (p o p' o' : Nat) (v : Word) :
    (setReg p o v s).reg p' o' = if regKey p' o' = regKey p o then v else s.reg p' o' := regK_setRegK ..

@[simp] theorem reg_setReg_same (s : State) (p o : Nat) (v : Word) : (setReg p o v s).reg p o = v := by simp [reg_setReg]

theorem reg_setReg_ne (s : State) {p o p' o' : Nat} (v : Word) (h : regKey p' o' ≠ regKey p o) :
    (setReg p o v s).reg p' o' = s.reg p' o' := by simp [reg_setReg, h]

@[simp] theorem thr_setThr_same (s : State) (t : Nat) (th : Thread) : (setThr t th s).thr t = th := by
  simp [State.thr, setThr]

theorem thr_setThr_ne (s : State) {t t' : Nat} (th : Thread) (h : t' ≠ t) : (setThr t th s).thr t' = s.thr t' := by
  simp [State.thr, setThr, sget_sset_ne _ _ _ h]

@[simp] theorem thr_updThr_same (s : State) (t : Nat) (f : Thread → Thread) : (updThr t f s).thr t = f (s.thr t) := by
  simp [updThr]

@[simp] theorem setThr_setThr (s : State) (t : Nat) (a b : Thread) : setThr t b (setThr t a s) = setThr t b s := by
  simp [setThr]

@[simp] theorem piste_updPiste_same (s : State) (p : Nat) (f : Piste → Piste) : (updPiste p f s).piste p = f (s.piste p) := by
  simp [State.piste, updPiste]

@[simp] theorem pkt_setPkt_same (s : State) (p : PktId) (k : Packet) : (setPkt p k s).pkt p = some k := by
  simp [State.pkt, setPkt]

/-- A general register read back: g0 reads zero whatever was written (R186). -/
theorem rg_setRg (th : Thread) (r r' : Reg) (v : W64) :
    (th.setRg r v).rg r' = if r' = 0 then 0 else if r' = r then v else th.rg r' := by
  unfold Thread.setRg Thread.rg
  by_cases h0 : r' = 0#5
  · simp [h0]
  · by_cases h : r' = r
    · subst h; simp [h0]
    · have hn : r'.toNat ≠ r.toNat := fun e => h (BitVec.eq_of_toNat_eq e)
      by_cases hr : r = 0#5 <;> simp [h0, h, hr, sget_sset_ne _ _ _ hn]

/-- The status that a completed command leaves, where the status register is not INT_STATUS. -/
theorem reg_notify (s : State) (p q o : Nat) : (notify p s).reg q o = s.reg q o := by
  unfold State.reg State.regK; simp

theorem reg_emit (s : State) (x : Out) (q o : Nat) : (emit x s).reg q o = s.reg q o := rfl

theorem reg_raise (s : State) (p q o : Nat) (c : Word) :
    (raise p c s).reg q o = if regKey q o = regKey p 0x20 then s.reg p 0x20 ||| c else s.reg q o := by
  unfold raise
  simp only []
  split <;> split <;> simp only [reg_notify, reg_emit, reg_setReg]

/-- The status register of a command that has completed. -/
theorem reg_cmdDone (s : State) (p o : Nat) (st : Status) (h : regKey p o ≠ regKey p 0x20) :
    (cmdDone p o st s).reg p o = w32 (0x80000000 + st.code) := by
  simp [cmdDone, raiseBit, reg_raise, h]

end Sys2Proof.Machine
end

