-- ==== Sys2Proof/Laws/Commands.lean ====
section
/-! SUPPORT. What a permitted register write and a permitted command come to, and what an instruction of a quiet thread comes to:
the lemmas that later proofs cite in place of unfolding the shared operations. -/
namespace Sys2Proof.Machine
open Sys2Proof

theorem mayWrite_iff {s : State} {req : Requester} {page off : Nat} (h : s.mayWrite req page off = true) :
    reqOk s.part req = true ∧ s.live = true ∧ ∃ k, pageKind s.part page = some k ∧ judge s req k page off = [] := by
  unfold State.mayWrite at h
  cases hk : pageKind s.part page <;> simp_all

/-- A permitted write outside the configuration set is what the register's own rules make of it. -/
theorem writeReg_ok {s s' : State} {req : Requester} {page off : Nat} {h : State → WRes}
    (hp : s.mayWrite req page off = true) (hc : isCfg off = false) (hs : h s = .ok s') :
    writeReg req page off h s = (s', some .ok) := by
  obtain ⟨-, hl, k, hk, hj⟩ := mayWrite_iff hp
  simp [writeReg, hl, hk, hs, hj, firstStatus, hc]

/-- A permitted write that the register's own rules refuse is refused with their code. -/
theorem writeReg_refused {s : State} {req : Requester} {page off : Nat} {h : State → WRes} {st : Status}
    (hp : s.mayWrite req page off = true) (hs : h s = .refuse st) :
    ∃ k, pageKind s.part page = some k ∧ writeReg req page off h s = (refuse req page off st (touchesSafety k off) s, some st) := by
  obtain ⟨-, hl, k, hk, hj⟩ := mayWrite_iff hp
  exact ⟨k, hk, by simp [writeReg, hl, hk, hs, hj, firstStatus]⟩

/-- A permitted row outside the configuration set. -/
theorem regRow_ok {s s' : State} {req : Requester} {page off : Nat} {h : State → WRes}
    (hp : s.mayWrite req page off = true) (hc : isCfg off = false) (hs : h s = .ok s') : regRow req page off h s = s' := by
  simp [regRow, (mayWrite_iff hp).1, writeReg_ok hp hc hs]

/-- A permitted command whose body answers a code has completed with it. -/
theorem cmdRow_done {s s' : State} {req : Requester} {page off sOff : Nat} {body : State → Option Status × State} {st : Status}
    (hp : s.mayCommand req page off sOff = true) (hb : body s = (some st, s')) :
    cmdRow req page off sOff body s = cmdDone page sOff st s' := by
  simp only [State.mayCommand, Bool.and_eq_true, Bool.not_eq_true'] at hp
  exact regRow_ok hp.1.1 hp.1.2 (by simp [command, hp.2, hb])

/-- A permitted command whose body answers no code runs on: its interface is BUSY. -/
theorem cmdRow_busy {s s' : State} {req : Requester} {page off sOff : Nat} {body : State → Option Status × State}
    (hp : s.mayCommand req page off sOff = true) (hb : body s = (none, s')) :
    cmdRow req page off sOff body s = setReg page sOff 0x40000000 s' := by
  simp only [State.mayCommand, Bool.and_eq_true, Bool.not_eq_true'] at hp
  exact regRow_ok hp.1.1 hp.1.2 (by simp [command, hp.2, hb])

theorem steady_iff {s : State} {t : Tid} (h : s.steady t = true) :
    s.canRun t.toNat = true ∧ s.fetchOk t.toNat = true ∧
      (if (s.thr t.toNat).skipBp then none else s.bpHit t.toNat [0] (s.thr t.toNat).pc.toNat 4) = none := by
  simp only [State.steady, Bool.and_eq_true, Bool.or_eq_true] at h
  obtain ⟨⟨h1, h2⟩, h3⟩ := h
  refine ⟨h1, h2, ?_⟩
  split
  · rfl
  · simpa [*] using h3

theorem runInsn_congr {s : State} {t : Tid} (w : Word) {a b : Thread → State → Body} (hr : s.steady t = true)
    (h : a (s.thr t.toNat) s = b (s.thr t.toNat) s) : runInsn w t.toNat a s = runInsn w t.toNat b s := by
  obtain ⟨h1, h2, h3⟩ := steady_iff hr
  simp [runInsn, h1, h2, h3, h]

/-! ### What an instruction of a thread that can run it comes to, form by form of its body -/

theorem runInsn_retire {s : State} {s' : State} {t : Tid} (w : Word) {body : Thread → State → Body}
    (hr : s.steady t = true) (hb : body (s.thr t.toNat) s = (.retire s')) :
    runInsn w t.toNat body s = finish w t.toNat ((s.thr t.toNat).pc.toNat + 4) s' := by
  obtain ⟨h1, h2, h3⟩ := steady_iff hr
  simp [runInsn, h1, h2, h3, hb]

theorem runInsn_access {s : State} {s' : State} {t : Tid} (w : Word) {body : Thread → State → Body} {load store : Bool} {a n : Nat}
    (hr : s.steady t = true) (hb : body (s.thr t.toNat) s = (.access load store a n s')) :
    runInsn w t.toNat body s = dataBreak t.toNat load store a n (finish w t.toNat ((s.thr t.toNat).pc.toNat + 4) s') := by
  obtain ⟨h1, h2, h3⟩ := steady_iff hr
  simp [runInsn, h1, h2, h3, hb]

theorem runInsn_jump {s : State} {s' : State} {t : Tid} (w : Word) {body : Thread → State → Body} {pc : Nat}
    (hr : s.steady t = true) (hb : body (s.thr t.toNat) s = (.jump pc s')) :
    runInsn w t.toNat body s = finish w t.toNat pc s' := by
  obtain ⟨h1, h2, h3⟩ := steady_iff hr
  simp [runInsn, h1, h2, h3, hb]

theorem runInsn_park {s : State} {s' : State} {t : Tid} (w : Word) {body : Thread → State → Body} {op : Parked}
    (hr : s.steady t = true) (hb : body (s.thr t.toNat) s = (.park op s')) :
    runInsn w t.toNat body s = updThr t.toNat (fun th => { th with st := .parked, park := some (op, w) }) s' := by
  obtain ⟨h1, h2, h3⟩ := steady_iff hr
  simp [runInsn, h1, h2, h3, hb]

theorem runInsn_wait {s : State} {s' : State} {t : Tid} (w : Word) {body : Thread → State → Body} {rd : Reg}
    (hr : s.steady t = true) (hb : body (s.thr t.toNat) s = (.wait rd s')) :
    runInsn w t.toNat body s = updThr t.toNat (fun th => { th with st := .waiting, park := some (.wait rd, w) }) s' := by
  obtain ⟨h1, h2, h3⟩ := steady_iff hr
  simp [runInsn, h1, h2, h3, hb]

theorem runInsn_fault {s : State} {t : Tid} (w : Word) {body : Thread → State → Body} {c a : Nat}
    (hr : s.steady t = true) (hb : body (s.thr t.toNat) s = (.fault c a)) :
    runInsn w t.toNat body s = faultThr t.toNat c w a s := by
  obtain ⟨h1, h2, h3⟩ := steady_iff hr
  simp [runInsn, h1, h2, h3, hb]

theorem runInsn_faultIn {s : State} {s' : State} {t : Tid} (w : Word) {body : Thread → State → Body} {c a : Nat}
    (hr : s.steady t = true) (hb : body (s.thr t.toNat) s = (.faultIn s' c a)) :
    runInsn w t.toNat body s = faultThr t.toNat c w a s' := by
  obtain ⟨h1, h2, h3⟩ := steady_iff hr
  simp [runInsn, h1, h2, h3, hb]

theorem traceEv_quiet {s : State} {t : Nat} (k : Nat) (a b : W64)
    (h : (isTel t || !(s.piste (tPiste t)).traceRun) = true) : traceEv t k a b s = s := by
  unfold traceEv
  dsimp only
  rw [if_pos (by simp_all)]

theorem piste_updPiste_ne (s : State) {p q : Nat} (f : Piste → Piste) (h : q ≠ p) : (updPiste p f s).piste q = s.piste q := by
  simp [State.piste, updPiste, sget_sset_ne _ _ _ h]

theorem traceRun_endDeadlock (t p : Nat) (s : State) : ((endDeadlock t s).piste p).traceRun = (s.piste p).traceRun := by
  unfold endDeadlock
  split
  · by_cases h : p = tPiste t
    · subst h; simp
    · rw [piste_updPiste_ne _ _ h]
  · rfl

theorem endDeadlock_setThr (t u : Nat) (th : Thread) (s : State) :
    endDeadlock t (setThr u th s) = setThr u th (endDeadlock t s) := by
  unfold endDeadlock
  have : (setThr u th s).piste (tPiste t) = s.piste (tPiste t) := rfl
  rw [this]
  split <;> rfl

/-- A quiet thread's instruction retires: its context goes on at the address. -/
theorem finish_quiet {s : State} {t : Tid} (w : Word) (pc : Nat) (th : Thread) (hq : s.quiet t = true)
    (hs : th.stepping = (s.thr t.toNat).stepping) :
    finish w t.toNat pc (setThr t.toNat th s) = s.wentOn t th pc := by
  simp only [State.quiet, Bool.and_eq_true, Bool.not_eq_true'] at hq
  unfold finish retired
  dsimp only
  simp only [updThr, thr_setThr_same, setThr_setThr, endDeadlock_setThr]
  rw [traceEv_quiet]
  · simp [hs, hq.2, State.wentOn, Thread.at]
  · have : (setThr t.toNat { th with pc := BitVec.ofNat 40 pc } (endDeadlock t.toNat s)).piste (tPiste t.toNat) =
      (endDeadlock t.toNat s).piste (tPiste t.toNat) := rfl
    rw [this, traceRun_endDeadlock]
    exact hq.1

/-- A quiet thread's instruction that changes nothing but its own context. -/
theorem finish_self {s : State} {t : Tid} (w : Word) (pc : Nat) (hq : s.quiet t = true) :
    finish w t.toNat pc s = s.wentOn t (s.thr t.toNat) pc := by
  simp only [State.quiet, Bool.and_eq_true, Bool.not_eq_true'] at hq
  unfold finish retired
  dsimp only
  simp only [updThr, endDeadlock_setThr]
  rw [traceEv_quiet]
  · simp [hq.2, State.wentOn, Thread.at]
  · have : (setThr t.toNat { s.thr t.toNat with pc := BitVec.ofNat 40 pc } (endDeadlock t.toNat s)).piste (tPiste t.toNat) =
      (endDeadlock t.toNat s).piste (tPiste t.toNat) := rfl
    rw [this, traceRun_endDeadlock]
    exact hq.1

/-- A quiet thread's register instruction. -/
theorem regInsn_quiet {s : State} {t : Tid} (w : Word) (rd : Reg) (f : Thread → W64) (hr : s.steady t = true)
    (hq : s.quiet t = true) :
    regInsn w t rd true f s = s.wentOn t ((s.thr t.toNat).setRg rd (f (s.thr t.toNat))) ((s.thr t.toNat).pc.toNat + 4) := by
  unfold regInsn
  rw [runInsn_retire w hr rfl]
  exact finish_quiet w _ _ hq (by unfold Thread.setRg; split <;> rfl)

theorem unitReady_iff {s : State} {t : Tid} {unit : Nat} (h : s.unitReady t unit = true) :
    s.steady t = true ∧ s.quiet t = true ∧ unitPresent s.part t.toNat unit = true ∧ (s.thr t.toNat).unitOn unit = true := by
  simpa [State.unitReady, and_assoc] using h

/-- A legal coprocessor instruction of a present, enabled unit is its command. -/
theorem cpInsn_ready {s : State} {t : Tid} {unit func : Nat} {rd rs rt : Reg} {opt : BitVec 5} {legal : Bool}
    {body : Thread → State → Body} (h : s.unitReady t unit = true) (hl : legal = true) :
    cpInsn unit func t rd rs rt opt legal body s = .next (runInsn (fmtX unit func rd rs rt opt) t.toNat body s) := by
  obtain ⟨h1, -, h3, h4⟩ := unitReady_iff h
  unfold cpInsn
  exact congrArg _ (runInsn_congr _ h1 (by simp [h3, h4, hl]))

/-- A quiet thread's instruction whose body changes its own context alone. -/
theorem runInsn_own {s : State} {t : Tid} (w : Word) {body : Thread → State → Body} {th : Thread}
    (hr : s.steady t = true) (hq : s.quiet t = true) (hb : body (s.thr t.toNat) s = .retire (setThr t.toNat th s))
    (hs : th.stepping = (s.thr t.toNat).stepping) :
    runInsn w t.toNat body s = s.wentOn t th ((s.thr t.toNat).pc.toNat + 4) := by
  rw [runInsn_retire w hr hb, finish_quiet w _ th hq hs]

@[simp] theorem setRg_stepping (th : Thread) (r : Reg) (v : W64) : (th.setRg r v).stepping = th.stepping := by
  unfold Thread.setRg; split <;> rfl

end Sys2Proof.Machine
end

