-- ==== Sys2Proof/Laws/PerInstr.lean ====
section
/-! SUPPORT. The commands that name a requester (R42), and, command by command, that a well-formed one names a requester that
exists. -/
namespace Sys2Proof

/-- The requester that a command names, none for a command that has none. -/
def Instr.requester : Instr → Option Requester
  | .powerApplied => none
  | .powerRemoved => none
  | .porstNAssert => none
  | .porstNRelease => none
  | .sysrstNAssert => none
  | .sysrstNRelease => none
  | .powerOnDetectorTrip _ => none
  | .pllLockLoss => none
  | .refClockLoss _ => none
  | .refClockReturn _ => none
  | .tamperEvent _ => none
  | .wipeDone _ _ => none
  | .zeroizeDone _ => none
  | .bootEntry => none
  | .hbmTrainingDone _ _ _ _ => none
  | .bootSelftestDone _ => none
  | .stagingRecheck => none
  | .slotHeaderRead => none
  | .imageStreamEnd _ => none
  | .recordWrite => none
  | .recordPayload => none
  | .recordGolden => none
  | .recordPoll => none
  | .pollTimeout => none
  | .recordEnd => none
  | .bootReady => none
  | .reqConfigure req _ => some req
  | .reqCommission req _ => some req
  | .reqOperate req _ => some req
  | .reqSafeOperate req _ => some req
  | .reqDegraded req _ => some req
  | .reqSafeState req _ => some req
  | .reqMaintenance req _ => some req
  | .reqZeroize req _ => some req
  | .warmRestart req _ => some req
  | .coldRestart req _ => some req
  | .modeTransition => none
  | .registerWrite req _ _ _ => some req
  | .reg64LowRead req _ _ => some req
  | .reg64LowWrite req _ _ _ => some req
  | .reg64HighWrite req _ _ _ => some req
  | .readClear req _ _ => some req
  | .timeNsRead req _ => some req
  | .softReset req _ => some req
  | .softResetDone _ => none
  | .errClr req _ => some req
  | .intStatusClear req _ _ => some req
  | .intForce req _ _ => some req
  | .memoryError _ _ _ _ _ => none
  | .cfgGoldenWrite req _ _ => some req
  | .cfgCheckPass _ => none
  | .cfgCompare => none
  | .goldenGraceExpiry _ => none
  | .flashRead req => some req
  | .flashProgram req => some req
  | .flashErase req => some req
  | .validate req _ => some req
  | .invalidate req _ => some req
  | .flashComplete _ => none
  | .linkUp _ => none
  | .linkDown _ _ => none
  | .anFail _ => none
  | .flLaneCfgWrite req _ _ => some req
  | .flFmxCfgWrite req _ _ => some req
  | .trLaneCfgWrite req _ _ => some req
  | .trGroupCfgWrite req _ _ => some req
  | .mgpCfgWrite req _ => some req
  | .fmxRoundTx _ => none
  | .fmxMarkerRx _ _ => none
  | .fmxSlotBlockRx _ _ _ _ => none
  | .frameArrival _ _ => none
  | .fcsCheck _ _ => none
  | .parse _ => none
  | .classify _ => none
  | .liftAdmit _ => none
  | .ruleWrite req => some req
  | .ruleRead req => some req
  | .ruleInvalidate req => some req
  | .flip req => some req
  | .clearHits req => some req
  | .classCfgWrite req _ => some req
  | .ruleScrub _ _ => none
  | .genDrainTimeout _ => none
  | .emInsert req => some req
  | .emDelete req => some req
  | .emFind req => some req
  | .emQuarantine req => some req
  | .emRelease req => some req
  | .indEntryWrite req _ _ => some req
  | .indCheckPass => none
  | .admitPkt _ => none
  | .spillReturn _ _ _ => none
  | .bind _ _ => none
  | .packetFirm _ => none
  | .gateRelease _ => none
  | .gateTimeout _ => none
  | .snowploughExit _ _ => none
  | .deadlockDeclaration _ => none
  | .hangDeclaration _ => none
  | .migrationRewrite _ => none
  | .migrationActivate _ => none
  | .threadTimerExpiry _ => none
  | .parkCompletion _ _ => none
  | .asyncCompletion _ _ => none
  | .mailboxDelivery _ => none
  | .mailboxPop _ => none
  | .icsWindowWrite req _ _ _ => some req
  | .icsCheckPass _ => none
  | .contextWindowWrite req _ _ _ => some req
  | .threadResume req _ => some req
  | .threadRestart req _ => some req
  | .threadReset req _ => some req
  | .pstFaultPop req _ => some req
  | .telFaultPop req => some req
  | .gateRecPop req _ => some req
  | .add _ _ _ _ => none
  | .sub _ _ _ _ => none
  | .and _ _ _ _ => none
  | .or _ _ _ _ => none
  | .xor _ _ _ _ => none
  | .andn _ _ _ _ => none
  | .sll _ _ _ _ => none
  | .srl _ _ _ _ => none
  | .sra _ _ _ _ => none
  | .rotr _ _ _ _ => none
  | .slt _ _ _ _ => none
  | .sltu _ _ _ _ => none
  | .min _ _ _ _ => none
  | .max _ _ _ _ => none
  | .minu _ _ _ _ => none
  | .maxu _ _ _ _ => none
  | .mul _ _ _ _ => none
  | .mulh _ _ _ _ => none
  | .mulhu _ _ _ _ => none
  | .clz _ _ _ _ => none
  | .ctz _ _ _ _ => none
  | .popc _ _ _ _ => none
  | .bswap2 _ _ _ _ => none
  | .bswap4 _ _ _ _ => none
  | .bswap8 _ _ _ _ => none
  | .addw _ _ _ _ => none
  | .subw _ _ _ _ => none
  | .addi _ _ _ _ => none
  | .andi _ _ _ _ => none
  | .ori _ _ _ _ => none
  | .xori _ _ _ _ => none
  | .slti _ _ _ _ => none
  | .sltiu _ _ _ _ => none
  | .lui _ _ _ _ => none
  | .slli _ _ _ _ => none
  | .srli _ _ _ _ => none
  | .srai _ _ _ _ => none
  | .orih _ _ _ _ => none
  | .lb _ _ _ _ => none
  | .lbu _ _ _ _ => none
  | .lh _ _ _ _ => none
  | .lhu _ _ _ _ => none
  | .lw _ _ _ _ => none
  | .lwu _ _ _ _ => none
  | .ld _ _ _ _ => none
  | .lhs _ _ _ _ => none
  | .lws _ _ _ _ => none
  | .lds _ _ _ _ => none
  | .sb _ _ _ _ => none
  | .sh _ _ _ _ => none
  | .sw _ _ _ _ => none
  | .sd _ _ _ _ => none
  | .shs _ _ _ _ => none
  | .sws _ _ _ _ => none
  | .sds _ _ _ _ => none
  | .aaddW _ _ _ _ => none
  | .aaddD _ _ _ _ => none
  | .aswpW _ _ _ _ => none
  | .aswpD _ _ _ _ => none
  | .acasW _ _ _ _ => none
  | .acasD _ _ _ _ => none
  | .bfxu _ _ _ _ _ => none
  | .bfxs _ _ _ _ _ => none
  | .bfi _ _ _ _ _ => none
  | .bfc _ _ _ _ _ => none
  | .bfd _ _ _ _ _ => none
  | .beq _ _ _ _ => none
  | .bne _ _ _ _ => none
  | .blt _ _ _ _ => none
  | .bge _ _ _ _ => none
  | .bltu _ _ _ _ => none
  | .bgeu _ _ _ _ => none
  | .j _ _ => none
  | .jal _ _ => none
  | .jalr _ _ _ _ => none
  | .csrrd _ _ _ _ => none
  | .csrwr _ _ _ _ => none
  | .wait _ _ _ _ => none
  | .yield _ _ _ _ => none
  | .fence _ _ _ _ => none
  | .tstart _ _ _ _ => none
  | .tstop _ _ _ _ => none
  | .commit _ _ _ _ => none
  | .send _ _ _ _ => none
  | .cpsave _ _ _ _ => none
  | .cprestore _ _ _ _ => none
  | .stage _ _ _ _ => none
  | .trap _ _ _ _ => none
  | .coprocGet _ _ _ _ _ _ => none
  | .pktBufw _ _ _ _ _ => none
  | .pktOvr _ _ _ _ _ => none
  | .pktIns _ _ _ _ _ => none
  | .pktDel _ _ _ _ _ => none
  | .pktPush _ _ _ _ _ => none
  | .pktPop _ _ _ _ _ => none
  | .pktRd _ _ _ _ _ => none
  | .pktLen _ _ _ _ _ => none
  | .pktUndo _ _ _ _ _ => none
  | .crcInit _ _ _ _ _ => none
  | .crcUpd _ _ _ _ _ => none
  | .crcPrange _ _ _ _ _ => none
  | .crcFin _ _ _ _ _ => none
  | .crcCset _ _ _ _ _ => none
  | .crcCadd _ _ _ _ _ => none
  | .crcCrange _ _ _ _ _ => none
  | .crcCfin _ _ _ _ _ => none
  | .crcCinc _ _ _ _ _ => none
  | .lkpKeyw _ _ _ _ _ => none
  | .lkpFfind _ _ _ _ _ => none
  | .lkpFins _ _ _ _ _ => none
  | .lkpFdel _ _ _ _ _ => none
  | .lkpHfind _ _ _ _ _ => none
  | .lkpHins _ _ _ _ _ => none
  | .lkpHdel _ _ _ _ _ => none
  | .lkpRfind _ _ _ _ _ => none
  | .crySetp _ _ _ _ _ => none
  | .cryGcm _ _ _ _ _ => none
  | .cryCmac _ _ _ _ _ => none
  | .crySha _ _ _ _ _ => none
  | .cryPoll _ _ _ _ _ => none
  | .cryKload _ _ _ _ _ => none
  | .cryKzero _ _ _ _ _ => none
  | .sigRdin _ _ _ _ _ => none
  | .sigSetq _ _ _ _ _ => none
  | .sigWrout _ _ _ _ _ => none
  | .sigDone _ _ _ _ _ => none
  | .sigInfo _ _ _ _ _ => none
  | .timNow _ _ _ _ _ => none
  | .timArr _ _ _ _ _ => none
  | .timSched _ _ _ _ _ => none
  | .timTxts _ _ _ _ _ => none
  | .timCorr _ _ _ _ _ => none
  | .cycleStart _ _ => none
  | .deadline _ _ => none
  | .deadlineMarker _ _ => none
  | .nodeFire _ _ => none
  | .unpack _ => none
  | .pack _ _ => none
  | .seal _ _ => none
  | .xchkCompare _ _ _ => none
  | .xchkMissing _ _ _ => none
  | .xchkSealCompare _ _ => none
  | .holdTimeout _ _ => none
  | .load req _ => some req
  | .unload req _ => some req
  | .swap req _ => some req
  | .force req _ => some req
  | .unforce req _ => some req
  | .sigeTblPass _ => none
  | .xchkClear req _ => some req
  | .cellRequest _ _ => none
  | .chainFree _ _ => none
  | .bpmAlloc req => some req
  | .bpmFree req => some req
  | .bpmReclaim req => some req
  | .dynAlloc req _ => some req
  | .dynFree req _ => some req
  | .scratchpadScrub _ _ _ _ => none
  | .acquire _ _ _ => none
  | .acquireArm _ _ _ => none
  | .semaRelease _ _ _ => none
  | .semaState _ _ _ => none
  | .semaCmdAcquire req => some req
  | .semaCmdRelease req => some req
  | .semaReclaim req => some req
  | .retire req => some req
  | .semaCmdState req => some req
  | .semaCapWrite req _ _ => some req
  | .semaOrphPop req => some req
  | .hbmRequest _ _ _ _ => none
  | .hbmRequestComplete _ _ => none
  | .requestLate _ => none
  | .refreshDue _ => none
  | .refreshViolation _ => none
  | .hbmTempRead _ _ => none
  | .hbmTempFault _ => none
  | .hbmScrubPass _ _ => none
  | .flowFillComplete _ _ => none
  | .quarantineScan _ => none
  | .hbmFence req => some req
  | .writeContext req => some req
  | .readContext req => some req
  | .hbmQuarPop req => some req
  | .hbmFlowBaseWrite req _ => some req
  | .tmAdmit => none
  | .txStart _ => none
  | .txComplete _ => none
  | .telDelivery _ => none
  | .gclEntryEnd _ => none
  | .configChange req => some req
  | .gclChangeTime _ => none
  | .verifyResult _ _ => none
  | .recoveryReset _ => none
  | .streamEntryWrite req _ _ _ => some req
  | .tmTblPass => none
  | .tsPop req _ => some req
  | .set req => some req
  | .timeStep req => some req
  | .setAtPps req => some req
  | .timeAdjWrite req _ => some req
  | .ppsInEdge => none
  | .ppsOutRise => none
  | .ppsOutFall => none
  | .txDb _ _ _ => none
  | .rxDb _ _ _ => none
  | .evtDb _ => none
  | .descriptorFetch _ _ _ => none
  | .txRetry _ _ => none
  | .hostReadCompletion _ _ _ _ => none
  | .rxDelivery _ _ _ => none
  | .msixMessage _ _ => none
  | .instEnable req _ _ => some req
  | .instShareWrite req _ _ => some req
  | .instReset req _ => some req
  | .instDrainTimeout _ => none
  | .instResetComplete _ => none
  | .apply req => some req
  | .reject req => some req
  | .sync req => some req
  | .dirtyRestart req => some req
  | .toHbm req _ => some req
  | .fromHbm req => some req
  | .pcieLinkDown => none
  | .pcieLinkUp => none
  | .functionLevelReset => none
  | .safetyRecord => none
  | .scCompare _ => none
  | .clockWindow _ _ => none
  | .voltageDeparture _ _ => none
  | .dieTempRead _ _ => none
  | .xchkSelfcheck _ _ => none
  | .pstWdKick req _ _ => some req
  | .safeWdKickTel req _ _ => some req
  | .watchdogExpiry _ => none
  | .safeInSample _ _ => none
  | .safeInDisc => none
  | .thermtrip => none
  | .pennantEdge => none
  | .stSlotStart _ => none
  | .stCoreOffline _ => none
  | .stTestDone _ _ _ => none
  | .stIdleTimeout _ => none
  | .injTokenFlip req => some req
  | .injTokenWithhold req => some req
  | .injLockstep req => some req
  | .injClock req => some req
  | .injRail req => some req
  | .injWatchdog req => some req
  | .injScState req => some req
  | .injXchkSelf req => some req
  | .safeRecPop req => some req
  | .keyProg req => some req
  | .keyRevoke req => some req
  | .provision req => some req
  | .toField req => some req
  | .nonce req => some req
  | .toReturn req => some req
  | .scrap req => some req
  | .debugUnlock req => some req
  | .logRdWrite req _ => some req
  | .append req => some req
  | .buntingSample => none
  | .histRead req => some req
  | .smbusBlockWrite _ _ _ => none
  | .smbusBlockRead => none
  | .halt req => some req
  | .dbgResume req => some req
  | .step req => some req
  | .stepTimeout _ => none
  | .abandon req => some req
  | .traceStart req => some req
  | .traceStop req => some req
  | .tapReset => none
  | .idcode => none
  | .bypass => none
  | .samplePreload _ => none
  | .extest => none
  | .clamp => none
  | .highz => none
  | .powerOnDetectorRelease _ => none
  | .completionTimeout _ => none
  | .fuseProgrammingDone => none
  | .bitmapRebuild _ _ => none
  | .deadlineMarkerTimeout _ _ => none

namespace Laws

/-- A well-formed command names a requester of the part, or none. -/
def NamesRequester.Statement (i : Instr) : Prop := ∀ (part : Part) (r : Requester), i.requester = some r → i.wf part = true → reqOk part r = true

theorem NamesRequester.powerApplied : NamesRequester.Statement (.powerApplied) := nofun
theorem NamesRequester.powerRemoved : NamesRequester.Statement (.powerRemoved) := nofun
theorem NamesRequester.porstNAssert : NamesRequester.Statement (.porstNAssert) := nofun
theorem NamesRequester.porstNRelease : NamesRequester.Statement (.porstNRelease) := nofun
theorem NamesRequester.sysrstNAssert : NamesRequester.Statement (.sysrstNAssert) := nofun
theorem NamesRequester.sysrstNRelease : NamesRequester.Statement (.sysrstNRelease) := nofun
theorem NamesRequester.powerOnDetectorTrip (det : BitVec 2) : NamesRequester.Statement (.powerOnDetectorTrip det) := nofun
theorem NamesRequester.pllLockLoss : NamesRequester.Statement (.pllLockLoss) := nofun
theorem NamesRequester.refClockLoss (input : BitVec 5) : NamesRequester.Statement (.refClockLoss input) := nofun
theorem NamesRequester.refClockReturn (input : BitVec 5) : NamesRequester.Statement (.refClockReturn input) := nofun
theorem NamesRequester.tamperEvent (cause : TamperCause) : NamesRequester.Statement (.tamperEvent cause) := nofun
theorem NamesRequester.wipeDone (unit : BitVec 6) (ok : Bool) : NamesRequester.Statement (.wipeDone unit ok) := nofun
theorem NamesRequester.zeroizeDone (ok : Bool) : NamesRequester.Statement (.zeroizeDone ok) := nofun
theorem NamesRequester.bootEntry : NamesRequester.Statement (.bootEntry) := nofun
theorem NamesRequester.hbmTrainingDone (stack : BitVec 1) (ok : Bool) (repairs : BitVec 8) (failCode : BitVec 4) : NamesRequester.Statement (.hbmTrainingDone stack ok repairs failCode) := nofun
theorem NamesRequester.bootSelftestDone (fail : BitVec 6) : NamesRequester.Statement (.bootSelftestDone fail) := nofun
theorem NamesRequester.stagingRecheck : NamesRequester.Statement (.stagingRecheck) := nofun
theorem NamesRequester.slotHeaderRead : NamesRequester.Statement (.slotHeaderRead) := nofun
theorem NamesRequester.imageStreamEnd (flashError : Bool) : NamesRequester.Statement (.imageStreamEnd flashError) := nofun
theorem NamesRequester.recordWrite : NamesRequester.Statement (.recordWrite) := nofun
theorem NamesRequester.recordPayload : NamesRequester.Statement (.recordPayload) := nofun
theorem NamesRequester.recordGolden : NamesRequester.Statement (.recordGolden) := nofun
theorem NamesRequester.recordPoll : NamesRequester.Statement (.recordPoll) := nofun
theorem NamesRequester.pollTimeout : NamesRequester.Statement (.pollTimeout) := nofun
theorem NamesRequester.recordEnd : NamesRequester.Statement (.recordEnd) := nofun
theorem NamesRequester.bootReady : NamesRequester.Statement (.bootReady) := nofun
theorem NamesRequester.reqConfigure (req : Requester) (key : BitVec 16) : NamesRequester.Statement (.reqConfigure req key) :=
  fun _ _ h w => Option.some.inj h ▸ w
theorem NamesRequester.reqCommission (req : Requester) (key : BitVec 16) : NamesRequester.Statement (.reqCommission req key) :=
  fun _ _ h w => Option.some.inj h ▸ w
theorem NamesRequester.reqOperate (req : Requester) (key : BitVec 16) : NamesRequester.Statement (.reqOperate req key) :=
  fun _ _ h w => Option.some.inj h ▸ w
theorem NamesRequester.reqSafeOperate (req : Requester) (key : BitVec 16) : NamesRequester.Statement (.reqSafeOperate req key) :=
  fun _ _ h w => Option.some.inj h ▸ w
theorem NamesRequester.reqDegraded (req : Requester) (key : BitVec 16) : NamesRequester.Statement (.reqDegraded req key) :=
  fun _ _ h w => Option.some.inj h ▸ w
theorem NamesRequester.reqSafeState (req : Requester) (key : BitVec 16) : NamesRequester.Statement (.reqSafeState req key) :=
  fun _ _ h w => Option.some.inj h ▸ w
theorem NamesRequester.reqMaintenance (req : Requester) (key : BitVec 16) : NamesRequester.Statement (.reqMaintenance req key) :=
  fun _ _ h w => Option.some.inj h ▸ w
theorem NamesRequester.reqZeroize (req : Requester) (key : BitVec 16) : NamesRequester.Statement (.reqZeroize req key) :=
  fun _ _ h w => Option.some.inj h ▸ w
theorem NamesRequester.warmRestart (req : Requester) (key : BitVec 16) : NamesRequester.Statement (.warmRestart req key) :=
  fun _ _ h w => Option.some.inj h ▸ w
theorem NamesRequester.coldRestart (req : Requester) (key : BitVec 16) : NamesRequester.Statement (.coldRestart req key) :=
  fun _ _ h w => Option.some.inj h ▸ w
theorem NamesRequester.modeTransition : NamesRequester.Statement (.modeTransition) := nofun
theorem NamesRequester.registerWrite (req : Requester) (page : Page) (off : Off) (value : Word) : NamesRequester.Statement (.registerWrite req page off value) :=
  fun _ _ h w => Option.some.inj h ▸ w
theorem NamesRequester.reg64LowRead (req : Requester) (page : Page) (off : Off) : NamesRequester.Statement (.reg64LowRead req page off) :=
  fun _ _ h w => Option.some.inj h ▸ w
theorem NamesRequester.reg64LowWrite (req : Requester) (page : Page) (off : Off) (value : Word) : NamesRequester.Statement (.reg64LowWrite req page off value) :=
  fun _ _ h w => Option.some.inj h ▸ w
theorem NamesRequester.reg64HighWrite (req : Requester) (page : Page) (off : Off) (value : Word) : NamesRequester.Statement (.reg64HighWrite req page off value) :=
  fun _ _ h w => Option.some.inj h ▸ w
theorem NamesRequester.readClear (req : Requester) (page : Page) (off : Off) : NamesRequester.Statement (.readClear req page off) :=
  fun _ _ h w => Option.some.inj h ▸ w
theorem NamesRequester.timeNsRead (req : Requester) (pps : Bool) : NamesRequester.Statement (.timeNsRead req pps) :=
  fun _ _ h w => Option.some.inj h ▸ w
theorem NamesRequester.softReset (req : Requester) (page : Page) : NamesRequester.Statement (.softReset req page) :=
  fun _ _ h w => Option.some.inj h ▸ w
theorem NamesRequester.softResetDone (page : Page) : NamesRequester.Statement (.softResetDone page) := nofun
theorem NamesRequester.errClr (req : Requester) (page : Page) : NamesRequester.Statement (.errClr req page) :=
  fun _ _ h w => Option.some.inj h ▸ w
theorem NamesRequester.intStatusClear (req : Requester) (page : Page) (mask : Word) : NamesRequester.Statement (.intStatusClear req page mask) :=
  fun _ _ h w => Option.some.inj h ▸ w
theorem NamesRequester.intForce (req : Requester) (page : Page) (mask : Word) : NamesRequester.Statement (.intForce req page mask) :=
  fun _ _ h w => Option.some.inj h ▸ w
theorem NamesRequester.memoryError (page : Page) (source : BitVec 8) (addr : Word) (syndrome : BitVec 16) (ue : Bool) : NamesRequester.Statement (.memoryError page source addr syndrome ue) := nofun
theorem NamesRequester.cfgGoldenWrite (req : Requester) (page : Page) (value : Word) : NamesRequester.Statement (.cfgGoldenWrite req page value) :=
  fun _ _ h w => Option.some.inj h ▸ w
theorem NamesRequester.cfgCheckPass (page : Page) : NamesRequester.Statement (.cfgCheckPass page) := nofun
theorem NamesRequester.cfgCompare : NamesRequester.Statement (.cfgCompare) := nofun
theorem NamesRequester.goldenGraceExpiry (page : Page) : NamesRequester.Statement (.goldenGraceExpiry page) := nofun
theorem NamesRequester.flashRead (req : Requester) : NamesRequester.Statement (.flashRead req) :=
  fun _ _ h w => Option.some.inj h ▸ w
theorem NamesRequester.flashProgram (req : Requester) : NamesRequester.Statement (.flashProgram req) :=
  fun _ _ h w => Option.some.inj h ▸ w
theorem NamesRequester.flashErase (req : Requester) : NamesRequester.Statement (.flashErase req) :=
  fun _ _ h w => Option.some.inj h ▸ w
theorem NamesRequester.validate (req : Requester) (slot : BitVec 2) : NamesRequester.Statement (.validate req slot) :=
  fun _ _ h w => Option.some.inj h ▸ w
theorem NamesRequester.invalidate (req : Requester) (slot : BitVec 2) : NamesRequester.Statement (.invalidate req slot) :=
  fun _ _ h w => Option.some.inj h ▸ w
theorem NamesRequester.flashComplete (ok : Bool) : NamesRequester.Statement (.flashComplete ok) := nofun
theorem NamesRequester.linkUp (port : Port) : NamesRequester.Statement (.linkUp port) := nofun
theorem NamesRequester.linkDown (port : Port) (state : BitVec 3) : NamesRequester.Statement (.linkDown port state) := nofun
theorem NamesRequester.anFail (lane : Lane) : NamesRequester.Statement (.anFail lane) := nofun
theorem NamesRequester.flLaneCfgWrite (req : Requester) (lane : BitVec 7) (value : Word) : NamesRequester.Statement (.flLaneCfgWrite req lane value) :=
  fun _ _ h w => Option.some.inj h ▸ (Bool.and_eq_true .. ▸ w).1
theorem NamesRequester.flFmxCfgWrite (req : Requester) (lane : BitVec 7) (value : Word) : NamesRequester.Statement (.flFmxCfgWrite req lane value) :=
  fun _ _ h w => Option.some.inj h ▸ (Bool.and_eq_true .. ▸ w).1
theorem NamesRequester.trLaneCfgWrite (req : Requester) (lane : BitVec 5) (value : Word) : NamesRequester.Statement (.trLaneCfgWrite req lane value) :=
  fun _ _ h w => Option.some.inj h ▸ (Bool.and_eq_true .. ▸ w).1
theorem NamesRequester.trGroupCfgWrite (req : Requester) (group : BitVec 3) (value : Word) : NamesRequester.Statement (.trGroupCfgWrite req group value) :=
  fun _ _ h w => Option.some.inj h ▸ w
theorem NamesRequester.mgpCfgWrite (req : Requester) (value : Word) : NamesRequester.Statement (.mgpCfgWrite req value) :=
  fun _ _ h w => Option.some.inj h ▸ w
theorem NamesRequester.fmxRoundTx (lane : BitVec 7) : NamesRequester.Statement (.fmxRoundTx lane) := nofun
theorem NamesRequester.fmxMarkerRx (lane : BitVec 7) (block : W64) : NamesRequester.Statement (.fmxMarkerRx lane block) := nofun
theorem NamesRequester.fmxSlotBlockRx (lane : BitVec 7) (sub : BitVec 3) (sync : BitVec 2) (block : W64) : NamesRequester.Statement (.fmxSlotBlockRx lane sub sync block) := nofun
theorem NamesRequester.frameArrival (port : Port) (data : Bytes) : NamesRequester.Statement (.frameArrival port data) := nofun
theorem NamesRequester.fcsCheck (pkt : PktId) (aborted : Bool) : NamesRequester.Statement (.fcsCheck pkt aborted) := nofun
theorem NamesRequester.parse (pkt : PktId) : NamesRequester.Statement (.parse pkt) := nofun
theorem NamesRequester.classify (pkt : PktId) : NamesRequester.Statement (.classify pkt) := nofun
theorem NamesRequester.liftAdmit (piste : BitVec 2) : NamesRequester.Statement (.liftAdmit piste) := nofun
theorem NamesRequester.ruleWrite (req : Requester) : NamesRequester.Statement (.ruleWrite req) :=
  fun _ _ h w => Option.some.inj h ▸ w
theorem NamesRequester.ruleRead (req : Requester) : NamesRequester.Statement (.ruleRead req) :=
  fun _ _ h w => Option.some.inj h ▸ w
theorem NamesRequester.ruleInvalidate (req : Requester) : NamesRequester.Statement (.ruleInvalidate req) :=
  fun _ _ h w => Option.some.inj h ▸ w
theorem NamesRequester.flip (req : Requester) : NamesRequester.Statement (.flip req) :=
  fun _ _ h w => Option.some.inj h ▸ w
theorem NamesRequester.clearHits (req : Requester) : NamesRequester.Statement (.clearHits req) :=
  fun _ _ h w => Option.some.inj h ▸ w
theorem NamesRequester.classCfgWrite (req : Requester) (value : Word) : NamesRequester.Statement (.classCfgWrite req value) :=
  fun _ _ h w => Option.some.inj h ▸ w
theorem NamesRequester.ruleScrub (index : BitVec 16) (ue : Bool) : NamesRequester.Statement (.ruleScrub index ue) := nofun
theorem NamesRequester.genDrainTimeout (bank : BitVec 1) : NamesRequester.Statement (.genDrainTimeout bank) := nofun
theorem NamesRequester.emInsert (req : Requester) : NamesRequester.Statement (.emInsert req) :=
  fun _ _ h w => Option.some.inj h ▸ w
theorem NamesRequester.emDelete (req : Requester) : NamesRequester.Statement (.emDelete req) :=
  fun _ _ h w => Option.some.inj h ▸ w
theorem NamesRequester.emFind (req : Requester) : NamesRequester.Statement (.emFind req) :=
  fun _ _ h w => Option.some.inj h ▸ w
theorem NamesRequester.emQuarantine (req : Requester) : NamesRequester.Statement (.emQuarantine req) :=
  fun _ _ h w => Option.some.inj h ▸ w
theorem NamesRequester.emRelease (req : Requester) : NamesRequester.Statement (.emRelease req) :=
  fun _ _ h w => Option.some.inj h ▸ w
theorem NamesRequester.indEntryWrite (req : Requester) (index : BitVec 15) (value : Word) : NamesRequester.Statement (.indEntryWrite req index value) :=
  fun _ _ h w => Option.some.inj h ▸ w
theorem NamesRequester.indCheckPass : NamesRequester.Statement (.indCheckPass) := nofun
theorem NamesRequester.admitPkt (pkt : PktId) : NamesRequester.Statement (.admitPkt pkt) := nofun
theorem NamesRequester.spillReturn (piste : BitVec 2) (list : BitVec 6) (ecc : Bool) : NamesRequester.Statement (.spillReturn piste list ecc) := nofun
theorem NamesRequester.bind (piste : BitVec 2) (dcrcBad : Bool) : NamesRequester.Statement (.bind piste dcrcBad) := nofun
theorem NamesRequester.packetFirm (t : Tid) : NamesRequester.Statement (.packetFirm t) := nofun
theorem NamesRequester.gateRelease (piste : BitVec 2) : NamesRequester.Statement (.gateRelease piste) := nofun
theorem NamesRequester.gateTimeout (pkt : PktId) : NamesRequester.Statement (.gateTimeout pkt) := nofun
theorem NamesRequester.snowploughExit (piste : BitVec 2) (flow : BitVec 20) : NamesRequester.Statement (.snowploughExit piste flow) := nofun
theorem NamesRequester.deadlockDeclaration (piste : BitVec 2) : NamesRequester.Statement (.deadlockDeclaration piste) := nofun
theorem NamesRequester.hangDeclaration (piste : BitVec 2) : NamesRequester.Statement (.hangDeclaration piste) := nofun
theorem NamesRequester.migrationRewrite (pair : BitVec 1) : NamesRequester.Statement (.migrationRewrite pair) := nofun
theorem NamesRequester.migrationActivate (pair : BitVec 1) : NamesRequester.Statement (.migrationActivate pair) := nofun
theorem NamesRequester.threadTimerExpiry (t : Tid) : NamesRequester.Statement (.threadTimerExpiry t) := nofun
theorem NamesRequester.parkCompletion (t : Tid) (err : Bool) : NamesRequester.Statement (.parkCompletion t err) := nofun
theorem NamesRequester.asyncCompletion (t : Tid) (err : Bool) : NamesRequester.Statement (.asyncCompletion t err) := nofun
theorem NamesRequester.mailboxDelivery (t : Tid) : NamesRequester.Statement (.mailboxDelivery t) := nofun
theorem NamesRequester.mailboxPop (t : Tid) : NamesRequester.Statement (.mailboxPop t) := nofun
theorem NamesRequester.icsWindowWrite (req : Requester) (page : Page) (off : Off) (value : Word) : NamesRequester.Statement (.icsWindowWrite req page off value) :=
  fun _ _ h w => Option.some.inj h ▸ w
theorem NamesRequester.icsCheckPass (page : Page) : NamesRequester.Statement (.icsCheckPass page) := nofun
theorem NamesRequester.contextWindowWrite (req : Requester) (page : Page) (off : Off) (value : Word) : NamesRequester.Statement (.contextWindowWrite req page off value) :=
  fun _ _ h w => Option.some.inj h ▸ w
theorem NamesRequester.threadResume (req : Requester) (piste : BitVec 2) : NamesRequester.Statement (.threadResume req piste) :=
  fun _ _ h w => Option.some.inj h ▸ (Bool.and_eq_true .. ▸ w).1
theorem NamesRequester.threadRestart (req : Requester) (piste : BitVec 2) : NamesRequester.Statement (.threadRestart req piste) :=
  fun _ _ h w => Option.some.inj h ▸ (Bool.and_eq_true .. ▸ w).1
theorem NamesRequester.threadReset (req : Requester) (piste : BitVec 2) : NamesRequester.Statement (.threadReset req piste) :=
  fun _ _ h w => Option.some.inj h ▸ (Bool.and_eq_true .. ▸ w).1
theorem NamesRequester.pstFaultPop (req : Requester) (piste : BitVec 2) : NamesRequester.Statement (.pstFaultPop req piste) :=
  fun _ _ h w => Option.some.inj h ▸ (Bool.and_eq_true .. ▸ w).1
theorem NamesRequester.telFaultPop (req : Requester) : NamesRequester.Statement (.telFaultPop req) :=
  fun _ _ h w => Option.some.inj h ▸ w
theorem NamesRequester.gateRecPop (req : Requester) (piste : BitVec 2) : NamesRequester.Statement (.gateRecPop req piste) :=
  fun _ _ h w => Option.some.inj h ▸ (Bool.and_eq_true .. ▸ w).1
theorem NamesRequester.add (t : Tid) (rd : Reg) (rs : Reg) (rt : Reg) : NamesRequester.Statement (.add t rd rs rt) := nofun
theorem NamesRequester.sub (t : Tid) (rd : Reg) (rs : Reg) (rt : Reg) : NamesRequester.Statement (.sub t rd rs rt) := nofun
theorem NamesRequester.and (t : Tid) (rd : Reg) (rs : Reg) (rt : Reg) : NamesRequester.Statement (.and t rd rs rt) := nofun
theorem NamesRequester.or (t : Tid) (rd : Reg) (rs : Reg) (rt : Reg) : NamesRequester.Statement (.or t rd rs rt) := nofun
theorem NamesRequester.xor (t : Tid) (rd : Reg) (rs : Reg) (rt : Reg) : NamesRequester.Statement (.xor t rd rs rt) := nofun
theorem NamesRequester.andn (t : Tid) (rd : Reg) (rs : Reg) (rt : Reg) : NamesRequester.Statement (.andn t rd rs rt) := nofun
theorem NamesRequester.sll (t : Tid) (rd : Reg) (rs : Reg) (rt : Reg) : NamesRequester.Statement (.sll t rd rs rt) := nofun
theorem NamesRequester.srl (t : Tid) (rd : Reg) (rs : Reg) (rt : Reg) : NamesRequester.Statement (.srl t rd rs rt) := nofun
theorem NamesRequester.sra (t : Tid) (rd : Reg) (rs : Reg) (rt : Reg) : NamesRequester.Statement (.sra t rd rs rt) := nofun
theorem NamesRequester.rotr (t : Tid) (rd : Reg) (rs : Reg) (rt : Reg) : NamesRequester.Statement (.rotr t rd rs rt) := nofun
theorem NamesRequester.slt (t : Tid) (rd : Reg) (rs : Reg) (rt : Reg) : NamesRequester.Statement (.slt t rd rs rt) := nofun
theorem NamesRequester.sltu (t : Tid) (rd : Reg) (rs : Reg) (rt : Reg) : NamesRequester.Statement (.sltu t rd rs rt) := nofun
theorem NamesRequester.min (t : Tid) (rd : Reg) (rs : Reg) (rt : Reg) : NamesRequester.Statement (.min t rd rs rt) := nofun
theorem NamesRequester.max (t : Tid) (rd : Reg) (rs : Reg) (rt : Reg) : NamesRequester.Statement (.max t rd rs rt) := nofun
theorem NamesRequester.minu (t : Tid) (rd : Reg) (rs : Reg) (rt : Reg) : NamesRequester.Statement (.minu t rd rs rt) := nofun
theorem NamesRequester.maxu (t : Tid) (rd : Reg) (rs : Reg) (rt : Reg) : NamesRequester.Statement (.maxu t rd rs rt) := nofun
theorem NamesRequester.mul (t : Tid) (rd : Reg) (rs : Reg) (rt : Reg) : NamesRequester.Statement (.mul t rd rs rt) := nofun
theorem NamesRequester.mulh (t : Tid) (rd : Reg) (rs : Reg) (rt : Reg) : NamesRequester.Statement (.mulh t rd rs rt) := nofun
theorem NamesRequester.mulhu (t : Tid) (rd : Reg) (rs : Reg) (rt : Reg) : NamesRequester.Statement (.mulhu t rd rs rt) := nofun
theorem NamesRequester.clz (t : Tid) (rd : Reg) (rs : Reg) (rt : Reg) : NamesRequester.Statement (.clz t rd rs rt) := nofun
theorem NamesRequester.ctz (t : Tid) (rd : Reg) (rs : Reg) (rt : Reg) : NamesRequester.Statement (.ctz t rd rs rt) := nofun
theorem NamesRequester.popc (t : Tid) (rd : Reg) (rs : Reg) (rt : Reg) : NamesRequester.Statement (.popc t rd rs rt) := nofun
theorem NamesRequester.bswap2 (t : Tid) (rd : Reg) (rs : Reg) (rt : Reg) : NamesRequester.Statement (.bswap2 t rd rs rt) := nofun
theorem NamesRequester.bswap4 (t : Tid) (rd : Reg) (rs : Reg) (rt : Reg) : NamesRequester.Statement (.bswap4 t rd rs rt) := nofun
theorem NamesRequester.bswap8 (t : Tid) (rd : Reg) (rs : Reg) (rt : Reg) : NamesRequester.Statement (.bswap8 t rd rs rt) := nofun
theorem NamesRequester.addw (t : Tid) (rd : Reg) (rs : Reg) (rt : Reg) : NamesRequester.Statement (.addw t rd rs rt) := nofun
theorem NamesRequester.subw (t : Tid) (rd : Reg) (rs : Reg) (rt : Reg) : NamesRequester.Statement (.subw t rd rs rt) := nofun
theorem NamesRequester.addi (t : Tid) (rd : Reg) (rs : Reg) (imm : BitVec 16) : NamesRequester.Statement (.addi t rd rs imm) := nofun
theorem NamesRequester.andi (t : Tid) (rd : Reg) (rs : Reg) (imm : BitVec 16) : NamesRequester.Statement (.andi t rd rs imm) := nofun
theorem NamesRequester.ori (t : Tid) (rd : Reg) (rs : Reg) (imm : BitVec 16) : NamesRequester.Statement (.ori t rd rs imm) := nofun
theorem NamesRequester.xori (t : Tid) (rd : Reg) (rs : Reg) (imm : BitVec 16) : NamesRequester.Statement (.xori t rd rs imm) := nofun
theorem NamesRequester.slti (t : Tid) (rd : Reg) (rs : Reg) (imm : BitVec 16) : NamesRequester.Statement (.slti t rd rs imm) := nofun
theorem NamesRequester.sltiu (t : Tid) (rd : Reg) (rs : Reg) (imm : BitVec 16) : NamesRequester.Statement (.sltiu t rd rs imm) := nofun
theorem NamesRequester.lui (t : Tid) (rd : Reg) (rs : Reg) (imm : BitVec 16) : NamesRequester.Statement (.lui t rd rs imm) := nofun
theorem NamesRequester.slli (t : Tid) (rd : Reg) (rs : Reg) (imm : BitVec 16) : NamesRequester.Statement (.slli t rd rs imm) := nofun
theorem NamesRequester.srli (t : Tid) (rd : Reg) (rs : Reg) (imm : BitVec 16) : NamesRequester.Statement (.srli t rd rs imm) := nofun
theorem NamesRequester.srai (t : Tid) (rd : Reg) (rs : Reg) (imm : BitVec 16) : NamesRequester.Statement (.srai t rd rs imm) := nofun
theorem NamesRequester.orih (t : Tid) (rd : Reg) (rs : Reg) (imm : BitVec 16) : NamesRequester.Statement (.orih t rd rs imm) := nofun
theorem NamesRequester.lb (t : Tid) (rd : Reg) (rs : Reg) (imm : BitVec 16) : NamesRequester.Statement (.lb t rd rs imm) := nofun
theorem NamesRequester.lbu (t : Tid) (rd : Reg) (rs : Reg) (imm : BitVec 16) : NamesRequester.Statement (.lbu t rd rs imm) := nofun
theorem NamesRequester.lh (t : Tid) (rd : Reg) (rs : Reg) (imm : BitVec 16) : NamesRequester.Statement (.lh t rd rs imm) := nofun
theorem NamesRequester.lhu (t : Tid) (rd : Reg) (rs : Reg) (imm : BitVec 16) : NamesRequester.Statement (.lhu t rd rs imm) := nofun
theorem NamesRequester.lw (t : Tid) (rd : Reg) (rs : Reg) (imm : BitVec 16) : NamesRequester.Statement (.lw t rd rs imm) := nofun
theorem NamesRequester.lwu (t : Tid) (rd : Reg) (rs : Reg) (imm : BitVec 16) : NamesRequester.Statement (.lwu t rd rs imm) := nofun
theorem NamesRequester.ld (t : Tid) (rd : Reg) (rs : Reg) (imm : BitVec 16) : NamesRequester.Statement (.ld t rd rs imm) := nofun
theorem NamesRequester.lhs (t : Tid) (rd : Reg) (rs : Reg) (imm : BitVec 16) : NamesRequester.Statement (.lhs t rd rs imm) := nofun
theorem NamesRequester.lws (t : Tid) (rd : Reg) (rs : Reg) (imm : BitVec 16) : NamesRequester.Statement (.lws t rd rs imm) := nofun
theorem NamesRequester.lds (t : Tid) (rd : Reg) (rs : Reg) (imm : BitVec 16) : NamesRequester.Statement (.lds t rd rs imm) := nofun
theorem NamesRequester.sb (t : Tid) (rt : Reg) (rs : Reg) (imm : BitVec 16) : NamesRequester.Statement (.sb t rt rs imm) := nofun
theorem NamesRequester.sh (t : Tid) (rt : Reg) (rs : Reg) (imm : BitVec 16) : NamesRequester.Statement (.sh t rt rs imm) := nofun
theorem NamesRequester.sw (t : Tid) (rt : Reg) (rs : Reg) (imm : BitVec 16) : NamesRequester.Statement (.sw t rt rs imm) := nofun
theorem NamesRequester.sd (t : Tid) (rt : Reg) (rs : Reg) (imm : BitVec 16) : NamesRequester.Statement (.sd t rt rs imm) := nofun
theorem NamesRequester.shs (t : Tid) (rt : Reg) (rs : Reg) (imm : BitVec 16) : NamesRequester.Statement (.shs t rt rs imm) := nofun
theorem NamesRequester.sws (t : Tid) (rt : Reg) (rs : Reg) (imm : BitVec 16) : NamesRequester.Statement (.sws t rt rs imm) := nofun
theorem NamesRequester.sds (t : Tid) (rt : Reg) (rs : Reg) (imm : BitVec 16) : NamesRequester.Statement (.sds t rt rs imm) := nofun
theorem NamesRequester.aaddW (t : Tid) (rd : Reg) (rs : Reg) (rt : Reg) : NamesRequester.Statement (.aaddW t rd rs rt) := nofun
theorem NamesRequester.aaddD (t : Tid) (rd : Reg) (rs : Reg) (rt : Reg) : NamesRequester.Statement (.aaddD t rd rs rt) := nofun
theorem NamesRequester.aswpW (t : Tid) (rd : Reg) (rs : Reg) (rt : Reg) : NamesRequester.Statement (.aswpW t rd rs rt) := nofun
theorem NamesRequester.aswpD (t : Tid) (rd : Reg) (rs : Reg) (rt : Reg) : NamesRequester.Statement (.aswpD t rd rs rt) := nofun
theorem NamesRequester.acasW (t : Tid) (rd : Reg) (rs : Reg) (rt : Reg) : NamesRequester.Statement (.acasW t rd rs rt) := nofun
theorem NamesRequester.acasD (t : Tid) (rd : Reg) (rs : Reg) (rt : Reg) : NamesRequester.Statement (.acasD t rd rs rt) := nofun
theorem NamesRequester.bfxu (t : Tid) (rd : Reg) (rs : Reg) (pos : BitVec 6) (len : BitVec 6) : NamesRequester.Statement (.bfxu t rd rs pos len) := nofun
theorem NamesRequester.bfxs (t : Tid) (rd : Reg) (rs : Reg) (pos : BitVec 6) (len : BitVec 6) : NamesRequester.Statement (.bfxs t rd rs pos len) := nofun
theorem NamesRequester.bfi (t : Tid) (rd : Reg) (rs : Reg) (pos : BitVec 6) (len : BitVec 6) : NamesRequester.Statement (.bfi t rd rs pos len) := nofun
theorem NamesRequester.bfc (t : Tid) (rd : Reg) (rs : Reg) (pos : BitVec 6) (len : BitVec 6) : NamesRequester.Statement (.bfc t rd rs pos len) := nofun
theorem NamesRequester.bfd (t : Tid) (rd : Reg) (rs : Reg) (pos : BitVec 6) (len : BitVec 6) : NamesRequester.Statement (.bfd t rd rs pos len) := nofun
theorem NamesRequester.beq (t : Tid) (rs : Reg) (rt : Reg) (off16 : BitVec 16) : NamesRequester.Statement (.beq t rs rt off16) := nofun
theorem NamesRequester.bne (t : Tid) (rs : Reg) (rt : Reg) (off16 : BitVec 16) : NamesRequester.Statement (.bne t rs rt off16) := nofun
theorem NamesRequester.blt (t : Tid) (rs : Reg) (rt : Reg) (off16 : BitVec 16) : NamesRequester.Statement (.blt t rs rt off16) := nofun
theorem NamesRequester.bge (t : Tid) (rs : Reg) (rt : Reg) (off16 : BitVec 16) : NamesRequester.Statement (.bge t rs rt off16) := nofun
theorem NamesRequester.bltu (t : Tid) (rs : Reg) (rt : Reg) (off16 : BitVec 16) : NamesRequester.Statement (.bltu t rs rt off16) := nofun
theorem NamesRequester.bgeu (t : Tid) (rs : Reg) (rt : Reg) (off16 : BitVec 16) : NamesRequester.Statement (.bgeu t rs rt off16) := nofun
theorem NamesRequester.j (t : Tid) (off26 : BitVec 26) : NamesRequester.Statement (.j t off26) := nofun
theorem NamesRequester.jal (t : Tid) (off26 : BitVec 26) : NamesRequester.Statement (.jal t off26) := nofun
theorem NamesRequester.jalr (t : Tid) (rd : Reg) (rs : Reg) (imm : BitVec 16) : NamesRequester.Statement (.jalr t rd rs imm) := nofun
theorem NamesRequester.csrrd (t : Tid) (rd : Reg) (rs : Reg) (imm : BitVec 16) : NamesRequester.Statement (.csrrd t rd rs imm) := nofun
theorem NamesRequester.csrwr (t : Tid) (rd : Reg) (rs : Reg) (imm : BitVec 16) : NamesRequester.Statement (.csrwr t rd rs imm) := nofun
theorem NamesRequester.wait (t : Tid) (rd : Reg) (rs : Reg) (rt : Reg) : NamesRequester.Statement (.wait t rd rs rt) := nofun
theorem NamesRequester.yield (t : Tid) (rd : Reg) (rs : Reg) (rt : Reg) : NamesRequester.Statement (.yield t rd rs rt) := nofun
theorem NamesRequester.fence (t : Tid) (rd : Reg) (rs : Reg) (rt : Reg) : NamesRequester.Statement (.fence t rd rs rt) := nofun
theorem NamesRequester.tstart (t : Tid) (rd : Reg) (rs : Reg) (rt : Reg) : NamesRequester.Statement (.tstart t rd rs rt) := nofun
theorem NamesRequester.tstop (t : Tid) (rd : Reg) (rs : Reg) (rt : Reg) : NamesRequester.Statement (.tstop t rd rs rt) := nofun
theorem NamesRequester.commit (t : Tid) (rd : Reg) (rs : Reg) (rt : Reg) : NamesRequester.Statement (.commit t rd rs rt) := nofun
theorem NamesRequester.send (t : Tid) (rd : Reg) (rs : Reg) (rt : Reg) : NamesRequester.Statement (.send t rd rs rt) := nofun
theorem NamesRequester.cpsave (t : Tid) (rd : Reg) (rs : Reg) (rt : Reg) : NamesRequester.Statement (.cpsave t rd rs rt) := nofun
theorem NamesRequester.cprestore (t : Tid) (rd : Reg) (rs : Reg) (rt : Reg) : NamesRequester.Statement (.cprestore t rd rs rt) := nofun
theorem NamesRequester.stage (t : Tid) (rd : Reg) (rs : Reg) (imm : BitVec 16) : NamesRequester.Statement (.stage t rd rs imm) := nofun
theorem NamesRequester.trap (t : Tid) (rd : Reg) (rs : Reg) (imm : BitVec 16) : NamesRequester.Statement (.trap t rd rs imm) := nofun
theorem NamesRequester.coprocGet (t : Tid) (unit : BitVec 3) (rd : Reg) (rs : Reg) (rt : Reg) (opt : BitVec 5) : NamesRequester.Statement (.coprocGet t unit rd rs rt opt) := nofun
theorem NamesRequester.pktBufw (t : Tid) (rd : Reg) (rs : Reg) (rt : Reg) (opt : BitVec 5) : NamesRequester.Statement (.pktBufw t rd rs rt opt) := nofun
theorem NamesRequester.pktOvr (t : Tid) (rd : Reg) (rs : Reg) (rt : Reg) (opt : BitVec 5) : NamesRequester.Statement (.pktOvr t rd rs rt opt) := nofun
theorem NamesRequester.pktIns (t : Tid) (rd : Reg) (rs : Reg) (rt : Reg) (opt : BitVec 5) : NamesRequester.Statement (.pktIns t rd rs rt opt) := nofun
theorem NamesRequester.pktDel (t : Tid) (rd : Reg) (rs : Reg) (rt : Reg) (opt : BitVec 5) : NamesRequester.Statement (.pktDel t rd rs rt opt) := nofun
theorem NamesRequester.pktPush (t : Tid) (rd : Reg) (rs : Reg) (rt : Reg) (opt : BitVec 5) : NamesRequester.Statement (.pktPush t rd rs rt opt) := nofun
theorem NamesRequester.pktPop (t : Tid) (rd : Reg) (rs : Reg) (rt : Reg) (opt : BitVec 5) : NamesRequester.Statement (.pktPop t rd rs rt opt) := nofun
theorem NamesRequester.pktRd (t : Tid) (rd : Reg) (rs : Reg) (rt : Reg) (opt : BitVec 5) : NamesRequester.Statement (.pktRd t rd rs rt opt) := nofun
theorem NamesRequester.pktLen (t : Tid) (rd : Reg) (rs : Reg) (rt : Reg) (opt : BitVec 5) : NamesRequester.Statement (.pktLen t rd rs rt opt) := nofun
theorem NamesRequester.pktUndo (t : Tid) (rd : Reg) (rs : Reg) (rt : Reg) (opt : BitVec 5) : NamesRequester.Statement (.pktUndo t rd rs rt opt) := nofun
theorem NamesRequester.crcInit (t : Tid) (rd : Reg) (rs : Reg) (rt : Reg) (opt : BitVec 5) : NamesRequester.Statement (.crcInit t rd rs rt opt) := nofun
theorem NamesRequester.crcUpd (t : Tid) (rd : Reg) (rs : Reg) (rt : Reg) (opt : BitVec 5) : NamesRequester.Statement (.crcUpd t rd rs rt opt) := nofun
theorem NamesRequester.crcPrange (t : Tid) (rd : Reg) (rs : Reg) (rt : Reg) (opt : BitVec 5) : NamesRequester.Statement (.crcPrange t rd rs rt opt) := nofun
theorem NamesRequester.crcFin (t : Tid) (rd : Reg) (rs : Reg) (rt : Reg) (opt : BitVec 5) : NamesRequester.Statement (.crcFin t rd rs rt opt) := nofun
theorem NamesRequester.crcCset (t : Tid) (rd : Reg) (rs : Reg) (rt : Reg) (opt : BitVec 5) : NamesRequester.Statement (.crcCset t rd rs rt opt) := nofun
theorem NamesRequester.crcCadd (t : Tid) (rd : Reg) (rs : Reg) (rt : Reg) (opt : BitVec 5) : NamesRequester.Statement (.crcCadd t rd rs rt opt) := nofun
theorem NamesRequester.crcCrange (t : Tid) (rd : Reg) (rs : Reg) (rt : Reg) (opt : BitVec 5) : NamesRequester.Statement (.crcCrange t rd rs rt opt) := nofun
theorem NamesRequester.crcCfin (t : Tid) (rd : Reg) (rs : Reg) (rt : Reg) (opt : BitVec 5) : NamesRequester.Statement (.crcCfin t rd rs rt opt) := nofun
theorem NamesRequester.crcCinc (t : Tid) (rd : Reg) (rs : Reg) (rt : Reg) (opt : BitVec 5) : NamesRequester.Statement (.crcCinc t rd rs rt opt) := nofun
theorem NamesRequester.lkpKeyw (t : Tid) (rd : Reg) (rs : Reg) (rt : Reg) (opt : BitVec 5) : NamesRequester.Statement (.lkpKeyw t rd rs rt opt) := nofun
theorem NamesRequester.lkpFfind (t : Tid) (rd : Reg) (rs : Reg) (rt : Reg) (opt : BitVec 5) : NamesRequester.Statement (.lkpFfind t rd rs rt opt) := nofun
theorem NamesRequester.lkpFins (t : Tid) (rd : Reg) (rs : Reg) (rt : Reg) (opt : BitVec 5) : NamesRequester.Statement (.lkpFins t rd rs rt opt) := nofun
theorem NamesRequester.lkpFdel (t : Tid) (rd : Reg) (rs : Reg) (rt : Reg) (opt : BitVec 5) : NamesRequester.Statement (.lkpFdel t rd rs rt opt) := nofun
theorem NamesRequester.lkpHfind (t : Tid) (rd : Reg) (rs : Reg) (rt : Reg) (opt : BitVec 5) : NamesRequester.Statement (.lkpHfind t rd rs rt opt) := nofun
theorem NamesRequester.lkpHins (t : Tid) (rd : Reg) (rs : Reg) (rt : Reg) (opt : BitVec 5) : NamesRequester.Statement (.lkpHins t rd rs rt opt) := nofun
theorem NamesRequester.lkpHdel (t : Tid) (rd : Reg) (rs : Reg) (rt : Reg) (opt : BitVec 5) : NamesRequester.Statement (.lkpHdel t rd rs rt opt) := nofun
theorem NamesRequester.lkpRfind (t : Tid) (rd : Reg) (rs : Reg) (rt : Reg) (opt : BitVec 5) : NamesRequester.Statement (.lkpRfind t rd rs rt opt) := nofun
theorem NamesRequester.crySetp (t : Tid) (rd : Reg) (rs : Reg) (rt : Reg) (opt : BitVec 5) : NamesRequester.Statement (.crySetp t rd rs rt opt) := nofun
theorem NamesRequester.cryGcm (t : Tid) (rd : Reg) (rs : Reg) (rt : Reg) (opt : BitVec 5) : NamesRequester.Statement (.cryGcm t rd rs rt opt) := nofun
theorem NamesRequester.cryCmac (t : Tid) (rd : Reg) (rs : Reg) (rt : Reg) (opt : BitVec 5) : NamesRequester.Statement (.cryCmac t rd rs rt opt) := nofun
theorem NamesRequester.crySha (t : Tid) (rd : Reg) (rs : Reg) (rt : Reg) (opt : BitVec 5) : NamesRequester.Statement (.crySha t rd rs rt opt) := nofun
theorem NamesRequester.cryPoll (t : Tid) (rd : Reg) (rs : Reg) (rt : Reg) (opt : BitVec 5) : NamesRequester.Statement (.cryPoll t rd rs rt opt) := nofun
theorem NamesRequester.cryKload (t : Tid) (rd : Reg) (rs : Reg) (rt : Reg) (opt : BitVec 5) : NamesRequester.Statement (.cryKload t rd rs rt opt) := nofun
theorem NamesRequester.cryKzero (t : Tid) (rd : Reg) (rs : Reg) (rt : Reg) (opt : BitVec 5) : NamesRequester.Statement (.cryKzero t rd rs rt opt) := nofun
theorem NamesRequester.sigRdin (t : Tid) (rd : Reg) (rs : Reg) (rt : Reg) (opt : BitVec 5) : NamesRequester.Statement (.sigRdin t rd rs rt opt) := nofun
theorem NamesRequester.sigSetq (t : Tid) (rd : Reg) (rs : Reg) (rt : Reg) (opt : BitVec 5) : NamesRequester.Statement (.sigSetq t rd rs rt opt) := nofun
theorem NamesRequester.sigWrout (t : Tid) (rd : Reg) (rs : Reg) (rt : Reg) (opt : BitVec 5) : NamesRequester.Statement (.sigWrout t rd rs rt opt) := nofun
theorem NamesRequester.sigDone (t : Tid) (rd : Reg) (rs : Reg) (rt : Reg) (opt : BitVec 5) : NamesRequester.Statement (.sigDone t rd rs rt opt) := nofun
theorem NamesRequester.sigInfo (t : Tid) (rd : Reg) (rs : Reg) (rt : Reg) (opt : BitVec 5) : NamesRequester.Statement (.sigInfo t rd rs rt opt) := nofun
theorem NamesRequester.timNow (t : Tid) (rd : Reg) (rs : Reg) (rt : Reg) (opt : BitVec 5) : NamesRequester.Statement (.timNow t rd rs rt opt) := nofun
theorem NamesRequester.timArr (t : Tid) (rd : Reg) (rs : Reg) (rt : Reg) (opt : BitVec 5) : NamesRequester.Statement (.timArr t rd rs rt opt) := nofun
theorem NamesRequester.timSched (t : Tid) (rd : Reg) (rs : Reg) (rt : Reg) (opt : BitVec 5) : NamesRequester.Statement (.timSched t rd rs rt opt) := nofun
theorem NamesRequester.timTxts (t : Tid) (rd : Reg) (rs : Reg) (rt : Reg) (opt : BitVec 5) : NamesRequester.Statement (.timTxts t rd rs rt opt) := nofun
theorem NamesRequester.timCorr (t : Tid) (rd : Reg) (rs : Reg) (rt : Reg) (opt : BitVec 5) : NamesRequester.Statement (.timCorr t rd rs rt opt) := nofun
theorem NamesRequester.cycleStart (piste : BitVec 2) (timer : BitVec 3) : NamesRequester.Statement (.cycleStart piste timer) := nofun
theorem NamesRequester.deadline (piste : BitVec 2) (graph : BitVec 8) : NamesRequester.Statement (.deadline piste graph) := nofun
theorem NamesRequester.deadlineMarker (piste : BitVec 2) (graph : BitVec 8) : NamesRequester.Statement (.deadlineMarker piste graph) := nofun
theorem NamesRequester.nodeFire (piste : BitVec 2) (node : BitVec 16) : NamesRequester.Statement (.nodeFire piste node) := nofun
theorem NamesRequester.unpack (piste : BitVec 2) : NamesRequester.Statement (.unpack piste) := nofun
theorem NamesRequester.pack (piste : BitVec 2) (node : BitVec 16) : NamesRequester.Statement (.pack piste node) := nofun
theorem NamesRequester.seal (piste : BitVec 2) (node : BitVec 16) : NamesRequester.Statement (.seal piste node) := nofun
theorem NamesRequester.xchkCompare (pair : BitVec 1) (graph : BitVec 8) (port : BitVec 4) : NamesRequester.Statement (.xchkCompare pair graph port) := nofun
theorem NamesRequester.xchkMissing (pair : BitVec 1) (graph : BitVec 8) (port : BitVec 4) : NamesRequester.Statement (.xchkMissing pair graph port) := nofun
theorem NamesRequester.xchkSealCompare (pair : BitVec 1) (graph : BitVec 8) : NamesRequester.Statement (.xchkSealCompare pair graph) := nofun
theorem NamesRequester.holdTimeout (piste : BitVec 2) (graph : BitVec 8) : NamesRequester.Statement (.holdTimeout piste graph) := nofun
theorem NamesRequester.load (req : Requester) (piste : BitVec 2) : NamesRequester.Statement (.load req piste) :=
  fun _ _ h w => Option.some.inj h ▸ (Bool.and_eq_true .. ▸ w).1
theorem NamesRequester.unload (req : Requester) (piste : BitVec 2) : NamesRequester.Statement (.unload req piste) :=
  fun _ _ h w => Option.some.inj h ▸ (Bool.and_eq_true .. ▸ w).1
theorem NamesRequester.swap (req : Requester) (piste : BitVec 2) : NamesRequester.Statement (.swap req piste) :=
  fun _ _ h w => Option.some.inj h ▸ (Bool.and_eq_true .. ▸ w).1
theorem NamesRequester.force (req : Requester) (piste : BitVec 2) : NamesRequester.Statement (.force req piste) :=
  fun _ _ h w => Option.some.inj h ▸ (Bool.and_eq_true .. ▸ w).1
theorem NamesRequester.unforce (req : Requester) (piste : BitVec 2) : NamesRequester.Statement (.unforce req piste) :=
  fun _ _ h w => Option.some.inj h ▸ (Bool.and_eq_true .. ▸ w).1
theorem NamesRequester.sigeTblPass (piste : BitVec 2) : NamesRequester.Statement (.sigeTblPass piste) := nofun
theorem NamesRequester.xchkClear (req : Requester) (pair : BitVec 1) : NamesRequester.Statement (.xchkClear req pair) :=
  fun _ _ h w => Option.some.inj h ▸ (Bool.and_eq_true .. ▸ w).1
theorem NamesRequester.cellRequest (requester : BitVec 12) (key : BitVec 5) : NamesRequester.Statement (.cellRequest requester key) := nofun
theorem NamesRequester.chainFree (cell : CellId) (tag : BitVec 17) : NamesRequester.Statement (.chainFree cell tag) := nofun
theorem NamesRequester.bpmAlloc (req : Requester) : NamesRequester.Statement (.bpmAlloc req) :=
  fun _ _ h w => Option.some.inj h ▸ w
theorem NamesRequester.bpmFree (req : Requester) : NamesRequester.Statement (.bpmFree req) :=
  fun _ _ h w => Option.some.inj h ▸ w
theorem NamesRequester.bpmReclaim (req : Requester) : NamesRequester.Statement (.bpmReclaim req) :=
  fun _ _ h w => Option.some.inj h ▸ w
theorem NamesRequester.dynAlloc (req : Requester) (page : Page) : NamesRequester.Statement (.dynAlloc req page) :=
  fun _ _ h w => Option.some.inj h ▸ w
theorem NamesRequester.dynFree (req : Requester) (page : Page) : NamesRequester.Statement (.dynFree req page) :=
  fun _ _ h w => Option.some.inj h ▸ w
theorem NamesRequester.scratchpadScrub (page : Page) (source : BitVec 8) (addr : Word) (ue : Bool) : NamesRequester.Statement (.scratchpadScrub page source addr ue) := nofun
theorem NamesRequester.acquire (t : Tid) (rd : Reg) (sem : BitVec 12) : NamesRequester.Statement (.acquire t rd sem) := nofun
theorem NamesRequester.acquireArm (t : Tid) (rd : Reg) (sem : BitVec 12) : NamesRequester.Statement (.acquireArm t rd sem) := nofun
theorem NamesRequester.semaRelease (t : Tid) (rt : Reg) (sem : BitVec 12) : NamesRequester.Statement (.semaRelease t rt sem) := nofun
theorem NamesRequester.semaState (t : Tid) (rd : Reg) (sem : BitVec 12) : NamesRequester.Statement (.semaState t rd sem) := nofun
theorem NamesRequester.semaCmdAcquire (req : Requester) : NamesRequester.Statement (.semaCmdAcquire req) :=
  fun _ _ h w => Option.some.inj h ▸ w
theorem NamesRequester.semaCmdRelease (req : Requester) : NamesRequester.Statement (.semaCmdRelease req) :=
  fun _ _ h w => Option.some.inj h ▸ w
theorem NamesRequester.semaReclaim (req : Requester) : NamesRequester.Statement (.semaReclaim req) :=
  fun _ _ h w => Option.some.inj h ▸ w
theorem NamesRequester.retire (req : Requester) : NamesRequester.Statement (.retire req) :=
  fun _ _ h w => Option.some.inj h ▸ w
theorem NamesRequester.semaCmdState (req : Requester) : NamesRequester.Statement (.semaCmdState req) :=
  fun _ _ h w => Option.some.inj h ▸ w
theorem NamesRequester.semaCapWrite (req : Requester) (sem : BitVec 12) (value : Word) : NamesRequester.Statement (.semaCapWrite req sem value) :=
  fun _ _ h w => Option.some.inj h ▸ w
theorem NamesRequester.semaOrphPop (req : Requester) : NamesRequester.Statement (.semaOrphPop req) :=
  fun _ _ h w => Option.some.inj h ▸ w
theorem NamesRequester.hbmRequest (port : BitVec 4) (addr : BitVec 40) (write : Bool) (data : Bytes) : NamesRequester.Statement (.hbmRequest port addr write data) := nofun
theorem NamesRequester.hbmRequestComplete (port : BitVec 4) (err : BitVec 2) : NamesRequester.Statement (.hbmRequestComplete port err) := nofun
theorem NamesRequester.requestLate (port : BitVec 4) : NamesRequester.Statement (.requestLate port) := nofun
theorem NamesRequester.refreshDue (pc : BitVec 6) : NamesRequester.Statement (.refreshDue pc) := nofun
theorem NamesRequester.refreshViolation (pc : BitVec 6) : NamesRequester.Statement (.refreshViolation pc) := nofun
theorem NamesRequester.hbmTempRead (stack : BitVec 1) (temp : BitVec 8) : NamesRequester.Statement (.hbmTempRead stack temp) := nofun
theorem NamesRequester.hbmTempFault (stack : BitVec 1) : NamesRequester.Statement (.hbmTempFault stack) := nofun
theorem NamesRequester.hbmScrubPass (addr : BitVec 40) (err : BitVec 2) : NamesRequester.Statement (.hbmScrubPass addr err) := nofun
theorem NamesRequester.flowFillComplete (flow : BitVec 20) (ok : Bool) : NamesRequester.Statement (.flowFillComplete flow ok) := nofun
theorem NamesRequester.quarantineScan (flow : BitVec 20) : NamesRequester.Statement (.quarantineScan flow) := nofun
theorem NamesRequester.hbmFence (req : Requester) : NamesRequester.Statement (.hbmFence req) :=
  fun _ _ h w => Option.some.inj h ▸ w
theorem NamesRequester.writeContext (req : Requester) : NamesRequester.Statement (.writeContext req) :=
  fun _ _ h w => Option.some.inj h ▸ w
theorem NamesRequester.readContext (req : Requester) : NamesRequester.Statement (.readContext req) :=
  fun _ _ h w => Option.some.inj h ▸ w
theorem NamesRequester.hbmQuarPop (req : Requester) : NamesRequester.Statement (.hbmQuarPop req) :=
  fun _ _ h w => Option.some.inj h ▸ w
theorem NamesRequester.hbmFlowBaseWrite (req : Requester) (value : W64) : NamesRequester.Statement (.hbmFlowBaseWrite req value) :=
  fun _ _ h w => Option.some.inj h ▸ w
theorem NamesRequester.tmAdmit : NamesRequester.Statement (.tmAdmit) := nofun
theorem NamesRequester.txStart (port : Port) : NamesRequester.Statement (.txStart port) := nofun
theorem NamesRequester.txComplete (port : Port) : NamesRequester.Statement (.txComplete port) := nofun
theorem NamesRequester.telDelivery (queue : BitVec 3) : NamesRequester.Statement (.telDelivery queue) := nofun
theorem NamesRequester.gclEntryEnd (port : Port) : NamesRequester.Statement (.gclEntryEnd port) := nofun
theorem NamesRequester.configChange (req : Requester) : NamesRequester.Statement (.configChange req) :=
  fun _ _ h w => Option.some.inj h ▸ w
theorem NamesRequester.gclChangeTime (port : Port) : NamesRequester.Statement (.gclChangeTime port) := nofun
theorem NamesRequester.verifyResult (port : Port) (ok : Bool) : NamesRequester.Statement (.verifyResult port ok) := nofun
theorem NamesRequester.recoveryReset (index : BitVec 16) : NamesRequester.Statement (.recoveryReset index) := nofun
theorem NamesRequester.streamEntryWrite (req : Requester) (page : Page) (off : Off) (value : Word) : NamesRequester.Statement (.streamEntryWrite req page off value) :=
  fun _ _ h w => Option.some.inj h ▸ w
theorem NamesRequester.tmTblPass : NamesRequester.Statement (.tmTblPass) := nofun
theorem NamesRequester.tsPop (req : Requester) (piste : BitVec 2) : NamesRequester.Statement (.tsPop req piste) :=
  fun _ _ h w => Option.some.inj h ▸ (Bool.and_eq_true .. ▸ w).1
theorem NamesRequester.set (req : Requester) : NamesRequester.Statement (.set req) :=
  fun _ _ h w => Option.some.inj h ▸ w
theorem NamesRequester.timeStep (req : Requester) : NamesRequester.Statement (.timeStep req) :=
  fun _ _ h w => Option.some.inj h ▸ w
theorem NamesRequester.setAtPps (req : Requester) : NamesRequester.Statement (.setAtPps req) :=
  fun _ _ h w => Option.some.inj h ▸ w
theorem NamesRequester.timeAdjWrite (req : Requester) (value : Word) : NamesRequester.Statement (.timeAdjWrite req value) :=
  fun _ _ h w => Option.some.inj h ▸ w
theorem NamesRequester.ppsInEdge : NamesRequester.Statement (.ppsInEdge) := nofun
theorem NamesRequester.ppsOutRise : NamesRequester.Statement (.ppsOutRise) := nofun
theorem NamesRequester.ppsOutFall : NamesRequester.Statement (.ppsOutFall) := nofun
theorem NamesRequester.txDb (inst : BitVec 8) (ring : BitVec 4) (tail : BitVec 16) : NamesRequester.Statement (.txDb inst ring tail) := nofun
theorem NamesRequester.rxDb (inst : BitVec 8) (ring : BitVec 4) (tail : BitVec 16) : NamesRequester.Statement (.rxDb inst ring tail) := nofun
theorem NamesRequester.evtDb (inst : BitVec 8) : NamesRequester.Statement (.evtDb inst) := nofun
theorem NamesRequester.descriptorFetch (inst : BitVec 8) (ring : BitVec 4) (descs : Bytes) : NamesRequester.Statement (.descriptorFetch inst ring descs) := nofun
theorem NamesRequester.txRetry (inst : BitVec 8) (ring : BitVec 4) : NamesRequester.Statement (.txRetry inst ring) := nofun
theorem NamesRequester.hostReadCompletion (inst : BitVec 8) (ring : BitVec 4) (data : Bytes) (err : Bool) : NamesRequester.Statement (.hostReadCompletion inst ring data err) := nofun
theorem NamesRequester.rxDelivery (inst : BitVec 8) (queue : BitVec 3) (entries : Bytes) : NamesRequester.Statement (.rxDelivery inst queue entries) := nofun
theorem NamesRequester.msixMessage (inst : BitVec 8) (ring : BitVec 5) : NamesRequester.Statement (.msixMessage inst ring) := nofun
theorem NamesRequester.instEnable (req : Requester) (inst : BitVec 8) (en : Bool) : NamesRequester.Statement (.instEnable req inst en) :=
  fun _ _ h w => Option.some.inj h ▸ w
theorem NamesRequester.instShareWrite (req : Requester) (inst : BitVec 8) (value : Word) : NamesRequester.Statement (.instShareWrite req inst value) :=
  fun _ _ h w => Option.some.inj h ▸ w
theorem NamesRequester.instReset (req : Requester) (inst : BitVec 8) : NamesRequester.Statement (.instReset req inst) :=
  fun _ _ h w => Option.some.inj h ▸ w
theorem NamesRequester.instDrainTimeout (inst : BitVec 8) : NamesRequester.Statement (.instDrainTimeout inst) := nofun
theorem NamesRequester.instResetComplete (inst : BitVec 8) : NamesRequester.Statement (.instResetComplete inst) := nofun
theorem NamesRequester.apply (req : Requester) : NamesRequester.Statement (.apply req) :=
  fun _ _ h w => Option.some.inj h ▸ w
theorem NamesRequester.reject (req : Requester) : NamesRequester.Statement (.reject req) :=
  fun _ _ h w => Option.some.inj h ▸ w
theorem NamesRequester.sync (req : Requester) : NamesRequester.Statement (.sync req) :=
  fun _ _ h w => Option.some.inj h ▸ w
theorem NamesRequester.dirtyRestart (req : Requester) : NamesRequester.Statement (.dirtyRestart req) :=
  fun _ _ h w => Option.some.inj h ▸ w
theorem NamesRequester.toHbm (req : Requester) (data : Bytes) : NamesRequester.Statement (.toHbm req data) :=
  fun _ _ h w => Option.some.inj h ▸ w
theorem NamesRequester.fromHbm (req : Requester) : NamesRequester.Statement (.fromHbm req) :=
  fun _ _ h w => Option.some.inj h ▸ w
theorem NamesRequester.pcieLinkDown : NamesRequester.Statement (.pcieLinkDown) := nofun
theorem NamesRequester.pcieLinkUp : NamesRequester.Statement (.pcieLinkUp) := nofun
theorem NamesRequester.functionLevelReset : NamesRequester.Statement (.functionLevelReset) := nofun
theorem NamesRequester.safetyRecord : NamesRequester.Statement (.safetyRecord) := nofun
theorem NamesRequester.scCompare (differ : Bool) : NamesRequester.Statement (.scCompare differ) := nofun
theorem NamesRequester.clockWindow (clk : BitVec 4) (count : BitVec 20) : NamesRequester.Statement (.clockWindow clk count) := nofun
theorem NamesRequester.voltageDeparture (rail : BitVec 4) (high : Bool) : NamesRequester.Statement (.voltageDeparture rail high) := nofun
theorem NamesRequester.dieTempRead (sensor : BitVec 4) (temp : BitVec 8) : NamesRequester.Statement (.dieTempRead sensor temp) := nofun
theorem NamesRequester.xchkSelfcheck (pair : BitVec 1) (outcome : BitVec 2) : NamesRequester.Statement (.xchkSelfcheck pair outcome) := nofun
theorem NamesRequester.pstWdKick (req : Requester) (piste : BitVec 2) (value : Word) : NamesRequester.Statement (.pstWdKick req piste value) :=
  fun _ _ h w => Option.some.inj h ▸ (Bool.and_eq_true .. ▸ w).1
theorem NamesRequester.safeWdKickTel (req : Requester) (n : BitVec 1) (value : Word) : NamesRequester.Statement (.safeWdKickTel req n value) :=
  fun _ _ h w => Option.some.inj h ▸ w
theorem NamesRequester.watchdogExpiry (wd : BitVec 3) : NamesRequester.Statement (.watchdogExpiry wd) := nofun
theorem NamesRequester.safeInSample (a : Bool) (b : Bool) : NamesRequester.Statement (.safeInSample a b) := nofun
theorem NamesRequester.safeInDisc : NamesRequester.Statement (.safeInDisc) := nofun
theorem NamesRequester.thermtrip : NamesRequester.Statement (.thermtrip) := nofun
theorem NamesRequester.pennantEdge : NamesRequester.Statement (.pennantEdge) := nofun
theorem NamesRequester.stSlotStart (piste : BitVec 2) : NamesRequester.Statement (.stSlotStart piste) := nofun
theorem NamesRequester.stCoreOffline (piste : BitVec 2) : NamesRequester.Statement (.stCoreOffline piste) := nofun
theorem NamesRequester.stTestDone (piste : BitVec 2) (ok : Bool) (signature : Word) : NamesRequester.Statement (.stTestDone piste ok signature) := nofun
theorem NamesRequester.stIdleTimeout (piste : BitVec 2) : NamesRequester.Statement (.stIdleTimeout piste) := nofun
theorem NamesRequester.injTokenFlip (req : Requester) : NamesRequester.Statement (.injTokenFlip req) :=
  fun _ _ h w => Option.some.inj h ▸ w
theorem NamesRequester.injTokenWithhold (req : Requester) : NamesRequester.Statement (.injTokenWithhold req) :=
  fun _ _ h w => Option.some.inj h ▸ w
theorem NamesRequester.injLockstep (req : Requester) : NamesRequester.Statement (.injLockstep req) :=
  fun _ _ h w => Option.some.inj h ▸ w
theorem NamesRequester.injClock (req : Requester) : NamesRequester.Statement (.injClock req) :=
  fun _ _ h w => Option.some.inj h ▸ w
theorem NamesRequester.injRail (req : Requester) : NamesRequester.Statement (.injRail req) :=
  fun _ _ h w => Option.some.inj h ▸ w
theorem NamesRequester.injWatchdog (req : Requester) : NamesRequester.Statement (.injWatchdog req) :=
  fun _ _ h w => Option.some.inj h ▸ w
theorem NamesRequester.injScState (req : Requester) : NamesRequester.Statement (.injScState req) :=
  fun _ _ h w => Option.some.inj h ▸ w
theorem NamesRequester.injXchkSelf (req : Requester) : NamesRequester.Statement (.injXchkSelf req) :=
  fun _ _ h w => Option.some.inj h ▸ w
theorem NamesRequester.safeRecPop (req : Requester) : NamesRequester.Statement (.safeRecPop req) :=
  fun _ _ h w => Option.some.inj h ▸ w
theorem NamesRequester.keyProg (req : Requester) : NamesRequester.Statement (.keyProg req) :=
  fun _ _ h w => Option.some.inj h ▸ w
theorem NamesRequester.keyRevoke (req : Requester) : NamesRequester.Statement (.keyRevoke req) :=
  fun _ _ h w => Option.some.inj h ▸ w
theorem NamesRequester.provision (req : Requester) : NamesRequester.Statement (.provision req) :=
  fun _ _ h w => Option.some.inj h ▸ w
theorem NamesRequester.toField (req : Requester) : NamesRequester.Statement (.toField req) :=
  fun _ _ h w => Option.some.inj h ▸ w
theorem NamesRequester.nonce (req : Requester) : NamesRequester.Statement (.nonce req) :=
  fun _ _ h w => Option.some.inj h ▸ w
theorem NamesRequester.toReturn (req : Requester) : NamesRequester.Statement (.toReturn req) :=
  fun _ _ h w => Option.some.inj h ▸ w
theorem NamesRequester.scrap (req : Requester) : NamesRequester.Statement (.scrap req) :=
  fun _ _ h w => Option.some.inj h ▸ w
theorem NamesRequester.debugUnlock (req : Requester) : NamesRequester.Statement (.debugUnlock req) :=
  fun _ _ h w => Option.some.inj h ▸ w
theorem NamesRequester.logRdWrite (req : Requester) (value : Word) : NamesRequester.Statement (.logRdWrite req value) :=
  fun _ _ h w => Option.some.inj h ▸ w
theorem NamesRequester.append (req : Requester) : NamesRequester.Statement (.append req) :=
  fun _ _ h w => Option.some.inj h ▸ w
theorem NamesRequester.buntingSample : NamesRequester.Statement (.buntingSample) := nofun
theorem NamesRequester.histRead (req : Requester) : NamesRequester.Statement (.histRead req) :=
  fun _ _ h w => Option.some.inj h ▸ w
theorem NamesRequester.smbusBlockWrite (b0 : Byte) (b1 : Byte) (b2 : Byte) : NamesRequester.Statement (.smbusBlockWrite b0 b1 b2) := nofun
theorem NamesRequester.smbusBlockRead : NamesRequester.Statement (.smbusBlockRead) := nofun
theorem NamesRequester.halt (req : Requester) : NamesRequester.Statement (.halt req) :=
  fun _ _ h w => Option.some.inj h ▸ w
theorem NamesRequester.dbgResume (req : Requester) : NamesRequester.Statement (.dbgResume req) :=
  fun _ _ h w => Option.some.inj h ▸ w
theorem NamesRequester.step (req : Requester) : NamesRequester.Statement (.step req) :=
  fun _ _ h w => Option.some.inj h ▸ w
theorem NamesRequester.stepTimeout (t : Tid) : NamesRequester.Statement (.stepTimeout t) := nofun
theorem NamesRequester.abandon (req : Requester) : NamesRequester.Statement (.abandon req) :=
  fun _ _ h w => Option.some.inj h ▸ w
theorem NamesRequester.traceStart (req : Requester) : NamesRequester.Statement (.traceStart req) :=
  fun _ _ h w => Option.some.inj h ▸ w
theorem NamesRequester.traceStop (req : Requester) : NamesRequester.Statement (.traceStop req) :=
  fun _ _ h w => Option.some.inj h ▸ w
theorem NamesRequester.tapReset : NamesRequester.Statement (.tapReset) := nofun
theorem NamesRequester.idcode : NamesRequester.Statement (.idcode) := nofun
theorem NamesRequester.bypass : NamesRequester.Statement (.bypass) := nofun
theorem NamesRequester.samplePreload (cells : Bytes) : NamesRequester.Statement (.samplePreload cells) := nofun
theorem NamesRequester.extest : NamesRequester.Statement (.extest) := nofun
theorem NamesRequester.clamp : NamesRequester.Statement (.clamp) := nofun
theorem NamesRequester.highz : NamesRequester.Statement (.highz) := nofun
theorem NamesRequester.powerOnDetectorRelease (det : BitVec 2) : NamesRequester.Statement (.powerOnDetectorRelease det) := nofun
theorem NamesRequester.completionTimeout (inst : BitVec 8) : NamesRequester.Statement (.completionTimeout inst) := nofun
theorem NamesRequester.fuseProgrammingDone : NamesRequester.Statement (.fuseProgrammingDone) := nofun
theorem NamesRequester.bitmapRebuild (pool : BitVec 6) (word : BitVec 14) : NamesRequester.Statement (.bitmapRebuild pool word) := nofun
theorem NamesRequester.deadlineMarkerTimeout (piste : BitVec 2) (graph : BitVec 8) : NamesRequester.Statement (.deadlineMarkerTimeout piste graph) := nofun

end Laws

end Sys2Proof
end

