-- ==== Sys2Proof/Tests/Slice0.lean ====
section
/-! SUPPORT. Small tests: commands that WellFormed refuses, results from the examples of the spec, and for each statement with
hypotheses a state and operands that meet them. -/
namespace Sys2Proof.Tests
set_option Elab.async false
open Sys2Proof Sys2Proof.Machine

/-! ### Small states -/

/-- The device running in a mode, the wipe of its secure parts ended. -/
def modeUp (m : Mode) : State :=
  { State.reset with wipes := [], mode := { State.reset.mode with inReset := false, mode := m, porst := false } }
/-- Thread 8 (core 1 of piste 0, its master) running at the start of its instruction store, every coprocessor enabled. -/
def thr8 : Thread := { Thread.reset 8 with st := .running, pc := 0x20000000, cpen := 0xFFFFFFFF }
def upThr (m : Mode) (th : Thread) : State := setThr 8 th (modeUp m)
def up : State := upThr .operate thr8
/-- The state that a command answers. -/
def run (i : Instr) (s : State) : State :=
  match exec i s with
  | .next u => u
  | _ => s
/-- `thr8` with two registers set. -/
def rg2 (a b : W64) : Thread := (thr8.setRg 2 a).setRg 3 b

/-! ### Ill-formed commands -/

theorem test_wf_stack : (Instr.hbmTrainingDone 1 true 0 0).wf .cf0512S = false := by decide
theorem test_wf_requester : (Instr.reqOperate (.core 0x7FF) 0x5A17).wf .cf0512S = false := by decide
theorem test_wf_loader : (Instr.reqOperate .loader 0x5A17).wf .cf1024S = false := by decide
theorem test_wf_port : (Instr.linkUp 1060).wf .cf1024S = false := by decide
theorem test_wf_lane : (Instr.anFail 162).wf .cf1024S = false := by decide
theorem test_wf_thread : (Instr.add 2056 1 2 3).wf .cf1024S = false := by decide
theorem test_wf_piste : (Instr.gateRelease 2).wf .cf0512S = false := by decide
theorem test_wf_pair : (Instr.xchkCompare 0 0 0).wf .cf1024F = false := by decide

/-! ### Instructions -/

theorem wit_ArithmeticResults : up.steady 8 = true ∧ up.quiet 8 = true ∧ (63 : BitVec 16).toNat < 64 := by decide +kernel
theorem wit_OneOperandResults : up.steady 8 = true ∧ up.quiet 8 = true ∧ (63 : BitVec 6).toNat + (0 : BitVec 6).toNat + 1 ≤ 64 ∧
    (0 : BitVec 6).toNat + (63 : BitVec 6).toNat + 1 ≤ 64 := by decide +kernel
theorem wit_IllegalFieldsFault : up.steady 8 = true ∧ (1 : Reg) ≠ 0 ∧ 64 ≤ (64 : BitVec 16).toNat ∧
    64 < (1 : BitVec 6).toNat + (63 : BitVec 6).toNat + 1 := by decide +kernel
/-- R207's own example: LUI, ORI, ORIH leave 0x20_00C2_0100. -/
def lui1 : State := run (.lui 8 1 0 0x00C2) up
theorem test_address_built : ((run (.orih 8 1 1 0x0020) (run (.ori 8 1 1 0x0100) lui1)).thr 8).rg 1 = 0x2000C20100 := by decide +kernel
theorem test_add_wraps : ((run (.add 8 1 2 3) (upThr .operate (rg2 0xFFFFFFFFFFFFFFFF 2))).thr 8).rg 1 = 1 := by decide +kernel
theorem test_mulh_signed : ((run (.mulh 8 1 2 3) (upThr .operate (rg2 0xFFFFFFFFFFFFFFFF 2))).thr 8).rg 1 = 0xFFFFFFFFFFFFFFFF := by
  decide +kernel
theorem test_clz_zero : ((run (.clz 8 1 4 0) up).thr 8).rg 1 = 64 := by decide +kernel
theorem test_bswap8 : ((run (.bswap8 8 1 2 0) (upThr .operate (rg2 0x0102030405060708 0))).thr 8).rg 1 = 0x0807060504030201 := by
  decide +kernel
theorem test_g0_stays_zero : ((run (.addi 8 0 2 5) up).thr 8).rg 0 = 0 := by decide +kernel
/-- The slice of thread 8 begins at byte 0x8000 of the local scratchpads: a load, and the last doubleword below the secure part
of the cluster scratchpad, for a store and an atomic. -/
theorem wit_LoadResults : up.steady 8 = true ∧ up.quiet 8 = true ∧
    ∀ n ∈ [1, 2, 4, 8], up.memPlace 8 .load 0 n = some (0x1000000008000, false) ∧ up.unwatched 8 .load 0 n = true ∧
      up.poisoned 0x1000000008000 n = false := by decide +kernel
def inScratch (a : W64) : State := upThr .operate (rg2 a 0x1122334455667788)
theorem wit_StoreResults : let s := inScratch 0x100EFFF8
    s.steady 8 = true ∧ s.quiet 8 = true ∧ s.schussHeld 8 = false ∧ Memory.wf s.mem = true ∧
    (∀ n ∈ [1, 2, 4, 8], s.memPlace 8 .store ((s.thr 8).rg 2) n = some (0x20000000EFFF8, false) ∧
      s.unwatched 8 .store ((s.thr 8).rg 2) n = true) ∧ s.memPlace 8 .store 0x1000000000 8 = some (0, true) := by decide +kernel
theorem wit_AtomicResults : let s := inScratch 0x100EFFF8
    s.schussHeld 8 = false ∧ ∀ n ∈ [4, 8], s.memPlace 8 .atomic ((s.thr 8).rg 2) n = some (0x20000000EFFF8, false) ∧
      s.poisoned 0x20000000EFFF8 n = false ∧ s.unwatched 8 .atomic ((s.thr 8).rg 2) n = true := by decide +kernel
/-- A store and a load of the other byte order give the bytes reversed (R201, R208). -/
theorem test_store_load_swapped : ((run (.lwu 8 4 2 0) (run (.sws 8 3 2 0) (inScratch 0x10000000))).thr 8).rg 4 = 0x88776655 := by
  decide +kernel
theorem test_compare_and_swap : let s := run (.acasD 8 4 2 3) (inScratch 0x10000000)
    (s.thr 8).rg 4 = 0 ∧ s.num 0x2000000000000 8 = 0x1122334455667788 := by decide +kernel
theorem test_misaligned_faults : ((run (.ld 8 4 2 1) (inScratch 0x10000000)).thr 8).st = .faulted := by decide +kernel
theorem wit_BranchResults : up.steady 8 = true ∧ up.quiet 8 = true ∧ (up.thr 8).pc.toNat % 4 = 0 ∧
    ((up.thr 8).rg 2 + (0xFFFC : BitVec 16).signExtend 64).toNat % 4 = 0 ∧ ((up.thr 8).rg 2 + (1 : BitVec 16).signExtend 64).toNat % 4 ≠ 0 := by
  decide +kernel
theorem test_branch_back : ((run (.beq 8 2 3 0xFFFF) (upThr .operate { thr8 with pc := 0x20000010 })).thr 8).pc = 0x2000000C := by
  decide +kernel
theorem test_jal_links : let s := run (.jal 8 2) up
    (s.thr 8).pc = 0x20000008 ∧ (s.thr 8).rg 31 = 0x20000004 := by decide +kernel
theorem wit_ControlRegisterAccess : up.steady 8 = true ∧ up.quiet 8 = true ∧ (up.thr 8).pl ≠ 0 ∧ (8 : Tid).toNat < 2048 ∧
    0x0A < (0x0B : BitVec 16).toNat ∧ 0x18 ≤ (0x18 : BitVec 16).toNat ∧
    (let s := upThr .operate { thr8 with pl := 0, region := [(0, 0x1000000020000001 ||| 0xF03F000000000000)] }
     (s.thr 8).pl = 0 ∧ s.quiet 8 = true) := by decide +kernel
theorem test_evpend_w1c : ((run (.csrwr 8 1 2 6) (upThr .operate { rg2 4 0 with evlatch := 0x14 })).thr 8).evlatch = 0x10 := by
  decide +kernel
theorem wit_WaitStageTrapResults :
    (let s := upThr .operate { thr8 with evmask := 4, evlatch := 4 }
     s.steady 8 = true ∧ s.quiet 8 = true ∧ s.evpend 8 &&& (s.thr 8).evmask ≠ 0) ∧
    (let s := upThr .operate { thr8 with evmask := 8, evlatch := 4 }
     s.evpend 8 &&& (s.thr 8).evmask = 0 ∧ (s.thr 8).evmask ≠ 0) ∧ (up.thr 8).evmask = 0 ∧ (7 : BitVec 16).toNat < 8 := by decide +kernel
theorem test_wait_wakes : ((run (.wait 8 7 0 0) (upThr .operate { thr8 with evmask := 4, evlatch := 4 })).thr 8).rg 7 = 4 := by decide +kernel
theorem test_trap_faults : let s := run (.trap 8 0 0 9) up
    (s.thr 8).st = .faulted ∧ (s.thr 8).cause = 0x13 ∧ (s.thr 8).epc = 0x20000000 := by decide +kernel
/-- Thread 8 names thread 9, a stopped thread of its core, by its address. -/
def starting : State := upThr .operate (rg2 9 0x20000100)
theorem wit_ThreadCommands :
    (starting.steady 8 = true ∧ starting.schussHeld 8 = false ∧ tstartJudge starting 8 9 0x20000100 = (.ok, some 9) ∧
      (tstartJudge up 8 0x800 0x20000100).2 = none ∧ targetThread starting.part 8 9 = some 9 ∧ threadRight true 8 9 = true) ∧
    (let s := setThr 9 { Thread.reset 9 with st := .running } starting
     (s.thr 9).st = .running ∧ (s.thr 8).stopPending = false) ∧
    (let s := upThr .operate { rg2 9 0 with stage := [(0, 5)], stageLen := 1 }
     sendStatus s 8 9 (s.thr 8).staged false = .ok ∧ destOf 9 = some (.mail 9) ∧ sendStatus up 8 9 (up.thr 8).staged false ≠ .ok) ∧
    (upThr .operate { thr8 with inflight := [{ sender := 9, words := [1] }] }).thr 8 ≠ thr8 ∧
    up.unwatched 8 .store 0x21048 4 = true ∧ thr8.pl ≠ 0 := by decide +kernel
theorem test_tstart : let s := run (.tstart 8 1 2 3) starting
    (s.thr 9).st = .running ∧ (s.thr 9).pc = 0x20000100 ∧ (s.thr 8).rg 1 = 0 := by decide +kernel

/-! ### Commands on a held packet -/

/-- A 68-byte packet of field port 5, bound to thread 8, its first byte 0x55 and the rest zero. -/
def pk : Packet := { Packet.new 5 0 [64] 5 68 0 with st := .bound, tail := true, cur := 0x55 :: List.replicate 67 0, holder := some 8
                                                     hdrs := [some (14, 4)] }
def holdingPk (k : Packet) (th : Thread) : State :=
  { upThr .operate { th with item := some (.pkt 0) } with pkts := [(0, some k)], nextPkt := 1 }
def holding (th : Thread) : State := holdingPk pk th

theorem wit_CommitResults :
    (let s := holding thr8
     s.steady 8 = true ∧ s.held 8 = some (0, pk) ∧ (s.thr 8).cry = none ∧ commitStatus s 8 ((s.thr 8).rg 2) = .ok ∧ pk.st = .bound) ∧
    (let s := holding (rg2 1 0)
     commitStatus s 8 ((s.thr 8).rg 2) ≠ .ok ∧ commitStatus s 8 ((s.thr 8).rg 2) ≠ .timeout) ∧
    commitStatus (holdingPk { pk with timedOut := true } thr8) 8 0 = .timeout := by decide +kernel
theorem test_commit_drop : let s := run (.commit 8 1 2 0) (holding thr8)
    (s.thr 8).item = none ∧ (s.pkt 0).map (·.st) = some .committed := by decide +kernel
theorem wit_PacketAccess :
    (let s := holding (rg2 0 4)
     s.unitReady 8 0 = true ∧ s.held 8 = some (0, pk) ∧ (s.thr 8).pktBusy = false ∧ pk.cur.length = 68 ∧ 0 + (7 + 1) + 4 ≤ 68 ∧
       pk.hdr 0 = some (14, 4) ∧ pk.edits < 16) ∧
    up.unitReady 8 0 = true ∧ up.held 8 = none ∧ (up.thr 8).pktBusy = false := by decide +kernel
/-- PUSH at a header of offset 14, of the build buffer's first 4 bytes, little-endian (R236). -/
theorem test_push : let s := run (.pktPush 8 1 0 3 0) (holding { rg2 0 4 with buf := [(0, 0x64000081)] })
    (s.pkt 0).map (fun k => (k.cur.length, (k.cur.drop 14).take 4)) = some (72, [0x81, 0x00, 0x00, 0x64]) := by decide +kernel
theorem test_pkt_read : ((run (.pktRd 8 1 2 0 0) (holding thr8)).thr 8).rg 1 = 0x5500000000000000 := by decide +kernel
theorem test_edit_empty : ((run (.pktUndo 8 1 0 0 0) up).thr 8).rg 1 = 6 := by decide +kernel
theorem wit_CrcAndLookupCommands :
    up.unitReady 8 1 = true ∧ up.unitReady 8 2 = true ∧ up.lkpRoom 8 = true ∧ up.schussHeld 8 = false ∧
    (let s := holdingPk { pk with schuss := true } thr8
     s.unitReady 8 2 = true ∧ s.schussHeld 8 = true) ∧
    (let s := holding (rg2 60 8)
     s.unitReady 8 1 = true ∧ s.held 8 = some (0, pk) ∧ ((s.thr 8).rg 2).toNat + ((s.thr 8).rg 3).toNat ≤ pk.cur.length) ∧
    ((rg2 0 0).rg 2).toNat % 16 = 0 ∧ ((rg2 1 0).rg 2).toNat % 16 = 1 ∧ 6 ≤ ((rg2 6 0).rg 2).toNat % 16 := by decide +kernel
/-- CRC-32 of "123456789" by INIT, UPD of 8 bytes and of 1, FIN: the check value of IEEE 802.3's CRC. -/
theorem test_crc32_check : ((run (.crcFin 8 1 0 0 0) (run (.crcUpd 8 0 3 0 0) (run (.crcUpd 8 0 2 0 7)
    (run (.crcInit 8 1 4 0 0) (upThr .operate (rg2 0x3132333435363738 0x39)))))).thr 8).rg 1 = 0xCBF43926 := by decide +kernel
/-- CRC-32C of the same bytes. -/
theorem test_crc32c_check : crc32c [0x31, 0x32, 0x33, 0x34, 0x35, 0x36, 0x37, 0x38, 0x39] = 0xE3069283 := by decide +kernel
def gcmOk : State :=
  { holding { thr8 with p3 := [(0, 0xC000)] } with keyStores := [(0, { key := 5, mode := 0, valid := true })] }
theorem wit_CryptoCommands :
    (let s := { holding (rg2 0 0) with keyStores := [(0, { key := 5, mode := 0, valid := true })] }
     s.unitReady 8 3 = true ∧ (s.keySlot 0 0).valid = true) ∧
    cryStatus (holding (rg2 0 64)) 8 none (fun k => if k.cur.length - 4 < 64 then [.badArg] else []) true = .ok ∧
    (shaSource up 8 0 64).isSome = true ∧ cryStatus up 8 none (fun _ => []) false = .ok ∧
    cryStatus gcmOk 8 (some 0) (fun k => if cryRangeBad (gcmOk.thr 8) true k then [.badArg] else []) true = .ok ∧
    (let s := { gcmOk with keyStores := [(0, { key := 5, mode := 2, valid := true })] }
     cryStatus s 8 (some 2) (fun k => if cryRangeBad (s.thr 8) false k then [.badArg] else []) true = .ok) ∧
    (up.schussHeld 8 = false ∧ (up.thr 8).pl ≠ 0 ∧ (255 : Nat) < keySlots 8 ∧ up.wipeBlocked (cryUnit 8) = false ∧
      keySource 8 0x100FFFC0 = some 0x20000000FFFC0 ∧ up.poisoned 0x20000000FFFC0 40 = false ∧ (up.byte (0x20000000FFFC0 + 32)).toNat ≤ 3) := by
  decide +kernel
/-- FIPS 197's S-box example. -/
theorem test_sbox : sbox 0x53 = 0xED := by decide +kernel
theorem wit_TimeCommands :
    (let s := holding (rg2 56 0)
     s.unitReady 8 5 = true ∧ (8 : Tid).toNat < 2048 ∧ s.held 8 = some (0, pk) ∧ s.schussHeld 8 = false ∧
     ((s.thr 8).rg 2).toNat % 2 ^ 32 < 1000000000 ∧ tooLate s ((s.thr 8).rg 2) = false ∧ ((s.thr 8).rg 2).toNat + 12 ≤ pk.cur.length) := by
  decide +kernel
theorem wit_SaveAndRestore :
    (∀ u ∈ [0, 1, 2, 3, 4, 5], up.unitReady 8 u = true ∧ saveSpace up 8 u .store 0 = .inl 0x1000000008000 ∧
      saveSpace up 8 u .load 0 = .inl 0x1000000008000) ∧ up.schussHeld 8 = false ∧ (up.thr 8).cry = none ∧
    up.unwatched 8 .store 0 128 = true ∧ up.unwatched 8 .load 0 128 = true ∧ up.poisoned 0x1000000008000 128 = false ∧
    (putNum 0x1000000008000 8 (1 + 0x100 + 64 * 0x10000) up).num 0x1000000008000 8 = 1 + 0x100 + 64 * 0x10000 := by decide +kernel
theorem test_save_restore : ((run (.cprestore 8 0 4 5) (run (.cpsave 8 0 4 5) (upThr .operate { thr8 with res5 := 7 }))).thr 8).res5 = 7 := by
  decide +kernel

/-! ### Reset, boot and modes -/

theorem wit_ResetEntries : let s := modeUp .operate
    Memory.wf s.mem = true ∧ s.mode.powered = true ∧ s.fabric.flash = none ∧ s.life.op = none ∧ s.mode.porst = false ∧
    s.mode.trips.getLsbD (2 : BitVec 2).toNat = false ∧ s.mode.sysrst = false ∧ State.reset.mode.porst = true := by decide +kernel
theorem test_reset_is_reset : State.reset.modeNow = .reset ∧ State.reset.pending = [] := by decide +kernel
theorem wit_PowerAndBootEntry :
    (let s := run .powerRemoved State.reset
     s.mode.powered = false ∧ s.mode.porst = true ∧ s.modeNow = .off) ∧
    (let s := run .porstNRelease State.reset
     s.mode.powered = true ∧ s.mode.inReset = true ∧ s.mode.porst = false ∧ s.mode.sysrst = false ∧ s.mode.trips = 0 ∧ s.mode.zeroHold = false ∧
     s.life.tamper = 0) ∧
    (let s := { modeUp .boot with mode := { (modeUp .boot).mode with inReset := true, zeroHold := true } }
     s.mode.powered = true ∧ s.mode.inReset = true ∧ s.mode.porst = false ∧ s.mode.zeroHold = true) := by decide +kernel
theorem test_boot_entry : let s := run .bootEntry (run .porstNRelease State.reset)
    s.modeNow = .boot ∧ s.mode.prev = .reset ∧ (s.thr 2048).st = .running ∧ (s.thr 0).st = .stopped := by decide +kernel
theorem wit_PllLockLossStopsTheDevice : (modeUp .operate).live = true := by decide +kernel
/-- BOOT with a stage, the HBM stacks trained or not. -/
def booting (stage : BootStage) (trained : BitVec 2) : State :=
  { modeUp .boot with boot := { State.reset.boot with stage := stage, rest := [2], trained := trained } }
theorem wit_BootTestResults :
    (let s := booting (.header 1) 0
     s.live = true ∧ s.modeNow = .boot ∧ s.mode.trans = none ∧ s.boot.selfDone = false ∧ (1 : BitVec 1).toNat < Config.hbmStacks s.part ∧
     s.boot.trained.getLsbD 1 = false ∧ s.boot.trained ≠ stacksMask s.part) ∧
    (let s := booting (.header 1) 3
     s.boot.trained = stacksMask s.part ∧ s.safety.devTaken = false ∧ (0x10 : BitVec 6).getLsbD 4 = true) ∧
    (setReg pMODE 0x8004 0x8000 (booting .idle 3)).bootFails / 64 ≠ 0 := by decide +kernel
theorem test_hbm_failure_falls_back : let s := run (.bootSelftestDone 0) (setReg pMODE 0x8004 0x8000 (booting .idle 3))
    s.modeNow = .fallback ∧ s.mode.ready = true := by decide +kernel
/-- An image of 276 bytes: header, one END record, check word (R81-R83). -/
def imgBody (target : Nat) : Bytes :=
  leBytes 4 0x4346494D ++ leBytes 4 1 ++ leBytes 4 256 ++ leBytes 4 276 ++ leBytes 12 0 ++ leBytes 4 target ++ leBytes 4 256 ++ leBytes 4 1 ++
    leBytes 8 0 ++ leBytes 4 272 ++ leBytes 4 0 ++ leBytes 4 1 ++ List.replicate 196 0 ++ leBytes 4 0xF0000000 ++ leBytes 12 0
def img : Bytes := imgBody 6 ++ leBytes 4 0
def flashWith (valid image : Bytes) : List Host.Cell :=
  (valid.zipIdx.map (fun e => (flashA e.2, e.1))) ++ image.zipIdx.map (fun e => (flashA (0x1000 + e.2), e.1))
def inSlotA (stage : BootStage) : State := { booting stage 3 with mem := flashWith ((validBytes 276 7 1).take 20) img }
def staged (b : Bytes) (crc : Word) : Staging := { slot := 1, bytes := b, imageCrc := crc, verified := false }
set_option maxRecDepth 20000 in
theorem wit_SlotChecks :
    (let s := inSlotA (.header 1)
     s.canLoad = true ∧ s.boot.selfDone = false ∧ s.boot.stage = .header 1 ∧ s.boot.rest = [2] ∧
     s.headerResult (s.validRec 1) (s.imageBytes 1 0 256) = none) ∧
    (let s := booting (.header 1) 3
     s.headerResult (s.validRec 1) (s.imageBytes 1 0 256) = some 2 ∧ s.boot.stage = .header 1) := by decide +kernel
/-- An empty image, whose check word and CRC are both zero, passes checks 4 and 5; one with another CRC fails. -/
theorem wit_SlotChecks_body :
    (let s := { booting (.stream 1) 3 with mem := flashWith ((validBytes 0 0 1).take 20) [] }
     s.boot.stage = .stream 1 ∧ s.bodyResult (s.validRec 1).crc (s.imageBytes 1 0 (s.validRec 1).len) = none) ∧
    (let s := { booting (.stream 1) 3 with mem := flashWith ((validBytes 0 1 1).take 20) [] }
     s.bodyResult (s.validRec 1).crc (s.imageBytes 1 0 (s.validRec 1).len) = some 5) ∧
    (let s := booting .restage 3
     s.boot.stage = .restage ∧ s.stagingOk (staged [] 0) = true ∧ s.stagingOk (staged [] 1) = false) := by decide +kernel
/-- The records of `img` are due. -/
def recording (i : Nat) : State :=
  { booting (.records i) 3 with boot := { (booting (.records i) 3).boot with selfDone := true, staging := some (staged img 0) } }
theorem wit_RecordResults_end : (recording 0).nextRecord = some (0, { w0 := 0xF0000000, value := 0, mask := 0, arg := 0, last := true }) := by
  decide +kernel
/-- A list that begins with a given record. -/
def recordingOf (w0 value mask arg : Nat) : State :=
  let b : Bytes := List.replicate 0x20 0 ++ leBytes 4 64 ++ leBytes 4 2 ++ List.replicate 24 0 ++ leBytes 4 w0 ++ leBytes 4 value ++ leBytes 4 mask ++
    leBytes 4 arg
  { recording 0 with boot := { (recording 0).boot with staging := some (staged b 0) } }
theorem wit_RecordResults :
    (let s := recordingOf 0x00280100 0x30300 0xFFFFFFFF 0
     let r : Record := { w0 := 0x00280100, value := 0x30300, mask := 0xFFFFFFFF, arg := 0, last := false }
     s.nextRecord = some (0, r) ∧ r.type ≠ 15 ∧ r.bad s.part = false ∧ r.type = 0 ∧
     (busWrite .loader r.page r.off r.value (touch r.page s)).2 = some .ok) ∧
    (let s := recordingOf 0x10280100 0 0 0
     let r : Record := { w0 := 0x10280100, value := 0, mask := 0, arg := 0, last := false }
     s.nextRecord = some (0, r) ∧ r.bad s.part = false ∧ r.type = 1 ∧ r.off + r.arg.toNat ≤ 0x10000 ∧
     r.value.toNat + r.arg.toNat ≤ wordAt s.image 0x2C ∧ (loaderWrites r.page r.off [] (touch r.page s)).2 = true) ∧
    (let s := recordingOf 0x20280000 7 0 0
     let r : Record := { w0 := 0x20280000, value := 7, mask := 0, arg := 0, last := false }
     s.nextRecord = some (0, r) ∧ r.bad s.part = false ∧ r.type = 2 ∧ r.off = 0) ∧
    (let s := recordingOf 0x30280100 1 0xFFFF 10000
     let r : Record := { w0 := 0x30280100, value := 1, mask := 0xFFFF, arg := 10000, last := false }
     s.nextRecord = some (0, r) ∧ r.bad s.part = false ∧ r.type = 3 ∧ r.arg.toNat ≤ 10000 ∧
     (busRead .loader r.page r.off s).1 &&& r.mask ≠ r.value ∧ s.rawRead r.page r.off &&& r.mask ≠ r.value ∧
     (busRead .loader r.page r.off s).1 &&& 0 = 0) := by decide +kernel
theorem wit_BootReadyEntersTarget : let s := { recording 0 with boot := { (recording 0).boot with stage := .final } }
    s.canLoad = true ∧ s.boot.selfDone = true ∧ s.boot.stage = .final ∧ s.boot.golden = [] ∧ s.mode.lost = 0 ∧ s.safety.devTaken = false ∧
    modeOf (wordAt s.image 0x1C) = some .operate := by decide +kernel
theorem wit_ModeRequests : let s := modeUp .operate
    s.mayCommand .pf pMODE 0x8104 0x8108 = true ∧ s.mode.trans = none ∧ requestListed .configure s.modeNow = true ∧ s.modeNow = .operate ∧
    requestListed .safeOperate (modeUp .safeState).modeNow = false ∧ requestListed .configure (modeUp .safeState).modeNow = false ∧
    (0 : BitVec 16) ≠ 0x5A17 := by decide +kernel
theorem wit_SafeOperateRequest :
    (let s := modeUp .operate
     s.mayCommand .pf pMODE 0x8104 0x8108 = true ∧ s.modeNow ≠ .safeOperate ∧ Config.hasSafe s.part = true ∧
     requestListed .safeOperate s.modeNow = true ∧ s.entryFail false ≠ 0) ∧
    Config.hasSafe .cf1024F = false := by decide +kernel
theorem wit_RestartRequests : let s := modeUp .operate
    s.mayCommand .pf pMODE 0x8104 0x8108 = true ∧ s.rfld pMODE 0x8100 1 0 ≠ 3 ∧ Memory.wf s.mem = true ∧ s.fabric.flash = none ∧ s.life.op = none := by
  decide +kernel
def heading (m : Mode) (target : Mode) : State :=
  { modeUp m with mode := { (modeUp m).mode with trans := some { target := target, cause := 0x02, req := some .pf } } }
theorem wit_TransitionInstant : let s := heading .operate .safeState
    s.live = true ∧ s.mode.trans = some { target := .safeState, cause := 0x02, req := some .pf } ∧ s.mode.lossDue = 0 := by decide +kernel
theorem test_safe_state_latches : let s := run .modeTransition (heading .operate .safeState)
    s.modeNow = .safeState ∧ bit s.modeStatus 18 = true ∧ s.mode.prev = .operate := by decide +kernel
theorem wit_SafeStateIsLatched : (let s := { heading .operate .safeState with pending := [.modeTransition] }
     (match step s with
      | .next u => u.modeNow == .safeState
      | _ => false) = true ∧ s.modeNow ≠ .safeState) ∧
    (run .modeTransition (heading .operate .safeState)).mode.ssLatch = true := by decide +kernel
theorem wit_AbsentSafeOperate : let s := { modeUp .operate with part := .cf1024F }
    s.part = .cf1024F ∧ s.mayCommand .pf pMODE 0x8104 0x8108 = true := by decide +kernel

/-! ### Registers, header, flash, log -/

def withReg (page off : Nat) (v : Word) (s : State) : State := setReg page off v s
def opsUp : State := modeUp .operate
/-- The register found at an offset: its own offset, high half or not, read/write, wide, read-clear; and whether a write of `v` is
a plain store. -/
def found (k : PageKind) (o : Nat) (x : Nat × Bool × Bool × Bool × Bool) : Bool :=
  (findReg k o).map (fun (d, o', hi) => (o', hi, d.acc == .rw, d.wide, d.acc == .rc)) == some x
def plain (k : PageKind) (req : Requester) (p o : Nat) (v : Word) (s : State) : Bool :=
  match findReg k o with
  | some (d, _, _) => match kindWrite k req p o v (d.maskHalf false) s with
    | .ok u => decide (u = store p o (d.maskHalf false) v s)
    | .refuse _ => false
  | none => false
def plain64 (k : PageKind) (req : Requester) (p lo : Nat) (w : W64) (s : State) : Bool :=
  match kindWrite64 k req p lo w s with
  | .ok u => decide (u = setReg64 p lo w s)
  | .refuse _ => false
theorem wit_RegisterAccess_write :
    (reqOk opsUp.part .pf = true ∧ opsUp.live = true ∧ pageKind opsUp.part pLOG = some .log ∧
      found .log 0x8104 (0x8104, false, true, false, false) = true ∧ plain .log .pf pLOG 0x8104 5 opsUp = true ∧
      opsUp.mayWrite .pf pLOG 0x8104 = true ∧ opsUp.mayWrite .pf pLOG 0x200 = true ∧ isCfg 0x200 = true ∧ plain .log .pf pLOG 0x200 5 opsUp = true) := by
  decide +kernel
theorem wit_RegisterAccess_refused : firstStatus (judge (withReg pLOG 0x10 5 opsUp) .pf .log pLOG 0x200) = some .locked := by decide +kernel
theorem wit_RegisterAccess_wide : found .cls 0x8300 (0x8300, false, true, true, false) = true ∧
    found .cls 0x8304 (0x8300, true, true, true, false) = true ∧ opsUp.mayWrite .pf pCLS 0x8300 = true ∧
    (let s := run (.reg64LowWrite .pf 0x031 0x8300 7) opsUp
     sfind s.fabric.stage (reqNum .pf) = some (regKey pCLS 0x8300, 7) ∧
     plain64 .cls .pf pCLS 0x8300 (cat32 1 7) (unstage (reqNum .pf) s) = true) := by decide +kernel
theorem wit_RegisterAccess_read : found (.gate 0) 0x8010 (0x8010, false, false, true, false) = true ∧
    found (.gate 0) 0x8014 (0x8010, true, false, true, false) = true ∧
    found .safe 0x8404 (0x8404, false, false, false, true) = true ∧ fld opsUp.smbus 23 14 ≠ pDBG := by decide +kernel
/-- R50's example: the low read latches the high half, so that the pair is of one instant. -/
theorem test_64bit_counter_read :
    let s := setReg64 (pGATE 0) 0x8010 0x1_FFFFFFFF opsUp
    let s := run (.reg64LowRead .pf 0x082 0x8010) s
    let s := setReg64 (pGATE 0) 0x8010 0x2_00000000 s
    (busRead .pf (pGATE 0) 0x8014 s).1 = 1 := by decide +kernel
theorem wit_HeaderCommands :
    (pageKind opsUp.part (0x040 : Page).toNat = some .bpm ∧ reqOk opsUp.part .pf = true ∧ opsUp.mayWrite .pf pLOG 0x10 = true ∧
      (modeUp .configure).mayWrite .pf pBPM 0x10 = true ∧ (modeUp .configure).modeNow = .configure ∧ linkPage .log = false ∧
      opsUp.mayWrite .pf pLOG 0x20 = true ∧ opsUp.mayWrite .pf pLOG 0x64 = true ∧ opsUp.live = true ∧
      (modeUp .commission).mayWrite .pf pLOG 0x28 = true ∧ opsUp.host.med = []) ∧
    (let s := run (.softReset .pf 0x007) opsUp
     pLOG ∈ s.fabric.resetting ∧ s.live = true) ∧
    ((let s := withReg pLOG 0x14 0 opsUp
      pLOG ∉ s.fabric.awaitPass ∧ bit (s.reg pLOG 0x14) 6 = false ∧ s.tableDiffers pLOG = false) ∧
      graceMode opsUp.modeNow = true ∧ bit ((withReg pLOG 0x14 0x40 opsUp).reg pLOG 0x14) 6 = true) := by decide +kernel
theorem test_int_status_w1c : (run (.intStatusClear .pf 0x007 0x08) (withReg pLOG 0x20 0x0C opsUp)).reg pLOG 0x20 = 0x04 := by decide +kernel
theorem test_refused_write_counts : let s := run (.registerWrite .pf 0x007 0x200 5) (withReg pLOG 0x10 5 opsUp)
    s.reg pLOG 0x50 = 1 ∧ s.reg pLOG 0x200 = 0 ∧ bit (s.reg pLOG 0x20) 3 = true := by decide +kernel
/-- Table Status codes: an illegal argument answers code 4, BAD_ARG. -/
theorem test_bad_arg : (run (.append .pf) opsUp).reg pLOG 0x8114 = 0x80000004 := by decide +kernel
def flashing (f : FlashOp) : State := { opsUp with fabric := { opsUp.fabric with flash := some f } }
theorem wit_FlashAndLogCommands_flash :
    (let s := withReg pMODE 0x8204 4 (withReg pMODE 0x100 0x100 opsUp)
     s.mayCommand .pf pMODE 0x8208 0x820C = true ∧ s.modeNow ≠ .boot ∧ s.modeNow ≠ .zeroize ∧ bit (s.reg pMODE 0x100) 8 = true ∧
     s.flashArgsOk 1 0 = true ∧ s.flashArgsOk 3 0 = true ∧ s.flashArgsOk 5 2 = true) ∧
    (let s := withReg pMODE 0x8204 4 (withReg pMODE 0x8200 0x1000 opsUp)
     s.flashArgsOk 2 0 = true) ∧ bit (opsUp.reg pMODE 0x100) 8 = false ∧
    (let s := flashing { code := 1, slot := 0, addr := 0, len := 4096 }
     s.live = true ∧ s.fabric.flash = some { code := 1, slot := 0, addr := 0, len := 4096 } ∧ Memory.wf s.mem = true ∧ s.validate 1 = none) := by
  decide +kernel
theorem test_flash_erase : let s := run (.flashComplete true) { flashing { code := 3, slot := 0, addr := 0x1004, len := 0 } with mem := [(flashA 0x1800, 0)] }
    s.byte (flashA 0x1800) = 0xFF ∧ s.reg pMODE 0x820C = 0x80000000 := by decide +kernel
theorem wit_FlashAndLogCommands_log :
    (let s := withReg pLOG 0x8100 0x80 opsUp
     s.mayCommand .pf pLOG 0x8110 0x8114 = true ∧ 0x80 ≤ s.rfld pLOG 0x8100 7 0 ∧ opsUp.rfld pLOG 0x8100 7 0 < 0x80) ∧
    (opsUp.mayWrite .pf pLOG 0x8004 = true ∧ (opsUp.reg pLOG 0x8000 - 0).toNat < 0x80000000) ∧
    (opsUp.mayCommand .pf pLOG 0x8124 0x8128 = true ∧ (opsUp.reg pLOG 0x8020 - opsUp.reg pLOG 0x8120).toNat = 0 ∧
      (let s := setReg64 pLOG 0x408 0x1000000000 (withReg pLOG 0x8020 1 opsUp)
       (s.reg pLOG 0x8020 - s.reg pLOG 0x8120).toNat = 1 ∧ s.poison = [] ∧
       (hbmOff s.part ((s.reg64 pLOG 0x408).toNat + 0 % 2 ^ s.rfld pLOG 0x400 20 16 * s.histSize) s.histSize).isSome = true)) ∧
    (let s := withReg pLOG 0x100 0x84200000 opsUp
     s.buntOn = true ∧ (∀ j ∈ List.range 128, s.rfld pLOG (0x200 + 4 * j) 31 24 = 0)) := by decide +kernel
theorem test_append : let s := run (.append .pf) (withReg pLOG 0x8100 0x85 opsUp)
    s.reg pLOG 0x8000 = 1 ∧ (sfind s.log 0).map (·.kind) = some 0x85 := by decide +kernel

/-! ### Links, frames and classification -/

/-- Lane 0 in ordinary mode with autonegotiation, its port UP. -/
def laneUp : State := run (.linkUp 0) (withReg (pFLG 0) 0x100 0x101 opsUp)
/-- Lane 1 in FMX mode, sub-port 0 (port 8) enabled, locked and UP. -/
def fmxUp : State :=
  let s := withReg (pFLG 0) 0x144 1 (withReg (pFLG 0) 0x140 3 opsUp)
  { s with fmx := [(1, { s.fmxLane 1 with lock := true, good := 4, link := 1 })] }
theorem wit_PortCommands_links :
    (laneUp.live = true ∧ laneUp.pkts = [] ∧ laneUp.linkRuns (0 : Port).toNat = true ∧ laneUp.isFmxPort (0 : Port).toNat = false ∧
      laneUp.portUp 0 = true ∧ laneUp.lanePort 0 = some 0 ∧ laneUp.laneAn 0 = true) ∧
    (opsUp.mayWrite .pf (pFLG 15) 0x2C0 = true ∧ fld (3 : Word) 2 0 = 3 ∧ bit (3 : Word) 8 = false ∧ bit (3 : Word) 9 = false ∧
      opsUp.rfld (pFLG 15) 0x2C8 13 0 ≤ 2048 ∧ fld (0x2022 : Word) 13 12 = 2 ∧ fld (0x2022 : Word) 2 0 = 2 ∧ fld (0x2022 : Word) 5 4 = 2) ∧
    opsUp.mayWrite .pf (pTRG 7) 0x1C0 = true ∧ opsUp.mayWrite .pf (pTRG 7) 0x200 = true ∧ bit (4 : Word) 2 = true ∧ fld (4 : Word) 1 0 = 0 ∧
    opsUp.mayWrite .pf pMGP 0x100 = true ∧ fld (0xF : Word) 1 0 < Config.pistes opsUp.part ∧ fld (0xF : Word) 3 2 < Config.pistes opsUp.part := by
  decide +kernel
/-- R98's marker: its first byte is 0x2D and its last the CRC-8 of the seven before it. -/
def goodBlock : W64 := blockOf (fmxUp.marker 1)
theorem wit_PortCommands_fmx :
    (fmxUp.fmxRuns (1 : BitVec 7).toNat = true ∧ fmxUp.live = true ∧ fmxUp.pkts = [] ∧ fmxUp.portUp 8 = true ∧ (fmxUp.port 8).rx = none) ∧
    (let b := leBytes 8 goodBlock.toNat
     b.headD 0 = 0x2D ∧ crc8 (b.take 7) = (b.getD 7 0).toNat) ∧ (leBytes 8 0x78).headD 0 = 0x78 ∧
    ((run (.fmxSlotBlockRx 1 0 2 0x78) fmxUp).port 8).rx = some [0, 0, 0, 0, 0, 0, 0] := by decide +kernel
/-- R98, R99: four good markers in a row lock a lane. -/
theorem test_fmx_lock : let s := { fmxUp with fmx := [(1, { fmxUp.fmxLane 1 with lock := false, good := 3 })] }
    ((run (.fmxMarkerRx 1 goodBlock) s).fmxLane 1).lock = true := by decide +kernel
theorem test_fmx_round_sends_81_blocks : (run (.fmxRoundTx 1) fmxUp).outs.length = 81 := by decide +kernel
theorem test_lane_cfg_illegal : (run (.flLaneCfgWrite .pf 0 0x21) opsUp).reg (pFLG 0) 0x100 = 0 := by decide +kernel

/-- Pool 0 holds cells 64 to 127; port 0 may take 16 of them. -/
def cellsOn : State := withReg pBPM 0x200 0x80010001 (withReg pBPM 0x1004 16 laneUp)
/-- 60 zero bytes and their FCS. -/
def frame64 : Bytes := List.replicate 60 0 ++ fcsOf (List.replicate 60 0)
def arrived : State := run (.frameArrival 0 frame64) cellsOn
theorem wit_FrameCommands_arrival : cellsOn.live = true ∧ isLine (0 : Port).toNat = true ∧ cellsOn.portUp (0 : Port).toNat = true ∧
    cellsOn.noTraffic = false ∧ Memory.wf cellsOn.mem = true ∧ frame64.length = 64 ∧ 64 ≤ cellsOn.maxFrame 0 ∧
    (requestCells (2 * cellsOn.portPiste 0) 0 (keyOf (cellsOn.stamp 0)) (ceilDiv 64 256) [] cellsOn).1 = some [64] := by decide +kernel
theorem test_frame_arrives : (arrived.pkt 0).map (fun k => (k.len, k.cells, k.tail, k.fail.isNone)) = some (64, [64], false, true) := by
  decide +kernel
theorem test_runt_is_counted : let s := run (.frameArrival 0 (frame64.take 63)) cellsOn
    s.pkts = [] ∧ s.reg (portPage 0) (statBase 0 + 0x18) = 1 := by decide +kernel
def frame0 : Packet := Packet.new 0 0 [64] 0 64 0
def withPkt (k : Packet) (s : State) : State := { s with pkts := [(0, some k)], nextPkt := 1 }
theorem wit_FrameCommands : (withPkt frame0 cellsOn).pkt 0 = some frame0 ∧ frame0.tail = false ∧ frame0.st ≠ .gone ∧ frame0.fail = none ∧
    isLine frame0.port.toNat = true ∧ frame0.st = .arrived ∧ cellsOn.lost frame0.src.toNat = false ∧ frame0.port.toNat < 1088 ∧
    cellsOn.noTraffic = false ∧ cellsOn.poisoned (cellA (frame0.cells.headD 0)) 128 = false := by decide +kernel
def lifting : State := updPiste 1 (fun q => { q with liftQ := [0] }) (withPkt { frame0 with st := .lift } cellsOn)
theorem wit_FrameCommands_lift : lifting.pisteUp (1 : BitVec 2).toNat = true ∧ (lifting.piste 1).liftQ = 0 :: [] ∧
    lifting.pkt 0 = some { frame0 with st := .lift } ∧ lifting.bankExpired frame0 = false ∧ lifting.noTraffic = false := by decide +kernel

/-- A parsed packet and a classifier whose CLASS_MISS is a value. -/
def missing (a : W64) : State := setReg64 pCLS 0x108 a (withPkt { frame0 with st := .parsed } cellsOn)
def toPiste1 : State := let s := missing 1
  { s with cls := { s.cls with ind := (List.range 512).map (fun i => (i, 0x80000103)) } }
theorem wit_Classification : (∀ s ∈ [missing 0, missing (2 + 1088 * 4), toPiste1], s.live = true ∧
      s.pkt 0 = some { frame0 with st := .parsed } ∧ s.lost 0 = false ∧ s.nonSafetyOnly = false ∧ parseStatus frame0.parse = 0 ∧
      bit (s.reg64 pCLS 0x108) 41 = false ∧ actMirror (s.reg64 pCLS 0x108) = 0) ∧ actPrimary 0 = 0 ∧ actPrimary (2 + 1088 * 4) = 2 ∧
    actPrimary 1 = 1 ∧
    (let s := missing 0
     s.lookupRule s.cls.activeBank (s.profileOf frame0) (BitVec.ofNat 640 (joinWords (s.keyWords frame0 (s.profileOf frame0)))) = none) := by
  decide +kernel
theorem wit_Classification_redirect : let s := toPiste1
    let k := { frame0 with st := .parsed }
    let e := s.indEntry 0 ((s.spreadHash (s.profileOf k) (s.keyWords k (s.profileOf k))).toNat % 512)
    bit e 31 = true ∧ s.lost (fld e 9 8) = false := by decide +kernel
/-- A rule that matches every key of the packet's profile. -/
def matching : State := let s := missing 0
  setRule 7 { valid := true, profile := BitVec.ofNat 6 (s.profileOf frame0), key := 0, mask := 0, action := 0, hits := 4 } s
theorem test_rule_counts : ((run (.classify 0) matching).rule 7).hits = 5 := by decide +kernel
theorem test_redirect : let s := run (.classify 0) toPiste1
    (s.piste 1).offers = [0] ∧ (s.pkt 0).map (fun k => (k.st == .offered, k.kind)) = some (true, 3) := by decide +kernel
def genOn : State := withReg pCLS 0x100 1 opsUp
theorem wit_Classification_rules : clsMode opsUp = false ∧ opsUp.mayCommand .pf pCLS 0x8104 0x8108 = true ∧ opsUp.locked pCLS = false ∧
    opsUp.bankState (opsUp.bankOf opsUp.ruleIndex) ≠ .draining ∧ actBad (opsUp.reg64 pCLS 0x8300) = false ∧
    actBad ((setReg64 pCLS 0x8300 3 opsUp).reg64 pCLS 0x8300) = true ∧ genOn.genMode = true ∧ genOn.bankState (!genOn.cls.activeBank) = .idle ∧
    opsUp.mayWrite .pf pCLS 0x100 = true ∧ bit (0 : Word) 0 = opsUp.genMode ∧
    (let s := { opsUp with cls := { opsUp.cls with bank0 := .draining, inflight0 := 1, bank1 := .draining, inflight1 := 1 } }
     s.cls.bank0 = .draining ∧ s.cls.inflight0 ≠ 0 ∧ s.cls.bank1 = .draining ∧ s.cls.inflight1 ≠ 0) := by decide +kernel
/-- The example of 05_parser_classifier.md: with packets of bank 0 in flight, GEN_STATUS reads 0x0000_0121 after the FLIP. -/
theorem test_flip_gen_status : (busRead .pf pCLS 0x8000 (run (.flip .pf) { genOn with cls := { genOn.cls with inflight0 := 3 } })).1 = 0x121 := by
  decide +kernel
/-- An entry inserted for the key of all zeros. -/
def inserted : State := run (.emInsert .pf) opsUp
theorem wit_Classification_exactMatch : opsUp.mayCommand .pf pEM 0x8104 0x8108 = true ∧ opsUp.rfld pEM 0x8218 19 0 < Config.flows opsUp.part ∧
    opsUp.emFind opsUp.emKey opsUp.emProf = none ∧ (opsUp.emFree (emBuckets opsUp.emKey opsUp.emProf).1).isSome = true ∧
    inserted.mayCommand .pf pEM 0x8104 0x8108 = true ∧ (inserted.emFind inserted.emKey inserted.emProf).isSome = true := by decide +kernel
theorem wit_Classification_ind : opsUp.mayWrite .pf pHASH (0xE000 + (0x7FFF : BitVec 15).toNat % 512 * 4) = true ∧
    fld (0x307 : Word) 9 8 < Config.pistes opsUp.part := by decide +kernel

/-! ### Dispatcher, Gate and thread events -/

/-- A 64-byte packet of port 0 for piste 0, with no flow. -/
def kp : Packet := { Packet.new 0 0 [64] 0 64 0 with tail := true }
def offering (s : State) : State := updPiste 0 (fun q => { q with offers := [0] }) (withPkt { kp with st := .offered } s)
theorem wit_DispatchCommands_admit :
    (let s := offering opsUp
     s.live = true ∧ s.firstOffer 0 0 { kp with st := .offered } = true ∧ s.lost 0 = false ∧ s.kindType 0 kp.kind.toNat < 2 ∧
     (s.piste 0).lists = [] ∧ s.dieRoom 0 kp.list = true ∧ (s.piste 0).ring kp.list = []) ∧
    (let s := withReg (pDISP 0) 0x400 0x00040000 (offering opsUp)
     s.dieRoom 0 kp.list = false ∧ s.kindType 0 kp.kind.toNat = 0 ∧ ((s.piste 0).ring kp.list).length < s.ringItems 0 kp.list) := by
  decide +kernel
def spilled : State := updPiste 0 (fun q => { q with spill := [(0, [.pkt 0])] }) (withPkt { kp with st := .spilled } opsUp)
theorem wit_DispatchCommands_return : spilled.pisteUp 0 = true ∧ spilled.dieRoom 0 0 = true ∧
    (spilled.piste 0).ring 0 = [.pkt 0] ∧ spilled.poison = [] ∧ (spilled.pkt 0).isSome = true := by decide +kernel
/-- Thread 8 waits for work of kind 0, and a packet is listed. -/
def idling : State := withReg (pDISP 0) 0x1020 1 (upThr .operate { thr8 with st := .waiting, evmask := 2 })
def listing : State := updPiste 0 (fun q => { q with lists := [(0, [.pkt 0])] }) (withPkt { kp with st := .listed } idling)
def nodeWork : NodeItem := { graph := 0, node := 5, piste := 0, cycle := 1, deadlineNs := 0, nin := 1, nout := 1, prio := 0, inputs := [9]
                             written := [], admitted := 0 }
def kind1 (s : State) : State := withReg (pDISP 0) 0x200 1 s
def binds (s : State) (it : Item) : Bool :=
  match s.chooseBind 0 with
  | some (0, i, .thread 8) => decide (i = it)
  | _ => false
theorem wit_DispatchCommands_bind :
    (listing.pisteUp 0 = true ∧ binds listing (.pkt 0) = true ∧ (listing.pkt 0).isSome = true ∧
      listing.bankExpired kp = false ∧ (listing.piste 0).gateRecs.recs = []) ∧
    (let s := updPiste 0 (fun q => { q with lists := [(0, [.node nodeWork])] }) idling
     binds s (.node nodeWork) = true) := by decide +kernel
theorem test_bind : let s := run (.bind 0 false) listing
    (s.thr 8).item = some (.pkt 0) ∧ (s.pkt 0).map (·.st) = some .bound := by decide +kernel
theorem wit_DispatchCommands_firm :
    (let s := holdingPk { pk with schuss := true } thr8
     s.held 8 = some (0, { pk with schuss := true }) ∧ s.canRun 8 = true ∧ s.hasPred pk = false ∧ s.firmElsewhere pk = false ∧ s.stale pk = false) ∧
    (let k := { pk with schuss := true, noFlow := false, flow := 3, rmask := 1, snapVer := [(0, 1)] }
     let s := holdingPk k thr8
     s.stale k = true ∧ s.hasPred k = false ∧ s.firmElsewhere k = false) := by decide +kernel
def committed (d : W64) : State := withPkt { kp with st := .committed, disp := d } opsUp
def committedK (d : W64) : Packet := { kp with st := .committed, disp := d }
def releases (d : W64) : Bool :=
  let s := committed d
  s.live && s.pisteUp 0 && oldest (s.pisteP 0 (fun k => k.st == .committed && !s.hasRelated k)) == some (0, committedK d) &&
    !s.firmElsewhere kp && !s.stale kp && s.replaced kp == 0
theorem wit_GateCommands_release : releases 0 = true ∧ releases 1 = true ∧ Disp.code (0 : W64) = 0 ∧ Disp.code (1 : W64) = 1 ∧
    kp.abandoned = false ∧ kp.changed = false ∧ kp.held = [] ∧ kp.tgt = 0 := by decide +kernel
theorem test_gate_releases_forward : let s := run (.gateRelease 0) (committed 1)
    s.tmInbox.map (·.cells) = [[64]] ∧ (s.pkt 0).map (·.st) = some .gone := by decide +kernel
theorem wit_GateCommands :
    (let s := holding thr8
     s.pisteUp 0 = true ∧ pk.tgt = 0 ∧ pk.st = .bound ∧ s.hasRelated pk = false ∧ pk.holder = some 8 ∧ (s.thr 8).st ≠ .halted ∧
     (s.piste 0).gateRecs.recs.length < 64) ∧
    ((updPiste 0 (fun q => { q with snow := [3, 9] }) opsUp).piste 0).snow.contains (9 : BitVec 20).toNat = true ∧
    (let s := holding { thr8 with st := .waiting, evmask := 8 }
     (s.piste 0).deadlock = false ∧ s.deadlocked 0 = true ∧
     (let u := updPiste 0 (fun q => { q with deadlock := true }) s
      (u.piste 0).deadlock = true ∧ u.deadlocked 0 = true ∧ u.supervisorStuck 0 = true)) ∧
    (let s := modeUp .degraded
     let s := { s with sige := { s.sige with migrate := 1 }, mode := { s.mode with degFromSafe := true } }
     s.migrates (0 : BitVec 1).toNat = true ∧ s.live = true ∧ s.pisteUp 0 = true) := by decide +kernel
theorem test_gate_timeout_record : let s := run (.gateTimeout 0) (holding thr8)
    (s.piste 0).gateRecs.recs.map (·.kind) = [1] ∧ s.reg (pGATE 0) 0x8018 = 1 := by decide +kernel

def parked (p : Parked) : State := upThr .operate { thr8 with st := .parked, park := some (p, 0) }
theorem wit_ThreadEvents_park :
    (let s := upThr .operate { thr8 with timer := 1 }
     s.live = true ∧ (s.thr 8).timer ≠ 0 ∧ (s.thr 8).st ≠ .waiting) ∧
    (let s := parked (.value 31 7 0)
     s.parkLive 8 = true ∧ (s.thr 8).st = .parked ∧ s.quiet 8 = true ∧ (s.thr 8).stopPending = false ∧ (s.thr 8).park = some (.value 31 7 0, 0)) ∧
    (let s := parked (.load 1 0 0x1000000008000 8 false false)
     s.parkLive 8 = true ∧ (s.thr 8).park = some (.load 1 0 0x1000000008000 8 false false, 0) ∧ s.poisoned 0x1000000008000 8 = false ∧
     (s.bpHit 8 [1, 3] 0 8).isNone = true) := by decide +kernel
/-- AES-CTR of no bytes of the held packet. -/
def ciphering : CryOp :=
  { func := 0, p := [0, 0, 0, 0, 0, 0, 0, 0], src := 0, len := 0, fromPkt := true, key := 5, keyMode := 0, pkt := some 0, orphan := false }
theorem wit_ThreadEvents_async : let s := holding { thr8 with cry := some ciphering }
    (s.thr 8).cry = some ciphering ∧ s.pkt 0 = some pk ∧ s.cellsBad pk.cells = false ∧ (s.thr 8).st ≠ .waiting ∧
    (ciphering.run pk.cur).bytes.isSome = true := by decide +kernel
theorem wit_ThreadEvents_windows :
    pageKind opsUp.part (pCLU 1) = some (.clu 0 1) ∧ opsUp.mayWrite .pf (pCLU 1) 0xE000 = true ∧ opsUp.mayWrite .pf (pCLU 1) 0xFFFC = true ∧
    opsUp.locked (pCLU 1) = false ∧ Memory.wf opsUp.mem = true ∧ (pCLU 1 : Nat) = ((BitVec.ofNat 10 (pCLU 1)).toNat) ∧
    found (.clu 0 0) 0xC004 (0xC000, true, true, true, false) = true ∧ found (.clu 0 0) 0xC0FC (0xC0F8, true, true, true, false) = true ∧
    reqOk opsUp.part .pf = true ∧ opsUp.mayWrite .pf (pCLU 0) 0xC000 = true ∧
    (let s := setReg (pCLU 0) 0x8220 0 (run (.reg64LowWrite .pf (BitVec.ofNat 10 (pCLU 0)) 0xC0F8 7) opsUp)
     sfind s.fabric.stage (reqNum .pf) = some (regKey (pCLU 0) 0xC0F8, 7) ∧
     ((s.thr (s.tctx (pCLU 0) 0)).st = .stopped ∨ (s.thr (s.tctx (pCLU 0) 0)).st = .faulted)) := by decide +kernel
def faulty : State := withReg (pPST 0) 0x8100 8 (upThr .operate { thr8 with st := .faulted })
theorem wit_ThreadEvents_commands :
    faulty.mayCommand .pf (pPST 0) 0x8104 0x8108 = true ∧ tPiste 8 = 0 ∧ faulty.lost 0 = false ∧ isSup 8 = false ∧
    faulty.rfld (pPST 0) 0x8100 10 0 = 8 ∧ (faulty.thr 8).st = .faulted ∧
    ((withReg (pPST 0) 0x8100 8 up).thr 8).st = .running ∧ isSup 0 = true ∧ faulty.mayCommand (.tel 0) (pPST 0) 0x8104 0x8108 = true := by
  decide +kernel
theorem test_resume : let s := run (.threadResume .pf 0) faulty
    (s.thr 8).st = .running ∧ s.reg (pPST 0) 0x8108 = 0x80000000 := by decide +kernel
/-- A fault record in each queue. -/
def queued : State :=
  let s := faultThr 8 1 0 0 (faultThr 0 1 0 0 (setThr 0 { Thread.reset 0 with st := .running } up))
  updPiste 0 (fun q => { q with gateRecs := { recs := [{ kind := 1, holder := none, lostBefore := false, seq := 0, port := 0, order := 0, flow := 0
                                                         cls := 0, time := 0 }], lostBefore := false } }) s
theorem wit_ThreadEvents_pops : queued.mayWrite .pf (pPST 0) 0x9020 = true ∧ (queued.piste 0).faults.recs ≠ [] ∧
    queued.mayWrite .pf (pGATE 0) 0x9020 = true ∧ (queued.piste 0).gateRecs.recs ≠ [] ∧ queued.mayWrite (.tel 0) pTEL 0x9020 = true ∧
    queued.telFaults.recs ≠ [] := by decide +kernel

/-! ### Signal engines -/

/-- Node 0 of piste `p` an operator with its word 0, port entries 0 (signal 10) and 1 (signal 20), and P0. -/
def nodeAt (p : Nat) (w0 : Nat) (p0 : Nat) (s : State) : State :=
  putNum (sigeStoreA 0 p 0) 4 w0 (putNum (sigeStoreA 0 p 8) 8 p0 (putNum (sigeStoreA 1 p 0) 4 10 (putNum (sigeStoreA 1 p 16) 4 20 s)))
/-- Slot 0 of piste 0: node 0 alone, timer 0 of 1,000 us, deadline 500 us. -/
def slot0 (ctl : Word) (s : State) : State :=
  withReg (pSIGE 0) 0x100 0x800003E8 (withReg (pSIGE 0) 0x1000 ctl (withReg (pSIGE 0) 0x1004 1 (withReg (pSIGE 0) 0x1008 500 s)))
/-- A SUBSTITUTE node, ready to be loaded. -/
def loadable : State := slot0 0 (nodeAt 0 0x21B 0 opsUp)
def graphIn (st : GState) (x : Graph) (s : State) : State := setGraph 0 { x with st := st, openCycle := true, ran := true } s
/-- Slot 0 ACTIVE with its cycle open and a node of the given word. -/
def cycling (w0 p0 : Nat) : State := graphIn .active .reset (slot0 0 (nodeAt 0 w0 p0 opsUp))
def bindNode : State := { upThr .operate { thr8 with item := some (.node { nodeWork with node := 0, inputs := [9, 8] }) } with part := .cf1024S }
theorem wit_SignalCoprocessor :
    (let x := { nodeWork with node := 0, inputs := [9, 8] }
     bindNode.unitReady 8 4 = true ∧ bindNode.boundNode 8 = some x ∧ x.inputs[1]? = some 8 ∧
     wroutStatus bindNode x 0 0 = .ok ∧ wroutStatus bindNode x 1 0 ≠ .ok ∧ wroutStatus bindNode x 0 2 ≠ .ok) ∧
    up.unitReady 8 4 = true ∧ up.boundNode 8 = none := by decide +kernel
theorem wit_SignalCycles_start :
    let s := cycling 0x21B 0
    s.live = true ∧ s.pisteUp 0 = true ∧ Config.hasSige s.part = true ∧ bit (s.reg (pSIGE 0) (0x100 + 8 * 0)) 31 = true ∧
    s.sige.graphs.length = 1 ∧ (s.graph 0).swapFor = none ∧ (s.graph 0).st = .active ∧ s.gRuns 0 = true ∧ s.gTimer 0 = 0 ∧
    Graph.reset.swapFor = none ∧ Graph.reset.st ≠ .retiring := by decide +kernel
theorem test_cycle_start : let s := run (.cycleStart 0 0) (updGraph 0 (fun x => { x with openCycle := false }) (cycling 0x21B 0))
    (s.graph 0).openCycle = true ∧ (s.graph 0).cycle = 1 := by decide +kernel
/-- A SAFETY graph in slots 0 and 64, both cycles open or the even one closed. -/
def paired (evenOpen : Bool) : State :=
  let s := slot0 1 (nodeAt 0 0x21B 0 (modeUp .commission))
  setGraph 64 { Graph.reset with st := .active, openCycle := true } (setGraph 0 { Graph.reset with st := .active, openCycle := evenOpen } s)
theorem wit_SignalCycles_deadline :
    (let s := cycling 0x21B 0
     s.gIsOdd 0 = false ∧ gPiste 0 = 0 ∧ (s.graph 0).openCycle = true) ∧
    (let s := paired false
     s.gIsOdd (gOdd 0) = true ∧ gPiste (gOdd 0) = 1 ∧ (s.graph (gOdd 0)).openCycle = true ∧ (s.graph (gEven (gOdd 0))).openCycle = false ∧ s.pisteUp 1 = true) ∧
    (let s := setGraph 0 { Graph.reset with st := .hold } (paired true)
     (s.graph (gEven 0)).st = .hold) := by decide +kernel
theorem wit_SignalCycles_nodes :
    (let s := cycling 0x21B 0
     s.graphOf 0 (0 : BitVec 16).toNat = some 0 ∧ s.gRuns 0 = true ∧ (s.graph 0).openCycle = true ∧ 0 ∉ (s.graph 0).fired ∧ s.ready 0 0 = true ∧
     s.nodeOp 0 0 = 11) ∧
    (let s := cycling 0x21F 0
     s.nodeOp 0 0 = 15 ∧ s.ready 0 0 = true) ∧
    (let s := cycling 0x001 0
     s.nodeOp 0 0 = 1 ∧ (s.graph 0).ran = true ∧ s.ready 0 0 = true) ∧
    (let s := cycling 0x00C 0
     let f : BuiltFrame := { bytes := List.replicate 64 0, cells := [64], egress := 5, queue := 0, sched := none, cycle := 0 }
     let s := updGraph 0 (fun x => { x with built := [(0, f)] }) s
     s.gRuns 0 = true ∧ s.nodeOp 0 0 = 12 ∧ sfind (s.graph 0).built 0 = some f ∧ s.gSafe 0 = false) := by decide +kernel
/-- R302's SUBSTITUTE passes a usable input through. -/
theorem test_node_fires : let s := run (.nodeFire 0 0) (cycling 0x21B 0)
    (s.graph 0).fired = [0] := by decide +kernel
def unpacking : State := setItems 0 [{ pkt := 0, node := none, tag := none, partner := false }] (withPkt { kp with st := .bound } opsUp)
theorem wit_SignalCycles_unpack : unpacking.pisteUp 0 = true ∧ (unpacking.items 0).length = 1 ∧
    (unpacking.pkt 0).map (·.st) = some .bound ∧ unpacking.items 1 = [] ∧ unpacking.items 2 = [] ∧ unpacking.items 3 = [] := by decide +kernel
theorem wit_GraphCommands_load :
    loadable.live = true ∧ loadable.mayCommand .pf (pSIGE 0) 0x8114 0x8118 = true ∧ loadable.argSlot 0 false = 0 ∧ loadable.noMigrate 0 = false ∧
    graphMode loadable .pf (loadable.cmdSafe 0) = true ∧ loadable.evenSafe 0 = false ∧ bit (loadable.gctl 0) 9 = false ∧
    loadable.loadOk 0 none = true ∧ loadable.slotTaken 0 = false ∧ (slot0 0 (nodeAt 0 0x29B 0 opsUp)).loadOk 0 none = false := by decide +kernel
theorem test_load : let s := run (.load .pf 0) loadable
    (s.graph 0).st = .pending ∧ s.reg (pSIGE 0) 0x8118 = 0x80000000 := by decide +kernel
/-- Slot 0 ACTIVE, slot 1 with the same node one place on, to replace it. -/
def swappable : State :=
  let s := graphIn .active .reset loadable
  let s := { s with sige := { s.sige with owner := [(20, some (0, 1))] } }
  let s := putNum (sigeStoreA 0 0 64) 4 0x21B s
  withReg (pSIGE 0) 0x8100 0x100 (withReg (pSIGE 0) 0x1010 0x10000 (withReg (pSIGE 0) 0x1014 1 (withReg (pSIGE 0) 0x1018 500 s)))
theorem wit_GraphCommands_swap : swappable.mayCommand .pf (pSIGE 0) 0x8114 0x8118 = true ∧ swappable.argSlot 0 true = 1 ∧
    swappable.noMigrate 1 = false ∧ graphMode swappable .pf (swappable.cmdSafe 0 || swappable.cmdSafe 1) = true ∧ swappable.evenSafe 1 = false ∧
    (swappable.graph 0).st = .active ∧ swappable.loadOk 1 (some 0) = true ∧ swappable.slotTaken 1 = false := by decide +kernel
theorem wit_GraphCommands_force : let s := modeUp .commission
    s.mayCommand .pf (pSIGE 0) 0x8114 0x8118 = true ∧ s.rfld (pSIGE 0) 0x8110 18 0 < Config.signals s.part ∧ forceMode s = true ∧
    s.forceCopy 0 ≠ some 0 ∧ Memory.wf s.mem = true ∧ 0 < Config.pistes s.part ∧ Config.hasSige s.part = true := by decide +kernel
def tokE (odd : Bool) (r : BitVec 128) : XToken := { odd := odd, graph := 0, port := 0, index := 1, cycle := 0, record := r, forced := false }
def sealE (odd : Bool) (crc : Word) (f : Option BuiltFrame) : XSeal := { odd := odd, graph := 0, cycle := 0, node := 3, seq := 1, crc := crc, frame := f }
def frameE : BuiltFrame := { bytes := List.replicate 64 0, cells := [64], egress := 5, queue := 0, sched := none, cycle := 0 }
def comparing (b : BitVec 128) : State := updXchk 0 (fun x => { x with tokens := [tokE false 5, tokE true b] }) (paired true)
theorem wit_GraphCommands_xchk :
    ((modeUp .commission).mayWrite (.tel 0) (pXCHK 0) 0x800C = true ∧ (modeUp .commission).modeNow = .commission) ∧
    (comparing 7).pairUp 0 = true ∧ tokenPair ((comparing 7).xchk 0).tokens 0 0 = some (tokE false 5, tokE true 7) ∧
    ((comparing 7).graph 0).standsFor = none ∧ (5 : BitVec 128) = ~~~ (~~~ 5 : BitVec 128) ∧ (5 : BitVec 128) ≠ ~~~ 7 ∧
    (let s := updXchk 0 (fun x => { x with tokens := [tokE false 5] }) (paired false)
     (s.xchk 0).tokens = [tokE false 5] ∧ (s.graph 0).openCycle = false) ∧
    (let s := updXchk 0 (fun x => { x with seals := [sealE false 9 (some frameE), sealE true 9 none] }) (paired true)
     (s.xchk 0).seals = [sealE false 9 (some frameE), sealE true 9 none] ∧ frameE.cells ≠ []) ∧
    (let s := updXchk 0 (fun x => { x with seals := [sealE false 9 none, sealE true 8 none] }) (paired true)
     (s.xchk 0).seals = [sealE false 9 none, sealE true 8 none]) := by decide +kernel
theorem test_xchk_match : let s := run (.xchkCompare 0 0 0) (comparing (~~~ 5))
    s.reg64 (pXCHK 0) 0x8010 = 1 ∧ s.safety.inbox = [] := by decide +kernel
theorem test_xchk_mismatch : ((run (.xchkCompare 0 0 0) (comparing 7)).safety.inbox.map (·.kind)) = [4] := by decide +kernel
/-- A SAFETY graph of pair 0 that may migrate and its standby placement in slot 128 of pair 1. -/
def migrating : State :=
  let s := slot0 0x101 (modeUp .degraded)
  let s := withReg (pSIGE 2) 0x1000 0x201 (withReg (pSIGE 2) 0x1004 1 s)
  let s := setGraph 192 { Graph.reset with st := .standby } (setGraph 128 { Graph.reset with st := .standby } (setGraph 64 { Graph.reset with st := .hold }
    (setGraph 0 { Graph.reset with st := .hold } s)))
  { s with sige := { s.sige with migrate := 4 }, mode := { s.mode with degFromSafe := true, lost := 1 } }
theorem wit_GraphCommands_migrate : migrating.migrates (2 + 0) = true ∧ migrating.migrants 0 = [(0, 128)] := by decide +kernel
/-- The example of 10_signal_engine.md: a 2oo3 vote of 12,400, 12,460 and a BAD input, tripward and with DEGRADE, then of one usable input. -/
def voteP (mode : W64) (i : Nat) : W64 := if i = 0 then mode else if i = 1 then 500 else 32767
def volts (q2 : Nat) : List Rec := [mkRec 12400 qGOOD vInt 37046, mkRec 12460 q2 vInt 52720, mkRec 12430 qBAD vInt 61400]
def voted (mode : W64) (q2 : Nat) : List (Nat × Nat) := (opVote (voteP mode) (volts q2)).map (fun r => (r.value.toNat, r.quality))
theorem test_vote_tripward : voted 5 qGOOD = [(12460, qUNCERTAIN), (0x0B, qGOOD)] := by decide +kernel
theorem test_vote_mean : voted 13 qGOOD = [(12430, qUNCERTAIN), (0x0B, qGOOD)] := by decide +kernel
theorem test_vote_none : voted 5 qBAD = [(32767, qBAD), (0x21, qGOOD)] := by decide +kernel
/-- The two copies of signal 4,099 in that example. -/
theorem test_partner_record : let r : Rec := { value := 0x30AC, quality := 1, flags := 0x40, seq := 0x1C90, ts := 0xCDF0 }
    ~~~ r.bits = ({ value := 0xFFFFFFFFFFFFCF53, quality := 0, flags := 0xBF, seq := 0xE36F, ts := 0xFFFF320F } : Rec).bits + (0xFE : BitVec 128) * 2 ^ 64 := by
  decide +kernel

/-! ### Pools, semaphores and HBM -/

theorem wit_PoolCommands :
    (cellsOn.live = true ∧ isRequester (0 : BitVec 12).toNat = true ∧ reqPresent cellsOn.part 0 = true ∧
      (requestCell 0 3 cellsOn).1 = .ok ∧ (requestCell 0 3 cellsOn).2.1 = 64) ∧
    (let s := { opsUp with cells := [(4130, mkCtl 0x0D 0x028 1 255 0 true 0)] }
     (4130 : CellId).toNat < cellCount ∧ s.chain 4130 = [4130] ∧ ctlRefs (s.cellCtl 4130) ≠ 0 ∧ ctlTag (s.cellCtl 4130) = 0x6828 % 65536 ∧
     (let u := setReg pBPM 0x8100 4130 (setReg pBPM 0x8104 0x6828 s)
      u.mayCommand .pf pBPM 0x8108 0x810C = true ∧ u.mayCommand (.tel 0) pBPM 0x8108 0x810C = true ∧ u.rfld pBPM 0x8100 18 0 = 4130 ∧
      ctlTag (u.cellCtl 4130) = u.rfld pBPM 0x8104 15 0)) ∧
    ctlRefs (opsUp.cellCtl 4130) = 0 ∧
    (cellsOn.mayCommand .pf pBPM 0x8108 0x810C = true ∧ isRequester (cellsOn.rfld pBPM 0x8100 10 0) = true ∧
      (requestCell (cellsOn.rfld pBPM 0x8100 10 0) (keyOf cellsOn.time.ns) cellsOn).1 = .ok) := by decide +kernel
theorem test_double_free : let s := run (.chainFree 4130 0x6828) opsUp
    s.reg pBPM 0x8004 = 1 ∧ s.safety.inbox.map (·.kind) = [3] := by decide +kernel
/-- R350's dynamic blocks of cluster 0: 16 of them, 4 a thread. -/
def dynOn : State := withReg (pCLU 0) 0x600 0x40100 opsUp
theorem wit_PoolCommands_dyn :
    pageKind dynOn.part (BitVec.ofNat 10 (pCLU 0)).toNat = some (.clu 0 0) ∧ (BitVec.ofNat 10 (pCLU 0)).toNat = pCLU (0 * 8 + 0) ∧
    dynOn.mayCommand (.tel 0) (pCLU 0) 0x8504 0x8508 = true ∧ dynRight (.tel 0) (dynOn.rfld (pCLU 0) 0x8500 10 0) = true ∧
    (rangeFrom 0 (dynOn.dynBlocks 0)).find? (fun b => dynOn.dynOwner 0 b == 0) = some 0 ∧ 0 < dynOn.rfld (pCLU 0) 0x600 23 16 ∧
    (let s := { dynOn with dyn := [(0, 1)] }
     0 < s.dynBlocks 0 ∧ s.dynOwner 0 0 = s.rfld (pCLU 0) 0x8500 10 0 + 1) ∧ (8 : BitVec 8).toNat < 9 := by decide +kernel
/-- Semaphore 300 with one unit, or none, open to piste 0, the host and the Telemark complex. -/
def sem300 (avail : Nat) (th : Thread) : State :=
  setAvail 300 avail (withReg pSEMA (0x1000 + 4 * 300) 1 (withReg pSEMA (0x100 + 4 * 8) 0x701 (upThr .operate th)))
def holds300 (h : Holder) (s : State) : State := { s with sema := { s.sema with holders := [(17, some h)] } }
def notBad (s : State) (k : AKind) (off : Nat) : Bool :=
  match locate s 8 k (semaAddr 300 off) 4 with
  | .bad _ => false
  | _ => true
theorem wit_SemaphoreCommands_threads :
    (let s := sem300 1 thr8
     s.steady 8 = true ∧ s.quiet 8 = true ∧ s.schussHeld 8 = false ∧ semaPermit s 300 (reqOfThread 8) ((s.thr 8).pl == 0) = true ∧
     (acquire (reqOfThread 8) 300 s).1 = .ok ∧ notBad s .load 0 = true ∧ notBad s .load 4 = true ∧ notBad s .load 12 = true) ∧
    (sem300 0 thr8).semAvail 300 = 0 ∧
    (let h : Holder := { kind := 0, id := 8, units := 1, orphaned := false, sem := 300 }
     let s := holds300 h (sem300 0 (rg2 1 0))
     notBad s .store 8 = true ∧ s.unwatched 8 .store (semaAddr 300 8) 4 = true ∧ fld (lo32 ((s.thr 8).rg 2)) 31 16 = 0 ∧
     findHolder s.sema.holders (holderOf (reqOfThread 8)).1 (holderOf (reqOfThread 8)).2 300 = some (17, h) ∧
     1 ≤ fld (lo32 ((s.thr 8).rg 2)) 15 0 ∧ fld (lo32 ((s.thr 8).rg 2)) 15 0 ≤ h.units.toNat) := by decide +kernel
/-- The status words of the example of 12_semaphores_and_waiting.md: a grant of the last unit, and EMPTY with ARMED. -/
def parkedV (s : State) : Option W64 := match (s.thr 8).park with
  | some (.value _ v _, _) => some v
  | _ => none
theorem test_acquire_words : parkedV (run (.acquireArm 8 1 300) (sem300 1 thr8)) = some 0 ∧
    parkedV (run (.acquireArm 8 1 300) (sem300 0 thr8)) = some 0x16 := by decide +kernel
def orphan300 : Holder := { kind := 0, id := 9, units := 1, orphaned := true, sem := 300 }
def semCmd (avail : Nat) : State := withReg pSEMA 0x8100 300 (withReg pSEMA 0x8104 1 (sem300 avail thr8))
theorem wit_SemaphoreCommands :
    (let s := semCmd 1
     s.mayCommand .pf pSEMA 0x8108 0x810C = true ∧ semaMode s = false ∧ (s.reg pSEMA 0x8100).toNat < 4096 ∧ semaPermit s 300 .pf false = true ∧
     (acquire .pf 300 s).1 = .ok ∧ semaPermit opsUp 300 .pf false = false) ∧
    (let h : Holder := { kind := 2, id := 0, units := 1, orphaned := false, sem := 300 }
     let s := holds300 h (semCmd 0)
     findHolder s.sema.holders (holderOf .pf).1 (holderOf .pf).2 300 = some (17, h) ∧ 1 ≤ s.rfld pSEMA 0x8104 15 0 ∧
     s.rfld pSEMA 0x8104 15 0 ≤ h.units.toNat) ∧
    (let s := withReg pSEMA 0x8100 17 (holds300 orphan300 (semCmd 0))
     sget none s.sema.holders (s.rfld pSEMA 0x8100 14 0) = some orphan300 ∧ semaSupervises s 300 (.tel 0) = true ∧
     s.mayCommand (.tel 0) pSEMA 0x8108 0x810C = true) ∧
    ((modeUp .configure).mayWrite .pf pSEMA (0x1000 + 4 * 4095) = true ∧ (modeUp .configure).sema.holders = []) ∧
    (let s := { opsUp with sema := { opsUp.sema with orphans := [(orphan300, 17, 0)] } }
     s.mayWrite (.tel 0) pSEMA 0x9010 = true ∧ s.sema.orphans ≠ []) := by decide +kernel
theorem test_reclaim : let s := run (.semaReclaim (.tel 0)) (withReg pSEMA 0x8100 17 (holds300 orphan300 (semCmd 0)))
    s.semAvail 300 = 1 ∧ s.reg pSEMA 0x810C = 0x80000000 := by decide +kernel

def hbmReq (w late : Bool) : HbmReq := { addr := 0x40, write := w, data := [1, 2, 3, 4], late := late }
def reqQ (p : Nat) (r : HbmReq) : State := setPortQ p [r] opsUp
theorem wit_HbmCommands_ports :
    hbmServes opsUp = true ∧ clientPresent opsUp.part (9 : BitVec 4).toNat = true ∧ hbmOff opsUp.part 0x1000000040 4 = some 0x40 ∧
    Memory.wf opsUp.mem = true ∧ (opsUp.portQ 9).length < portDepth 9 ∧
    portDepth 9 ≤ ((setPortQ 9 (List.replicate (portDepth 9) (hbmReq true false)) opsUp).portQ 9).length ∧
    (reqQ 9 (hbmReq true false)).portQ 9 = hbmReq true false :: [] ∧ (reqQ 9 (hbmReq false false)).poisoned (hbmA 0x40) 4 = false ∧
    (hbmReq true false).data ≠ [] := by decide +kernel
theorem test_hbm_write : let s := run (.hbmRequestComplete 9 0) (reqQ 9 (hbmReq true false))
    s.bytes (hbmA 0x40) 4 = [1, 2, 3, 4] ∧ s.portQ 9 = [] := by decide +kernel
def trained : State := withReg (pHBMS 0) 0x8000 1 (withReg (pHBMS 1) 0x8000 1 opsUp)
theorem wit_HbmCommands_refresh :
    trained.refreshes (63 : BitVec 6).toNat = true ∧ trained.pcBusy 63 = false ∧
    (let s := setPortQ 9 [hbmReq false false] trained
     (rangeFrom 0 64).any (fun c => s.pcBusy c && s.refreshes c && decide (s.refOwed c + 1 < 8) && decide (8 ≤ (setRefOwed c 7 s).refOwed c + 1)) = true) := by
  decide +kernel
def quar1 : QuarRec := { flow := 1, source := 0, addr := 0, time := 0, lostBefore := false }
theorem wit_HbmCommands_rest :
    stackOk opsUp.part (1 : BitVec 1).toNat = true ∧ 105 ≤ (((withReg (pHBMS 1) 0x8004 105 opsUp).reg (pHBMS 1) 0x8004).setWidth 8).toInt ∧
    (let s := withReg pHBM 0x100 1 opsUp
     hbmServes s = true ∧ bit (s.reg pHBM 0x100) 0 = true ∧ hbmOff s.part 0x1000000000 1 = some 0 ∧ s.poison = [] ∧ s.hbm.scrubPos ≤ 0 / 32) ∧
    (let k := { pk with noFlow := false, flow := 3 }
     let s := withReg pHBM 0x110 1 (holdingPk k thr8)
     s.pkt 0 = some k ∧ k.st = .bound ∧ k.hasSnap = false ∧ s.poisoned (hbmA (s.flowOff 3)) 256 = false ∧ bit (s.reg pHBM 0x110) 0 = true) ∧
    (let s := { opsUp with hbm := { opsUp.hbm with quarantined := [3] } }
     (3 : BitVec 20).toNat ∈ s.hbm.quarantined) ∧
    (opsUp.mayCommand .pf pHBM 0x8104 0x8108 = true ∧ (rangeFrom 0 16).filter (fun n => bit (opsUp.reg pHBM 0x8100) n) = [] ∧
      (let s := withReg pHBM 0x8100 0x200 (reqQ 9 (hbmReq true false))
       (rangeFrom 0 16).filter (fun n => bit (s.reg pHBM 0x8100) n) = [9] ∧ clientPresent s.part 9 = true ∧ untilWrite (s.portQ 9) ≠ 0 ∧
       untilWrite (opsUp.portQ 9) = 0)) ∧
    (opsUp.mayCommand .pf pHBM 0x8204 0x8208 = true ∧ opsUp.rfld pHBM 0x8200 19 0 < Config.flows opsUp.part ∧ opsUp.pinned 0 = false ∧
      (holdingPk { pk with noFlow := false, flow := 0, hasSnap := true } thr8).pinned 0 = true ∧
      opsUp.flowLine 0 = none ∧ opsUp.poisoned (hbmA (opsUp.flowOff 0)) 256 = false) ∧
    (let s := { opsUp with hbm := { opsUp.hbm with quar := { recs := [quar1], lostBefore := false } } }
     s.mayWrite (.tel 0) pHBM 0x9020 = true ∧ s.hbm.quar.recs ≠ []) ∧
    ((modeUp .configure).mayWrite .pf pHBM 0x108 = true ∧ opsUp.mayWrite .pf pHBM 0x108 = true ∧ opsUp.modeNow ≠ .configure ∧
      hbmOff opsUp.part 0x1000000000 (Config.flows opsUp.part * 256) ≠ none) := by decide +kernel

/-! ### Traffic, time, life cycle, debug -/

/-- A frame of one cell for port 0, queue 3. -/
def copy0 : TmCopy := TmCopy.ofPkt 0 kp 0 3
def sending : State := withPkt kp (setRegK (tmKey 0 0xA040) 0x40 laneUp)
def queuedAt (p : Nat) (c : TmCopy) (s : State) : State := setQueue p 3 [c] s
theorem wit_TrafficCommands_admit :
    (let s := { sending with tmInbox := [copy0] }
     s.live = true ∧ Memory.wf s.mem = true ∧ copy0.handle = none ∧ s.portUp 0 = true ∧ s.storeEntries < 262144 ∧
     ((s.port 0).queue 3).length < fld (s.qcfg 0 3) 15 0 ∧ copy0.yellow = false ∧ copy0.sched = none ∧ bit (s.qcfg 0 3) 18 = false) ∧
    (let c := { copy0 with egress := 9 }
     laneUp.portUp 9 = false ∧ c.mirror = none ∧ c.inPort ≠ 0x7FF) ∧
    (let s := putNum (tsnStoreA 1 32) 16 0x40000 opsUp
     natFld (s.tsnEntry 1 (2 : BitVec 16).toNat) 18 18 = 1 ∧ natFld (s.tsnEntry 1 (2 : BitVec 16).toNat) 15 0 = 0) := by decide +kernel
def settledTx (s : State) : State := (rangeFrom 0 8).foldl (fun s q => dropHeads 0 q ((s.port 0).queue q).length s) (settleCredits 0 s)
theorem wit_TrafficCommands_start :
    (let s := queuedAt 0 copy0 sending
     isLine 0 = true ∧ s.portUp 0 = true ∧ s.noFramesOut = false ∧ s.isFmxPort 0 = false ∧ (settledTx s).pickQueue 0 = some (3, copy0) ∧
     ((settledTx s).port 0).tx = none) ∧ (settledTx sending).pickQueue 0 = none := by decide +kernel
def now0 : TxNow := { copy := copy0, queue := 3, startSec := 0, startNs := 0, data := frame64, sent := 0, bad := false }
theorem wit_TrafficCommands_complete : (let s := updPort 0 (fun x => { x with tx := some now0 }) sending
    (s.port 0).tx = some now0 ∧ s.copyCheck now0.copy = some true ∧ now0.bad = false ∧ s.isFmxPort 0 = false) ∧
    (let s := queuedAt 1344 { copy0 with egress := 1344 } sending
     (s.port 1344).queue 3 = { copy0 with egress := 1344 } :: [] ∧ s.copyCheck copy0 = some true ∧
     s.mailRoom (2048 + s.rfld pTM (0x110 + 3 * 4) 2 0) = true) := by decide +kernel
theorem test_frame_sent : let s := run (.txComplete 0) (updPort 0 (fun x => { x with tx := some now0 }) sending)
    s.outs = [.frame 0 frame64 false] ∧ (s.port 0).tx = none := by decide +kernel
def gateList (g : GclRun) : State := updPort 0 (fun x => { x with gcl := g }) laneUp
/-- The list of two entries in a cycle of 250 us: entry 0 or entry 1, or a change that waits. -/
def gcl2 (entry : Nat) (endAt : Int) : GclRun :=
  { GclRun.reset with list := 0x200000, cycle := 250000, running := true, entry := entry, endAt := endAt, cycleEnd := 250000 }
/-- Two entries of 125 us in the gate store, an administrative list that names them. -/
def adminOn : State :=
  let s := putNum (tsnStoreA 0 0) 8 (125000 * 2 ^ 32 + 0x80) (putNum (tsnStoreA 0 8) 8 (125000 * 2 ^ 32 + 0x7F) laneUp)
  setRegK (tmKey 0 0xA114) 0x200000 (setRegK (tmKey 0 0xA10C) 250000 (setRegK (tmKey 0 0xA100) 10 s))
theorem wit_TrafficCommands_gates :
    schedPort (0 : Port).toNat = true ∧ schedPort 1055 = true ∧
    (let g := ((gateList (gcl2 0 20000)).port 0).gcl
     g.running = true ∧ g.gap = false ∧ g.entry + 1 < gclLen g.list ∧ g.endAt < g.cycleEnd) ∧
    (let g := ((gateList (gcl2 1 250000)).port 0).gcl
     gclLen g.list ≤ g.entry + 1 ∧ g.mark = none ∧ g.pendingChange = false ∧ (g.cycleEnd - g.base) % Int.ofNat g.cycle.toNat = 0) ∧
    ((gateList { gcl2 0 20000 with pendingChange := true }).port 0).gcl.pendingChange = true ∧
    (let s := setRegK (tmKey 0 0xA000) 4 laneUp
     s.preemptible 0 = true ∧ bit (s.portCfg 0) 2 = true ∧ bit (s.portCfg 0) 3 = false) ∧
    (adminOn.mayWrite .pf pTM 0xA11C = true ∧ adminOn.locked pTM = false ∧ adminOn.tmSel = 0 ∧ adminOn.portPresent 0 = true ∧
      adminOn.adminOk 0 = true ∧ laneUp.adminOk 0 = false ∧ adminOn.totalNs < 10000000000 ∧ (adminOn.win 0 0xA108).toNat < 1000000000) := by
  decide +kernel
theorem test_gate_entry_end : ((run (.gclEntryEnd 0) (updPort 0 (fun x => { x with gcl := gcl2 0 125000 }) adminOn)).port 0).gcl.gates = 0x7F := by
  decide +kernel
theorem wit_TrafficCommands_stores :
    (let s := { opsUp with streams := [(65535, { opsUp.stream 65535 with recUsed := true })] }
     (s.stream (65535 : BitVec 16).toNat).recUsed = true) ∧
    (opsUp.mayWrite .pf 0x04A 0xC000 = true ∧ opsUp.mayWrite .pf 0x04C 0xDFFC = true ∧ opsUp.locked pTM = false ∧
      opsUp.tsnAddr 3 0xDFFC + 4 ≤ tsnSize 3 ∧
      (putNum (tsnStoreA 1 0) 4 7 opsUp).targetAbsent ((putNum (tsnStoreA 1 0) 4 7 opsUp).tsnEntry 1 (0 / 16)) = false) ∧
    (let s := updPiste 3 (fun q => { q with tsRecs := { recs := [{ bytes := [] }], lostBefore := false } }) opsUp
     s.mayWrite .pf (pTSN 5) (0x9010 + (3 : BitVec 2).toNat * 0x40) = true ∧ (s.piste 3).tsRecs.recs ≠ []) := by decide +kernel
theorem wit_TimeBaseCommands_commands :
    (let s := withReg pTIME 0x8108 999999999 opsUp
     s.live = true ∧ s.mayCommand .pf pTIME 0x810C 0x8110 = true ∧ s.argNs.toNat < 1000000000) ∧
    1000000000 ≤ (withReg pTIME 0x8108 1000000000 opsUp).argNs.toNat ∧
    ((withReg pTIME 0x8108 1000000000 opsUp).argNs.toInt = 1000000000) ∧
    (withReg pTIME 0x8108 1000000001 opsUp).argNs.toInt = 1000000001 ∧
    bit ((withReg pTIME 0x100 2 opsUp).reg pTIME 0x100) 1 = true ∧ opsUp.mayWrite .pf pTIME 0x8010 = true ∧
    (4294967 : Word).toInt = 4294967 ∧ (4294968 : Word).toInt = 4294968 ∧ Int.ofNat 0 + 1000000000 * 0x100000000 < Int.ofNat fracWrap := by
  decide +kernel
theorem wit_TimeBaseCommands_pps :
    (let s := withReg pTIME 0x100 3 { opsUp with time := { opsUp.time with lastPps := some 0, ticks := 999999 } }
     bit (s.reg pTIME 0x100) 1 = true ∧ bit (s.reg pTIME 0x100) 0 = true ∧ s.time.lastPps = some 0 ∧ s.time.ticks < 0 + 1000000) ∧
    (let s := { opsUp with time := { opsUp.time with lastPps := some 0, ticks := 1000000, atPps := some (5, 999999999) } }
     0 + 1000000 ≤ s.time.ticks ∧ s.time.atPps = some (5, 999999999)) ∧ opsUp.time.atPps = none ∧ opsUp.time.lastPps = none ∧
    refPresent opsUp.part (25 : BitVec 5).toNat = true ∧ bit opsUp.refOk 25 = true ∧ opsUp.refOn 25 = true ∧ refInput 0 = 0 := by decide +kernel
theorem test_pps_sets_time : let s := run .ppsInEdge (withReg pTIME 0x100 2 { opsUp with time := { opsUp.time with atPps := some (5, 7) } })
    s.time.sec = 5 ∧ s.time.ns = 7 ∧ s.time.frac = 0 := by decide +kernel
def living (st prog : Nat) (m : Mode) : State :=
  { modeUp m with life := { (modeUp m).life with state := BitVec.ofNat 3 st, programmed := BitVec.ofNat 4 prog } }
theorem wit_LifeCycleCommands_tamper :
    ((living 2 0 .operate).mode.powered = true ∧ Memory.wf (living 2 0 .operate).mem = true ∧ (living 2 0 .operate).tamperEn 0 = true ∧
      (living 2 0 .operate).tamperEn 1 = true ∧ (!bit opsUp.life.tamper 3) = true ∧ (withReg pLIFE 0x100 0 opsUp).tamperEn 0 = false ∧ (withReg pLIFE 0x100 0 opsUp).tamperEn 1 = false) ∧
    (sfind State.reset.wipes 32 = some { running := true, done := false, fail := false } ∧ (32 : BitVec 6).toNat ≤ 32) ∧
    (let s := { modeUp .zeroize with life := { (modeUp .zeroize).life with zeroing := true } }
     s.modeNow = .zeroize ∧ s.life.zeroing = true) := by decide +kernel
theorem test_tamper_zeroizes : let s := run (.tamperEvent .pin) (living 2 0 .operate)
    s.life.tamper = 1 ∧ s.transTarget = some .zeroize := by decide +kernel
theorem wit_LifeCycleCommands :
    (let s := living 1 3 .configure
     s.mayCommand (.tel 0) pLIFE 0x8104 0x8108 = true ∧ s.modeNow = .configure ∧ s.life.state.toNat = 1 ∧ s.lifeSlot = 0 ∧
     bit s.life.programmed 0 = true ∧ (rangeFrom 0 4).any (fun i => i != 0 && s.slotGood i) = true ∧
     (rangeFrom 0 4).any (fun i => i != 0 && (living 1 1 .configure).slotGood i) = false ∧ p384Point (s.lifeBytes 0x9000 24) = false ∧
     (let u := { s with boot := { s.boot with verified := true } }
      u.boot.verified = true)) ∧
    ((living 0 1 .maintenance).life.programmed ≠ 0 ∧ (living 0 1 .maintenance).life.state.toNat = 0) ∧
    (let s := withReg pLIFE 0x8040 1 (living 2 1 .maintenance)
     s.mayCommand (.tel 0) pLIFE 0x8104 0x8108 = true ∧ s.life.state.toNat = 2 ∧ ((s.lifeBytes 0x8040 4).all (· == 0)) = false ∧
     (living 2 0 .maintenance).keyUsable 0 = false) ∧
    (opsUp.mayCommand (.tel 0) pLIFE 0x8104 0x8108 = true ∧ opsUp.modeNow ≠ .configure ∧ opsUp.modeNow ≠ .maintenance) ∧
    (let s := { opsUp with life := { opsUp.life with op := some (1, 3) } }
     s.life.op = some (1, 3) ∧ s.life.opRefused = false) := by decide +kernel
/-- The base point of P-384 (FIPS 186-4) is a public key that KEY_PROG may take, in a slot not programmed. -/
theorem wit_LifeCycleCommands_point : p384Point (beBytes 48 p384G.1 ++ beBytes 48 p384G.2) = true := by decide +kernel
theorem test_fuses : let s := run .fuseProgrammingDone { opsUp with life := { opsUp.life with op := some (1, 3) } }
    s.life.programmed = 8 ∧ s.life.op = none := by decide +kernel
def debugging (th : Thread) : State := withReg pDBG 0x8100 8 (upThr .commission th)
theorem wit_DebugCommands :
    (let s := debugging thr8
     s.mayCommand .pf pDBG 0x8104 0x8108 = true ∧ s.dbgThread / 512 < Config.pistes s.part ∧ s.debuggerOpen = true ∧ s.dbgThread = 8 ∧
     debugMode s = true ∧ s.dbgScope = 0 ∧ haltable (s.thr 8) = true ∧ traceMode s = true ∧ (s.piste 0).traceRun = false) ∧
    haltable (debugging { thr8 with st := .stopped } |>.thr 8) = false ∧
    (let s := debugging { thr8 with st := .halted, prev := .running, item := some (.pkt 0) }
     (s.thr 8).st = .halted ∧ (s.thr 8).prev ≠ .waiting ∧ (s.thr 8).late = none ∧ (s.thr 8).item = some (.pkt 0) ∧
     (let u := withPkt pk s
      u.held 8 = some (0, pk) ∧ pk.st = .bound)) ∧
    (withReg pDBG 0x8100 8 up).mayCommand .pf pDBG 0x8104 0x8108 = true ∧ debugMode up = false ∧
    (let s := withReg pDBG 0x8108 0x40000000 (debugging thr8)
     s.live = true ∧ bit (s.reg pDBG 0x8108) 30 = true ∧ (s.thr 8).st ≠ .halted) ∧ State.reset.mode.powered = true := by decide +kernel
theorem test_halt : let s := run (.halt .pf) (debugging thr8)
    (s.thr 8).st = .halted ∧ s.reg pDBG 0x8008 = 0x80000008 := by decide +kernel

/-! ### Safety, host and steps -/

def rec1 (kind : Byte) (page : BitVec 10) : SafeRec :=
  { kind := kind, cls := 0, forced := false, lostBefore := false, mode := .safeOperate, degFromSafe := false, page := page, d0 := 5, d1 := 0x1C90
    ns := 0, sec := 0, us := 0 }
def inboxed (r : SafeRec) : State := updSafety (fun u => { u with inbox := [r] }) (modeUp .safeOperate)
theorem wit_SafetyMonitors :
    (∀ k ∈ [0x04, 0x0D, 0x1A], let s := inboxed (rec1 k 0x084)
      s.monitors = true ∧ s.safety.inbox = rec1 k 0x084 :: [] ∧ (rec1 k 0x084).kind ≠ 0x03 ∧ s.safety.queue.recs.length < 256) ∧
    recClass (inboxed (rec1 0x04 0x084)) (rec1 0x04 0x084) 0 = 3 ∧ safeable (modeUp .safeOperate).modeNow = true ∧
    (modeUp .safeOperate).mode.trans = none ∧ recClass opsUp (rec1 0x0D 0x001) 0 = 2 ∧ recClass opsUp (rec1 0x1A 0x001) 0 = 0 ∧
    opsUp.injWaits 7 = false ∧ opsUp.injWaits 4 = false ∧ (10 : BitVec 4).toNat < 11 ∧ (8 : BitVec 4).toNat < 9 ∧
    opsUp.safety.trip = false ∧ pairOk opsUp.part (1 : BitVec 1).toNat = true ∧ (opsUp.xchk 1).selfFail = false ∧
    (let s := updSafety (fun u => { u with inSeen := true, inA := true }) opsUp
     s.safety.inSeen = true ∧ s.safety.inA ≠ s.safety.inB) ∧ (modeUp .safeOperate).pennantRuns = true ∧ opsUp.pennantRuns = false ∧
    (let s := updSafety (fun u => { u with queue := { recs := [rec1 4 0], lostBefore := false } }) opsUp
     s.mayWrite (.tel 0) pSAFE 0x9020 = true ∧ s.safety.queue.recs ≠ []) := by decide +kernel
/-- The example of 16_functional_safety.md: the HEAD of the queued record reads 0x0847_0304. -/
def classed : State := run .safetyRecord (inboxed (rec1 0x04 0x084))
theorem test_safe_rec_head : classed.rawRead pSAFE 0x9000 = 0x08470304 ∧ classed.reg pSAFE 0x8004 = 4 := by decide +kernel
/-- A watchdog armed at tick 0 with a timeout of 1,000 us: at its edge, inside its window, and too early. -/
def watched (n age : Nat) (m : Mode) : State :=
  let s := setWd n { armed := true, first := false, expected := 0xA55A, since := 0 } (withReg pSAFE 0x108 1000 (modeUp m))
  { s with time := { s.time with ticks := age } }
theorem wit_WatchdogKicks :
    (isSup 512 = true ∧ tPiste 512 = 1 ∧ opsUp.mayWrite (.core 512) (pPST 1) 0x8200 = true ∧ (watched 1 1000000 .operate).wdTimeout = 1000000 ∧
      (watched 1 1000000 .operate).mayWrite (.core 512) (pPST 1) 0x8200 = true ∧ ((watched 1 1000000 .operate).wd 1).armed = true) ∧
    ((pageKind opsUp.part (pPST 1)).isSome = true ∧ opsUp.live = true ∧ opsUp.modeNow ≠ .boot ∧ reqOk opsUp.part (.core 520) = true ∧
      isSup 520 = false ∧ reqOk opsUp.part (.tel 0) = true) ∧
    ((4 : BitVec 3).toNat / 4 = (1 : BitVec 1).toNat ∧ (watched 5 0 .operate).mayWrite (.tel 4) pSAFE (0x8040 + 4 * 1) = true ∧
      ((watched 5 0 .operate).wd 5).armed = true) := by decide +kernel
theorem test_kick_in_window : (run (.pstWdKick (.core 512) 1 0xA55A) (watched 1 500000 .operate)).wd 1 =
    { armed := true, first := false, expected := 0x5AA5, since := 500000 } := by decide +kernel
theorem test_kick_too_early : let s := run (.pstWdKick (.core 512) 1 0xA55A) (watched 1 249999 .operate)
    s.safety.inbox.map (·.kind) = [0x0D] ∧ (s.wd 1).armed = false := by decide +kernel
theorem wit_SelfTestsAndInjections :
    (let s := modeUp .safeOperate
     s.live = true ∧ s.pisteUp (3 : BitVec 2).toNat = true ∧ s.testMode = true ∧ (s.selfTest 3).active = false) ∧
    (let s := setTest 3 { SelfTest.reset with active := true, core := 63 } (modeUp .safeOperate)
     (s.selfTest 3).active = true ∧ (s.selfTest 3).offline = false ∧ s.coreIdle 3 63 = true ∧ sget 0 (s.selfTest 3).skips 63 + 1 < 8) ∧
    (let s := setTest 3 { SelfTest.reset with active := true, offline := true } (modeUp .safeOperate)
     (s.selfTest 3).offline = true ∧ (s.selfTest 3).retried = false) ∧
    (let s := modeUp .commission
     s.mayCommand (.tel 0) pSAFE 0x8304 0x8308 = true ∧ s.modeNow = .commission ∧ (s.injGraph matches .error .badArg) = true ∧
     fld (s.reg pSAFE 0x8300) 3 0 < 9 ∧ 9 ≤ fld ((withReg pSAFE 0x8300 9 s).reg pSAFE 0x8300) 3 0 ∧
     bit ((withReg pSAFE 0x8300 0x300 s).reg pSAFE 0x8300) 8 = true ∧ bit (s.reg pSAFE 0x8300) 8 = false ∧
     fld (s.reg pSAFE 0x8300) 1 0 < Config.pistes s.part ∧ pairOk s.part 1 = true ∧ pairOk .cf1024F 0 = false) ∧
    (opsUp.mayCommand (.tel 0) pSAFE 0x8304 0x8308 = true ∧ opsUp.modeNow ≠ .commission ∧ opsUp.modeNow ≠ .maintenance) := by decide +kernel
theorem wit_SelfTestsAndInjections_graph :
    let s := setGraph 0 { Graph.reset with st := .active } (withReg (pSIGE 0) 0x1000 1 (modeUp .commission))
    (match s.injGraph with
     | .ok g => g == 0
     | .error _ => false) = true := by decide +kernel

/-- Instance 17 ACTIVE, the link up; TX ring 0 and RX ring 0 on with 16 places each. -/
def hosting : State :=
  let s := setReg (pINST 17) (ringOff 16 + 8) 0x80000004 (setReg (pINST 17) (ringOff 0 + 8) 0x80000004 (setReg (pINST 17) 0x10 1 opsUp))
  let s := setReg (pINST 17) 0x108 0x00100001 s
  updInst 17 (fun x => { x with st := .active }) { s with host := { s.host with linkUp := true } }
theorem wit_HostTransfers_doorbells : hosting.live = true ∧ Memory.wf hosting.mem = true ∧ hosting.instRuns 17 = true ∧
    hosting.ringOn 17 0 = true ∧ hosting.ringSize 17 0 = 16 ∧ hosting.ringOn 17 1 = false ∧ opsUp.instRuns 17 = false ∧
    (let s := setReg (pINST 17) 0x110 0x80000008 hosting
     bit (s.reg (pINST 17) 0x110) 31 = true ∧ s.rfld (pINST 17) 0x110 10 0 / 512 < Config.pistes s.part) := by decide +kernel
/-- One descriptor of R435: 60 bytes at 0x1000, EOP; and one of no bytes. -/
def desc60 (n : Nat) : Bytes := leBytes 8 0x1000 ++ leBytes 2 n ++ leBytes 2 1 ++ leBytes 4 0
def ringing : State := updInst 17 (fun x => { x with txTail := [(0, 1)] }) hosting
theorem wit_HostTransfers_fetch : ringing.posted 17 0 = 1 ∧ (desc60 60).length / 16 = 1 ∧ (ringing.inst 17).xfers = [] ∧
    (ringing.inst 17).admitQ.length < ringing.ceiling 17 ∧ ringing.admitRoom = true ∧ ringing.mediated 17 = false ∧
    (match frameRun ((chunks 16 1 (desc60 60)).map txDesc) with
     | some f => frameLegal f
     | none => false) = true ∧
    (match frameRun ((chunks 16 1 (desc60 0)).map txDesc) with
     | some f => frameLegal f
     | none => true) = false := by decide +kernel
def xfer0 (cells : List Nat) : TxXfer := { ring := 0, head := 1, bufs := [(0x1000, 60)], got := [], cells := cells, piste := 0, owner := 1105 }
def xferring (x : TxXfer) : State := updInst 17 (fun u => { u with xfers := [x] }) hosting
theorem wit_HostTransfers_read :
    (xferring (xfer0 [])).instRuns 17 = true ∧ ((xferring (xfer0 [])).inst 17).xfers.find? (fun x => x.ring == 0 && !x.going) = some (xfer0 []) ∧
    ((xferring (xfer0 [64])).inst 17).xfers.find? (fun x => x.ring == 0 && x.going) = some (xfer0 [64]) ∧ (xfer0 [64]).total = 60 ∧
    (xferring (xfer0 [64])).host.linkUp = true ∧ ((xferring (xfer0 [64])).inst 17).st = .active := by decide +kernel
theorem test_read_admits : ((run (.hostReadCompletion 17 0 (List.replicate 60 0) false) (xferring (xfer0 [64]))).inst 17).admitQ = [0] := by
  decide +kernel
/-- A frame for instance 17's port, and 256 bytes posted for it at 0x2000. -/
def entry256 : Bytes := leBytes 8 0x2000 ++ leBytes 2 256 ++ List.replicate 22 0
def rxHost : State :=
  setQueue 1105 0 [{ TmCopy.ofPkt 0 kp 1105 0 with pkt := none }] (updInst 17 (fun x => { x with rxTail := [(0, 1)] }) hosting)
theorem wit_HostTransfers_delivery : rxHost.rfld (pINST 17) 0x9400 3 0 = 0 ∧ rxHost.ringOn 17 16 = true ∧ rxHost.posted 17 16 = 1 ∧
    rxHost.mediated 17 = false ∧ ((rxHost.port 1105).queue 0).map rxHost.copyCheck = [some true] ∧
    (rxPlan ((chunks 32 1 entry256).map rxEntry) 0 64).isSome = true ∧ (setReg (pINST 17) (ringOff 16 + 8) 0 rxHost).ringOn 17 16 = false ∧
    (let s := updInst 17 (fun x => { x with irqWait := [31] }) hosting
     s.host.linkUp = true ∧ (s.inst 17).irqWait.contains (31 : BitVec 5).toNat = true) := by decide +kernel
theorem wit_HostTransfers_bulk : let s := setReg pHOST 0x8110 64 (setReg64 pHOST 0x8108 0x1000000000 hosting)
    s.mayCommand .pf pHOST 0x8114 0x8118 = true ∧ bulkReq .pf = true ∧ hbmServes s = true ∧
    hbmOff s.part (s.reg64 pHOST 0x8108).toNat s.xferLen = some 0 ∧ s.xferLen % 64 = 0 ∧ s.xferLen ≤ 0x1000000 ∧ s.host.linkUp = true ∧
    s.poisoned (hbmA 0) 64 = false := by decide +kernel
theorem wit_InstanceCommands :
    (opsUp.mayWrite .pf (pINST 17) 0x10 = true ∧ opsUp.instOn 17 = false ∧ (opsUp.inst 17).st = .disabled ∧ opsUp.mediated 17 = false ∧
      (setReg (pINST 17) 0x100 1 opsUp).mediated 17 = true ∧ hosting.instOn 17 = true ∧ (hosting.inst 17).st = .active ∧
      opsUp.mayWrite .pf (pINST 17) 0x108 = true ∧ fld (0x20000001 : Word) 29 16 = 8192 ∧ fld (0x20000001 : Word) 7 0 ≠ 0) ∧
    (hosting.mayCommand .pf (pINST 17) 0x8104 0x8108 = true ∧ (setReg (pINST 17) 0x100 1 hosting).mayCommand (.inst 17) (pINST 17) 0x8104 0x8108 = true ∧
      hosting.host.med = []) ∧
    ((updInst 17 (fun x => { x with st := .resetting }) hosting).inst 17).st = .resetting ∧
    (let r : MedRec := { off := 0x9400, inst := 17, wide := false, value := 0, time := 0 }
     let s := { hosting with host := { hosting.host with med := [r] } }
     s.mayCommand .pf pIOV 0x8208 0x820C = true ∧ s.host.med = r :: [] ∧ s.mayWrite (.inst 17) (pINST 17) 0x9400 = true) ∧
    hosting.mayCommand .pf pIOV 0x8104 0x8108 = true ∧ hosting.host.linkUp = true ∧
    (let s := updInst 17 (fun x => { x with st := .frozen }) opsUp
     s.live = true ∧ s.host.linkUp = false ∧ bit s.refOk 25 = true ∧ (s.inst 17).st = .frozen) := by decide +kernel
/-- The end of the reset in 15_host_interface_instances.md: two transactions drained, one squashed. -/
theorem test_inst_reset_result : (run (.instResetComplete 17)
    (updInst 17 (fun x => { x with st := .resetting, drained := 2, squashed := 1 }) hosting)).reg (pINST 17) 0x810C = 0x00010002 := by decide +kernel
theorem wit_StepOnEmptyQueueTicks : opsUp.pending = [] ∧ opsUp.mode.powered = true ∧ opsUp.mode.pllLost = false ∧ opsUp.mode.inReset = false ∧
    (run .powerRemoved opsUp).mode.powered = false ∧ (run .powerRemoved opsUp).pending = [] := by decide +kernel
def stepped (s : State) : Bool := match step s with
  | .next u => Memory.wf u.mem && decide (u.part = s.part)
  | _ => false
/-- The hypotheses of StepKeepsMemoryForm and StepKeepsThePart. -/
theorem wit_StepKeepsMemoryForm_StepKeepsThePart : (let s := { inScratch 0x10000000 with pending := [.sd 8 3 2 0] }
    Memory.wf s.mem = true ∧ stepped s = true) ∧ stepped State.reset = true := by decide +kernel
/-- 64 mediated instances run, as many as IOV takes. -/
def sixtyFour : State :=
  { opsUp with regs := (List.range 64).flatMap (fun i => [(regKey (pINST i) 0x10, 1), (regKey (pINST i) 0x100, 1)]) }
theorem wit_InstanceCommands_full : sixtyFour.mediatedOn = 64 := by decide +kernel

end Sys2Proof.Tests
end

section
/-! MODE_REQ (R64, R65): what a permitted write with the right KEY comes to, and the request for SAFE-OPERATE on a part that has no
SAFE-OPERATE (R7). -/
namespace Sys2Proof.Machine
open Sys2Proof

/-- A free command register is one that may be written, lies outside the configuration set, and whose interface is not BUSY. -/
theorem mayCommand_iff {s : State} {req : Requester} {page off statusOff : Nat} :
    s.mayCommand req page off statusOff = true ↔
      s.mayWrite req page off = true ∧ isCfg off = false ∧ bit (s.reg page statusOff) 30 = false := by
  simp [State.mayCommand, and_assoc]

/-- A completed command reads DONE with its code in its status register. -/
theorem doneWith_cmdDone (s : State) {page statusOff : Nat} (st : Status) (h : statusOff ≠ 0x20) :
    (cmdDone page statusOff st s).doneWith page statusOff st :=
  reg_cmdDone s page statusOff st (by simpa [regKey] using h)

@[simp] theorem modeNow_cmdDone (page statusOff : Nat) (st : Status) (s : State) :
    (cmdDone page statusOff st s).modeNow = s.modeNow := by
  simp [State.modeNow]

/-- A write of MODE_REQ that is not refused is not notified as one (R74). -/
theorem noteSafeRequest_ok (req : Requester) (page off : Nat) (v : Word) (s s' : State) :
    noteSafeRequest req page off v s (s', some .ok) = (s', some .ok) := by
  unfold noteSafeRequest
  split <;> rfl

/-- A permitted row of MODE_REQ is what the register's own rules make of it. -/
theorem modeRow_ok {s s' : State} {req : Requester} {code : Nat} {key : BitVec 16}
    (hp : s.mayWrite req pMODE 0x8104 = true) (hs : modeReqWrite req (w32 (key.toNat * 0x10000 + code)) s = .ok s') :
    modeRow code req key s = s' := by
  obtain ⟨hreq, -⟩ := mayWrite_iff hp
  simp [modeRow, hreq, writeReg_ok hp (by decide) hs, noteSafeRequest_ok]

theorem reqTarget_bounds {code : Nat} {m : Mode} (h : reqTarget code = some m) : 4 ≤ code ∧ code ≤ 11 := by
  unfold reqTarget at h
  split at h
  · assumption
  · cases h

/-- With the interface free, the right KEY and the code of a mode, a write of MODE_REQ is the command that requests the mode. -/
theorem modeReqWrite_target {s : State} (req : Requester) {code : Nat} {m : Mode} (hfree : bit (s.reg pMODE 0x8108) 30 = false)
    (ht : reqTarget code = some m) :
    modeReqWrite req (w32 (0x5A17 * 0x10000 + code)) s = command pMODE 0x8108 (requestMode req m) s := by
  obtain ⟨hlo, hhi⟩ := reqTarget_bounds ht
  have hkey : fld (w32 (0x5A17 * 0x10000 + code)) 31 16 = 0x5A17 := by simp [fld, w32]; omega
  have hcode : fld (w32 (0x5A17 * 0x10000 + code)) 15 0 % 256 = code := by simp [fld, w32]; omega
  have hwarm : code ≠ 0x10 := by omega
  have hcold : code ≠ 0x11 := by omega
  simp [modeReqWrite, hfree, hkey, hcode, hwarm, hcold, ht]

/-- A permitted request for a mode that is answered at once has completed with its code. -/
theorem modeRow_done {s s' : State} {req : Requester} {code : Nat} {m : Mode} {st : Status}
    (hp : s.mayCommand req pMODE 0x8104 0x8108 = true) (ht : reqTarget code = some m)
    (hb : requestMode req m s = (some st, s')) : modeRow code req 0x5A17 s = cmdDone pMODE 0x8108 st s' := by
  obtain ⟨hw, -, hfree⟩ := mayCommand_iff.mp hp
  refine modeRow_ok hw ?_
  calc modeReqWrite req (w32 (0x5A17 * 0x10000 + code)) s
      = command pMODE 0x8108 (requestMode req m) s := modeReqWrite_target req hfree ht
    _ = .ok (cmdDone pMODE 0x8108 st s') := by simp [command, hfree, hb]

/-- On a part without SAFE-OPERATE the request for it answers ABSENT and changes nothing, whatever the mode. -/
theorem requestMode_safeOperate_absent {s : State} (req : Requester) (h : Config.hasSafe s.part = false) :
    requestMode req .safeOperate s = (some .absent, s) := by
  simp [requestMode, cmdFail, h]

theorem exec_reqSafeOperate (req : Requester) (key : BitVec 16) (s : State) :
    exec (.reqSafeOperate req key) s = .next (modeRow 0x07 req key s) := rfl

/-- Settles O57: the part is asked before the mode, so the request ends with ABSENT in the state it found. -/
theorem absentSafeOperate : Obligations.AbsentSafeOperate := by
  intro s req hpart hp
  have habsent : Config.hasSafe s.part = false := by rw [hpart]; rfl
  have hrow : modeRow 0x07 req 0x5A17 s = cmdDone pMODE 0x8108 .absent s :=
    modeRow_done hp rfl (requestMode_safeOperate_absent req habsent)
  have hexec : exec (.reqSafeOperate req 0x5A17) s = .next (cmdDone pMODE 0x8108 .absent s) := by
    rw [exec_reqSafeOperate, hrow]
  refine ⟨cmdDone pMODE 0x8108 .absent s, hexec, ?_, ?_, ?_⟩
  · exact doneWith_cmdDone s .absent (by decide)
  · simp
  · exact modeNow_cmdDone ..

end Sys2Proof.Machine
end

section
/-! SUPPORT. The standing of the device: which part it is, whether it is powered, in RESET, in which mode, and whether SS_LATCH is set. Every
operation of the model but the resets, the entry to BOOT and the transition instant leaves it alone; the lemmas `standing_f` and `keeps_f` of
this and the next sections say so, one for each operation, in the order of the model's files. -/
namespace Sys2Proof.Machine
open Sys2Proof

/-- What SAFE-STATE and its latch depend on (R63, R64, R69), with what the device is (R1, R3). -/
structure Standing where
  part : Part
  stepping : Word
  powered : Bool
  inReset : Bool
  mode : Mode
  latch : Bool

/-- The standing of a state. -/
def State.standing (s : State) : Standing where
  part := s.part
  stepping := s.stepping
  powered := s.mode.powered
  inReset := s.mode.inReset
  mode := s.mode.mode
  latch := s.mode.ssLatch

@[simp] theorem standing_mk (a b c d e m f g h i j k l n o p q r t u v w x y z a' b' c' d' e' f' g' h' i' j' k' l' m' n') :
    (State.mk a b c d e m f g h i j k l n o p q r t u v w x y z a' b' c' d' e' f' g' h' i' j' k' l' m' n').standing =
      ⟨a, b, m.powered, m.inReset, m.mode, m.ssLatch⟩ := by rfl
@[simp] theorem standing_eta (s : State) :
    Standing.mk s.part s.stepping s.mode.powered s.mode.inReset s.mode.mode s.mode.ssLatch = s.standing := by rfl

/-! ### The standing of what an operation answers: every state in the answer has the standing `σ` -/

def WRes.Keeps (σ : Standing) : WRes → Prop
  | .ok s => s.standing = σ
  | .refuse _ => True
def Body.Keeps (σ : Standing) : Body → Prop
  | .retire s | .access _ _ _ _ s | .jump _ s | .park _ s | .wait _ s | .faultIn s _ _ | .stallIn s => s.standing = σ
  | .fault _ _ | .stall => True
def Loaded.Keeps (σ : Standing) : Loaded → Prop
  | .got _ s | .bad _ s => s.standing = σ
  | .parks => True
def Stored.Keeps (σ : Standing) : Stored → Prop
  | .done s => s.standing = σ
  | .bad _ | .parks => True
def OutcomeKeeps (σ : Standing) : Outcome → Prop
  | .next s => s.standing = σ
  | .fault _ | .refused _ => True

section
variable {σ : Standing} {s : State}
@[simp] theorem WRes.keeps_ok : (WRes.ok s).Keeps σ ↔ s.standing = σ := by rfl
@[simp] theorem WRes.keeps_refuse (st) : (WRes.refuse st).Keeps σ := trivial
@[simp] theorem Body.keeps_retire : (Body.retire s).Keeps σ ↔ s.standing = σ := by rfl
@[simp] theorem Body.keeps_access (load store a n) : (Body.access load store a n s).Keeps σ ↔ s.standing = σ := by rfl
@[simp] theorem Body.keeps_jump (pc) : (Body.jump pc s).Keeps σ ↔ s.standing = σ := by rfl
@[simp] theorem Body.keeps_park (op) : (Body.park op s).Keeps σ ↔ s.standing = σ := by rfl
@[simp] theorem Body.keeps_wait (rd) : (Body.wait rd s).Keeps σ ↔ s.standing = σ := by rfl
@[simp] theorem Body.keeps_faultIn (c a) : (Body.faultIn s c a).Keeps σ ↔ s.standing = σ := by rfl
@[simp] theorem Body.keeps_stallIn : (Body.stallIn s).Keeps σ ↔ s.standing = σ := by rfl
@[simp] theorem Body.keeps_fault (c a) : (Body.fault c a).Keeps σ := trivial
@[simp] theorem Body.keeps_stall : Body.stall.Keeps σ := trivial
@[simp] theorem Loaded.keeps_got (b) : (Loaded.got b s).Keeps σ ↔ s.standing = σ := by rfl
@[simp] theorem Loaded.keeps_bad (c) : (Loaded.bad c s).Keeps σ ↔ s.standing = σ := by rfl
@[simp] theorem Loaded.keeps_parks : Loaded.parks.Keeps σ := trivial
@[simp] theorem Stored.keeps_done : (Stored.done s).Keeps σ ↔ s.standing = σ := by rfl
@[simp] theorem Stored.keeps_bad (c) : (Stored.bad c).Keeps σ := trivial
@[simp] theorem Stored.keeps_parks : Stored.parks.Keeps σ := trivial
@[simp] theorem outcomeKeeps_next : OutcomeKeeps σ (.next s) ↔ s.standing = σ := by rfl
end

/-! ### Conditionals, folds and pairs -/

@[simp] theorem standing_ite {c : Prop} [Decidable c] (a b : State) :
    (if c then a else b).standing = if c then a.standing else b.standing := apply_ite ..
@[simp] theorem standing_snd_ite {α : Type} {c : Prop} [Decidable c] (a b : α × State) :
    (if c then a else b).2.standing = if c then a.2.standing else b.2.standing := by split <;> rfl
@[simp] theorem WRes.keeps_ite {σ : Standing} {c : Prop} [Decidable c] (a b : WRes) :
    (if c then a else b).Keeps σ ↔ if c then a.Keeps σ else b.Keeps σ := by split <;> rfl
@[simp] theorem Body.keeps_ite {σ : Standing} {c : Prop} [Decidable c] (a b : Body) :
    (if c then a else b).Keeps σ ↔ if c then a.Keeps σ else b.Keeps σ := by split <;> rfl

/-- A fold keeps the standing where each of its steps does. -/
@[simp] theorem foldl_standing {α : Type} {l : List α} {g : State → α → State} {s : State}
    (h : ∀ s x, (g s x).standing = s.standing) : (l.foldl g s).standing = s.standing := by
  induction l generalizing s with
  | nil => rfl
  | cons a l ih => rw [List.foldl_cons, ih, h]
theorem foldl_snd_standing {α β : Type} {l : List β} {g : α × State → β → α × State} {a : α × State}
    (h : ∀ a x, (g a x).2.standing = a.2.standing) : (l.foldl g a).2.standing = a.2.standing := by
  induction l generalizing a with
  | nil => rfl
  | cons x l ih => rw [List.foldl_cons, ih, h]
theorem standing_of_snd {α : Type} {p : α × State} {a : α} {u : State} (h : p = (a, u)) : u.standing = p.2.standing := by
  rw [h]

end Sys2Proof.Machine
end

section
/-! SUPPORT. The standing through the shared operations, the threads, the register pages, the memories, the semaphores and the buffer manager. -/
namespace Sys2Proof.Machine
open Sys2Proof

variable {σ : Standing}

/-! ### Machine/Ops -/

@[simp] theorem standing_putBytes (a b s) : (putBytes a b s).standing = s.standing := by rfl
@[simp] theorem standing_putNum (a n v s) : (putNum a n v s).standing = s.standing := by rfl
@[simp] theorem standing_clearMem (a n s) : (clearMem a n s).standing = s.standing := by rfl
@[simp] theorem standing_poisonMem (a n s) : (poisonMem a n s).standing = s.standing := by rfl
@[simp] theorem standing_setRegK (key v s) : (setRegK key v s).standing = s.standing := by rfl
@[simp] theorem standing_setReg (page off v s) : (setReg page off v s).standing = s.standing := by rfl
@[simp] theorem standing_setReg64 (page off v s) : (setReg64 page off v s).standing = s.standing := by rfl
@[simp] theorem standing_setRfld (page off hi lo v s) : (setRfld page off hi lo v s).standing = s.standing := by rfl
@[simp] theorem standing_bumpK (key s) : (bumpK key s).standing = s.standing := by rfl
@[simp] theorem standing_bumpBy (page off n s) : (bumpBy page off n s).standing = s.standing := by rfl
@[simp] theorem standing_bump (page off s) : (bump page off s).standing = s.standing := by rfl
@[simp] theorem standing_bumpWrap (page off s) : (bumpWrap page off s).standing = s.standing := by rfl
@[simp] theorem standing_bump64By (page off n s) : (bump64By page off n s).standing = s.standing := by rfl
@[simp] theorem standing_bump64 (page off s) : (bump64 page off s).standing = s.standing := by rfl
@[simp] theorem standing_hbmCount (port s) : (hbmCount port s).standing = s.standing := by rfl
@[simp] theorem standing_putHbm (addr b s) : (putHbm addr b s).standing = s.standing := by
  unfold putHbm
  split <;> simp
@[simp] theorem standing_emit (o s) : (emit o s).standing = s.standing := by rfl
@[simp] theorem standing_logAdd (kind page d0 d1 d2 s) : (logAdd kind page d0 d1 d2 s).standing = s.standing := by simp [logAdd]
@[simp] theorem standing_postF (forced kind page d0 d1 s) : (postF forced kind page d0 d1 s).standing = s.standing := by rfl
@[simp] theorem standing_post (kind page d0 d1 s) : (post kind page d0 d1 s).standing = s.standing := by rfl
@[simp] theorem standing_notify (page s) : (notify page s).standing = s.standing := by simp [notify]
@[simp] theorem standing_raise (page causes s) : (raise page causes s).standing = s.standing := by simp [raise]
@[simp] theorem standing_raiseBit (page i s) : (raiseBit page i s).standing = s.standing := by simp [raiseBit]
@[simp] theorem standing_memError (page source synd addr ue s) :
    (memError page source synd addr ue s).standing = s.standing := by simp [memError]
@[simp] theorem standing_errAt (page addr ue s) : (errAt page addr ue s).standing = s.standing := by simp [errAt]
@[simp] theorem standing_srcErr (page source addr ue s) : (srcErr page source addr ue s).standing = s.standing := by simp [srcErr]
@[simp] theorem standing_ueAt (page addr s) : (ueAt page addr s).standing = s.standing := by simp [ueAt]
@[simp] theorem standing_ceAt (page addr s) : (ceAt page addr s).standing = s.standing := by simp [ceAt]
@[simp] theorem standing_stateRefused (req page off touches s) :
    (stateRefused req page off touches s).standing = s.standing := by simp [stateRefused]
@[simp] theorem standing_drawRandom (s) : (drawRandom s).2.standing = s.standing := by rfl

/-! ### Machine/Threads -/

@[simp] theorem standing_setThr (t th s) : (setThr t th s).standing = s.standing := by rfl
@[simp] theorem standing_updThr (t f s) : (updThr t f s).standing = s.standing := by rfl
@[simp] theorem standing_setReg' (t r v s) : (setReg' t r v s).standing = s.standing := by rfl
@[simp] theorem standing_updPiste (p f s) : (updPiste p f s).standing = s.standing := by rfl
@[simp] theorem standing_setPkt (p k s) : (setPkt p k s).standing = s.standing := by rfl
@[simp] theorem standing_updPkt (p f s) : (updPkt p f s).standing = s.standing := by
  unfold updPkt
  split <;> simp
@[simp] theorem standing_traceEv (t kind d0 d1 s) : (traceEv t kind d0 d1 s).standing = s.standing := by simp [traceEv]
@[simp] theorem standing_lastHit (t bp kind s) : (lastHit t bp kind s).standing = s.standing := by rfl
@[simp] theorem standing_haltThr (t cause s) : (haltThr t cause s).standing = s.standing := by
  simp only [haltThr]
  (repeat' split) <;> simp
@[simp] theorem standing_stepEnds (s) : (stepEnds s).standing = s.standing := by simp [stepEnds]
@[simp] theorem standing_endDeadlock (t s) : (endDeadlock t s).standing = s.standing := by simp [endDeadlock]
@[simp] theorem standing_retired (t word pc s) : (retired t word pc s).standing = s.standing := by simp [retired]
@[simp] theorem standing_wake (t s) : (wake t s).standing = s.standing := by
  simp only [wake]
  (repeat' split) <;> simp
@[simp] theorem standing_setEvent (t b s) : (setEvent t b s).standing = s.standing := by simp [setEvent]
@[simp] theorem standing_deliverFault (t r s) : (deliverFault t r s).standing = s.standing := by simp [deliverFault]
@[simp] theorem standing_faultThr (t cause insn addr s) : (faultThr t cause insn addr s).standing = s.standing := by simp [faultThr]
@[simp] theorem standing_dataBreak (t load store a n s) : (dataBreak t load store a n s).standing = s.standing := by
  simp only [dataBreak]
  (repeat' split) <;> simp
@[simp] theorem standing_stopIfPending (t s) : (stopIfPending t s).standing = s.standing := by rfl
@[simp] theorem standing_finish (w t pc' s) : (finish w t pc' s).standing = s.standing := by simp [finish]
@[simp] theorem standing_runInsn (w t body s) (hb : (body (s.thr t) s).Keeps s.standing) :
    (runInsn w t body s).standing = s.standing := by
  unfold runInsn
  simp only [standing_ite]
  split
  · rfl
  split
  · simp only [standing_faultThr]; split <;> simp
  split
  · simp
  · cases h : body (s.thr t) s <;> simp_all
@[simp] theorem standing_regInsn (w t rd legal f s) : (regInsn w t rd legal f s).standing = s.standing := by simp [regInsn]

/-! ### Machine/Pages -/

@[simp] theorem standing_refuseThread (req page off s) : (refuseThread req page off s).standing = s.standing := by
  unfold refuseThread
  split <;> simp
@[simp] theorem standing_refuse (req page off st touches s) : (refuse req page off st touches s).standing = s.standing := by simp [refuse]
@[simp] theorem standing_goldenWait (page s) : (goldenWait page s).standing = s.standing := by simp [goldenWait]
theorem standing_writeReg_or (req page off h s) :
    (writeReg req page off h s).1.standing = s.standing ∨
      ∃ u, h s = .ok u ∧ (writeReg req page off h s).1.standing = u.standing := by
  unfold writeReg
  split
  · exact .inl rfl
  split
  · exact .inl rfl
  extract_lets res own
  split
  · next u _ hu =>
    refine .inr ⟨u, hu, ?_⟩
    split <;> simp
  · simp
  · simp
@[simp] theorem standing_writeReg (req page off h s) (hh : (h s).Keeps s.standing) :
    (writeReg req page off h s).1.standing = s.standing := by
  rcases standing_writeReg_or req page off h s with e | ⟨u, hu, e⟩
  · exact e
  · rw [e]; simpa [hu] using hh
@[simp] theorem standing_store (page off mask v s) : (store page off mask v s).standing = s.standing := by rfl
@[simp] theorem keeps_storeIf (ok page off mask v s) (hσ : s.standing = σ) :
    (storeIf ok page off mask v s).Keeps σ := by simp [storeIf, hσ]
@[simp] theorem standing_cmdDone (page statusOff st s) : (cmdDone page statusOff st s).standing = s.standing := by simp [cmdDone]
@[simp] theorem keeps_command (page statusOff body s) (hb : (body s).2.standing = σ) : (command page statusOff body s).Keeps σ := by
  unfold command
  split
  · simp
  · split <;> rename_i h <;> simp [standing_of_snd h, hb]
@[simp] theorem standing_cmdState (req page off touches s) :
    (cmdState req page off touches s).2.standing = s.standing := by simp [cmdState]
@[simp] theorem standing_cmdFail (st s) : (cmdFail st s).2.standing = s.standing := by rfl
@[simp] theorem standing_cmdRow (req page off statusOff body s) (hbody : ∀ s, (body s).2.standing = s.standing) :
    (cmdRow req page off statusOff body s).standing = s.standing := by simp [cmdRow, hbody]
@[simp] theorem keeps_popWrite (empty pop s) (hpop : ∀ s, (pop s).standing = s.standing) (hσ : s.standing = σ) :
    (popWrite empty pop s).Keeps σ := by simp [popWrite, hpop, hσ]
@[simp] theorem standing_regRow (req page off h s) (hh : ∀ s, (h s).Keeps s.standing) :
    (regRow req page off h s).standing = s.standing := by simp [regRow, hh]
@[simp] theorem standing_w1cInt (page mask s) : (w1cInt page mask s).standing = s.standing := by simp [w1cInt]
@[simp] theorem standing_intForce (page mask s) : (intForce page mask s).standing = s.standing := by simp [intForce]
@[simp] theorem standing_errClear (page s) : (errClear page s).standing = s.standing := by rfl
@[simp] theorem standing_cfgToReset (page s) : (cfgToReset page s).standing = s.standing := by rfl
@[simp] theorem standing_softReset (page s) : (softReset page s).standing = s.standing := by simp [softReset]
@[simp] theorem standing_goldenWrite (page v s) : (goldenWrite page v s).standing = s.standing := by rfl

/-! ### Machine/Access -/

@[simp] theorem standing_hbmUe (port a addrErr s) : (hbmUe port a addrErr s).standing = s.standing := by simp [hbmUe]
@[simp] theorem standing_loadUe (page a port s) : (loadUe page a port s).standing = s.standing := by
  unfold loadUe
  (repeat' split) <;> simp
@[simp] theorem standing_loseCtx (t p s) : (loseCtx t p s).standing = s.standing := by simp [loseCtx]
@[simp] theorem keeps_loadAt (s t pl n) (hσ : s.standing = σ) : (loadAt s t pl n).Keeps σ := by
  unfold loadAt
  (repeat' split) <;> simp [hσ]
@[simp] theorem standing_storeMem (a b s) : (storeMem a b s).standing = s.standing := by rfl
@[simp] theorem keeps_storeAt (s t pl b) (hσ : s.standing = σ) : (storeAt s t pl b).Keeps σ := by
  unfold storeAt
  (repeat' split) <;> simp [hσ]

/-! ### Machine/Sema -/

@[simp] theorem standing_updSema (f s) : (updSema f s).standing = s.standing := by rfl
@[simp] theorem standing_setAvail (n v s) : (setAvail n v s).standing = s.standing := by rfl
@[simp] theorem standing_setHolder (i h s) : (setHolder i h s).standing = s.standing := by rfl
@[simp] theorem standing_acquire (who n s) : (acquire who n s).2.standing = s.standing := by
  unfold acquire
  (repeat' split) <;> simp
@[simp] theorem standing_wakeArmed (n s) : (wakeArmed n s).standing = s.standing := by simp [wakeArmed]
@[simp] theorem standing_relRefused (who n s) : (relRefused who n s).standing = s.standing := by simp [relRefused]
@[simp] theorem standing_releaseUnits (who n count s) : (releaseUnits who n count s).2.standing = s.standing := by
  unfold releaseUnits
  (repeat' split) <;> simp
@[simp] theorem standing_orphanHolder (kind id s) : (orphanHolder kind id s).standing = s.standing := by simp [orphanHolder]
@[simp] theorem standing_disarm (t s) : (disarm t s).standing = s.standing := by rfl
@[simp] theorem standing_semaLoad (t n off s) : (semaLoad t n off s).2.standing = s.standing := by simp [semaLoad]
@[simp] theorem standing_semaStore (t n v s) : (semaStore t n v s).standing = s.standing := by simp [semaStore]
@[simp] theorem standing_ungrant (t n s) : (ungrant t n s).standing = s.standing := by
  unfold ungrant
  (repeat' split) <;> simp
@[simp] theorem standing_runAccess (t body s) (hb : ∀ th u, u.standing = s.standing → (body th u).Keeps s.standing) :
    (runAccess t body s).standing = s.standing := by
  unfold runAccess
  split
  · exact standing_runInsn _ t body { s with free := s.free + 1 } (hb _ _ rfl)
  · rfl
@[simp] theorem keeps_semaBody (t rd sem off s) (hσ : s.standing = σ) : (semaBody t rd sem off s).Keeps σ := by
  unfold semaBody
  split <;> simp [hσ]
@[simp] theorem keeps_execAcquire (t rd sem s) : OutcomeKeeps s.standing (execAcquire t rd sem s) :=
  standing_runAccess _ _ _ fun th u hu => by simp [hu]
@[simp] theorem keeps_execAcquireArm (t rd sem s) : OutcomeKeeps s.standing (execAcquireArm t rd sem s) :=
  standing_runAccess _ _ _ fun th u hu => by simp [hu]
@[simp] theorem keeps_execSemaState (t rd sem s) : OutcomeKeeps s.standing (execSemaState t rd sem s) :=
  standing_runAccess _ _ _ fun th u hu => by simp [hu]
@[simp] theorem keeps_execSemaRelease (t rt sem s) : OutcomeKeeps s.standing (execSemaRelease t rt sem s) := by
  refine standing_runAccess _ _ _ fun th u hu => ?_
  (repeat' split) <;> simp [hu]
@[simp] theorem standing_semaAcquireBody (req s) : (semaAcquireBody req s).2.standing = s.standing := by simp [semaAcquireBody]
@[simp] theorem standing_semaReleaseBody (req s) : (semaReleaseBody req s).2.standing = s.standing := by simp [semaReleaseBody]
@[simp] theorem standing_semaResolve (reclaim req s) : (semaResolve reclaim req s).2.standing = s.standing := by
  simp only [semaResolve]
  (repeat' split) <;> simp
@[simp] theorem standing_semaStateBody (req s) : (semaStateBody req s).2.standing = s.standing := by simp [semaStateBody]
@[simp] theorem keeps_semaCmd (req v s) (hσ : s.standing = σ) : (semaCmd req v s).Keeps σ := by
  unfold semaCmd
  split <;> simp [hσ]
@[simp] theorem keeps_execSemaCmdAcquire (req s) : OutcomeKeeps s.standing (execSemaCmdAcquire req s) := by simp [execSemaCmdAcquire]
@[simp] theorem keeps_execSemaCmdRelease (req s) : OutcomeKeeps s.standing (execSemaCmdRelease req s) := by simp [execSemaCmdRelease]
@[simp] theorem keeps_execSemaReclaim (req s) : OutcomeKeeps s.standing (execSemaReclaim req s) := by simp [execSemaReclaim]
@[simp] theorem keeps_execRetire (req s) : OutcomeKeeps s.standing (execRetire req s) := by simp [execRetire]
@[simp] theorem keeps_execSemaCmdState (req s) : OutcomeKeeps s.standing (execSemaCmdState req s) := by simp [execSemaCmdState]
@[simp] theorem keeps_semaCapWrite (n v s) (hσ : s.standing = σ) : (semaCapWrite n v s).Keeps σ := by simp [semaCapWrite, hσ]
@[simp] theorem keeps_execSemaCapWrite (req sem value s) :
    OutcomeKeeps s.standing (execSemaCapWrite req sem value s) := by simp [execSemaCapWrite]
@[simp] theorem keeps_semaOrphPop (s) (hσ : s.standing = σ) : (semaOrphPop s).Keeps σ := by simp [semaOrphPop, hσ]
@[simp] theorem keeps_execSemaOrphPop (req s) : OutcomeKeeps s.standing (execSemaOrphPop req s) := by simp [execSemaOrphPop]
@[simp] theorem keeps_semaWrite (req off v mask s) (hσ : s.standing = σ) : (semaWrite req off v mask s).Keeps σ := by simp [semaWrite, hσ]

/-! ### Machine/Mem -/

@[simp] theorem keeps_loadBody (t rd rs imm n sign swap th s) (hσ : s.standing = σ) :
    (loadBody t rd rs imm n sign swap th s).Keeps σ := by
  unfold loadBody
  simp only []
  split
  · simp
  · simp only [Body.keeps_ite]
    split
    · simp
    · split
      · simp [hσ]
      · simp [hσ]
      · have h := keeps_loadAt s t (locate s t .load (effAddr th rs imm) n) n hσ
        split <;> simp_all
@[simp] theorem keeps_storeBody (t rt rs imm n swap th s) (hσ : s.standing = σ) : (storeBody t rt rs imm n swap th s).Keeps σ := by
  unfold storeBody
  simp only []
  split
  · simp
  · simp only [Body.keeps_ite]
    split
    · simp
    · split
      · simp [hσ]
      · simp [hσ]
      · have h := keeps_storeAt s t (locate s t .store (effAddr th rs imm) n) (storeVal n swap (th.rg rt)) hσ
        split <;> simp_all
@[simp] theorem keeps_amoBody (t rd rs rt n f th s) (hσ : s.standing = σ) : (amoBody t rd rs rt n f th s).Keeps σ := by
  simp only [amoBody]
  (repeat' split) <;> simp [hσ]

/-! ### Machine/Control -/

@[simp] theorem standing_btbResolve (t pc next taken s) : (btbResolve t pc next taken s).standing = s.standing := by
  simp only [btbResolve]
  (repeat' split) <;> simp
@[simp] theorem keeps_branchBody (t taken tgt th s) (hσ : s.standing = σ) :
    (branchBody t taken tgt th s).Keeps σ := by simp [branchBody, hσ]
@[simp] theorem keeps_brInsn (op t rs rt off c s) : OutcomeKeeps s.standing (brInsn op t rs rt off c s) := by simp [brInsn]
@[simp] theorem keeps_execBeq (t rs rt off s) : OutcomeKeeps s.standing (execBeq t rs rt off s) := by simp [execBeq]
@[simp] theorem keeps_execBne (t rs rt off s) : OutcomeKeeps s.standing (execBne t rs rt off s) := by simp [execBne]
@[simp] theorem keeps_execBlt (t rs rt off s) : OutcomeKeeps s.standing (execBlt t rs rt off s) := by simp [execBlt]
@[simp] theorem keeps_execBge (t rs rt off s) : OutcomeKeeps s.standing (execBge t rs rt off s) := by simp [execBge]
@[simp] theorem keeps_execBltu (t rs rt off s) : OutcomeKeeps s.standing (execBltu t rs rt off s) := by simp [execBltu]
@[simp] theorem keeps_execBgeu (t rs rt off s) : OutcomeKeeps s.standing (execBgeu t rs rt off s) := by simp [execBgeu]
@[simp] theorem keeps_execJ (t off s) : OutcomeKeeps s.standing (execJ t off s) := by simp [execJ]
@[simp] theorem keeps_execJal (t off s) : OutcomeKeeps s.standing (execJal t off s) := by simp [execJal]
@[simp] theorem keeps_execJalr (t rd rs imm s) : OutcomeKeeps s.standing (execJalr t rd rs imm s) := by simp [execJalr]
@[simp] theorem keeps_execCsrrd (t rd rs imm s) : OutcomeKeeps s.standing (execCsrrd t rd rs imm s) := by
  refine standing_runInsn _ _ _ _ ?_
  (repeat' split) <;> simp
@[simp] theorem keeps_execCsrwr (t rd rs imm s) : OutcomeKeeps s.standing (execCsrwr t rd rs imm s) := by
  refine standing_runInsn _ _ _ _ ?_
  (repeat' split) <;> simp
@[simp] theorem keeps_execWait (t rd rs rt s) : OutcomeKeeps s.standing (execWait t rd rs rt s) := by simp [execWait]
@[simp] theorem keeps_execYield (t rd rs rt s) : OutcomeKeeps s.standing (execYield t rd rs rt s) := by simp [execYield]
@[simp] theorem keeps_execFence (t rd rs rt s) : OutcomeKeeps s.standing (execFence t rd rs rt s) := by simp [execFence]
@[simp] theorem keeps_execTrap (t rd rs imm s) : OutcomeKeeps s.standing (execTrap t rd rs imm s) := by simp [execTrap]
@[simp] theorem standing_startThr (u pc s) : (startThr u pc s).standing = s.standing := by rfl
@[simp] theorem keeps_execTstart (t rd rs rt s) : OutcomeKeeps s.standing (execTstart t rd rs rt s) := by
  refine standing_runInsn _ _ _ _ ?_
  split
  · simp
  · simp only [Body.keeps_retire]; split <;> simp
@[simp] theorem standing_tstop (t a s) : (tstop t a s).2.standing = s.standing := by
  simp only [tstop]
  (repeat' split) <;> simp
@[simp] theorem keeps_execTstop (t rd rs rt s) : OutcomeKeeps s.standing (execTstop t rd rs rt s) := by simp [execTstop]
@[simp] theorem keeps_execStage (t rd rs imm s) : OutcomeKeeps s.standing (execStage t rd rs imm s) := by simp [execStage]

/-! ### Machine/Bpm -/

@[simp] theorem standing_setCellCtl (c w s) : (setCellCtl c w s).standing = s.standing := by rfl
@[simp] theorem standing_soundCell (c s) : (soundCell c s).standing = s.standing := by rfl
@[simp] theorem standing_cellUe (ctl word s) : (cellUe ctl word s).standing = s.standing := by simp [cellUe]
@[simp] theorem standing_reportCells (cells s) : (reportCells cells s).standing = s.standing := by
  unfold reportCells
  split <;> simp
@[simp] theorem standing_fillCells (l b s) : (fillCells l b s).standing = s.standing := by
  induction l generalizing b s with
  | nil => rfl
  | cons c l ih => simp [fillCells, ih]
@[simp] theorem standing_requestCell (r key s) : (requestCell r key s).2.2.standing = s.standing := by
  simp only [requestCell]
  (repeat' split) <;> simp
@[simp] theorem standing_dropRefs (cells s) : (dropRefs cells s).standing = s.standing := by simp [dropRefs]
@[simp] theorem standing_rejectFree (double cell lane tag s) :
    (rejectFree double cell lane tag s).standing = s.standing := by simp [rejectFree]
@[simp] theorem standing_freeChain (lane head tag s) : (freeChain lane head tag s).2.standing = s.standing := by
  simp only [freeChain]
  (repeat' split) <;> simp
@[simp] theorem standing_requestCells (lane r key n got s) : (requestCells lane r key n got s).2.standing = s.standing := by
  induction n generalizing got s with
  | zero => rfl
  | succ n ih =>
    have h := standing_requestCell r key s
    unfold requestCells
    split <;> simp_all
@[simp] theorem keeps_execCellRequest (requester key s) :
    OutcomeKeeps s.standing (execCellRequest requester key s) := by simp [execCellRequest]
@[simp] theorem keeps_execChainFree (cell tag s) : OutcomeKeeps s.standing (execChainFree cell tag s) := by simp [execChainFree]
@[simp] theorem keeps_execBitmapRebuild (pool word s) :
    OutcomeKeeps s.standing (execBitmapRebuild pool word s) := by simp [execBitmapRebuild]
@[simp] theorem standing_bpmAlloc (req s) : (bpmAlloc req s).2.standing = s.standing := by
  unfold bpmAlloc
  simp only [standing_snd_ite]
  split
  · rfl
  split
  · rfl
  have h := standing_requestCell (s.rfld pBPM 0x8100 10 0) (keyOf s.time.ns) s
  split <;> simp_all
@[simp] theorem standing_bpmFree (req s) : (bpmFree req s).2.standing = s.standing := by simp [bpmFree]
@[simp] theorem standing_bpmReclaim (req s) : (bpmReclaim req s).2.standing = s.standing := by
  unfold bpmReclaim
  split <;> simp
@[simp] theorem keeps_bpmCmd (req v s) (hσ : s.standing = σ) : (bpmCmd req v s).Keeps σ := by
  unfold bpmCmd
  split <;> simp [hσ]
@[simp] theorem keeps_execBpmAlloc (req s) : OutcomeKeeps s.standing (execBpmAlloc req s) := by simp [execBpmAlloc]
@[simp] theorem keeps_execBpmFree (req s) : OutcomeKeeps s.standing (execBpmFree req s) := by simp [execBpmFree]
@[simp] theorem keeps_execBpmReclaim (req s) : OutcomeKeeps s.standing (execBpmReclaim req s) := by simp [execBpmReclaim]
@[simp] theorem keeps_poolWrite (p v s) (hσ : s.standing = σ) : (poolWrite p v s).Keeps σ := by simp [poolWrite, hσ]
@[simp] theorem keeps_reqCfgWrite (r v s) (hσ : s.standing = σ) : (reqCfgWrite r v s).Keeps σ := by simp [reqCfgWrite, hσ]
@[simp] theorem keeps_reqCeilWrite (r v s) (hσ : s.standing = σ) : (reqCeilWrite r v s).Keeps σ := by simp [reqCeilWrite, hσ]
@[simp] theorem keeps_bpmWrite (req off v mask s) (hσ : s.standing = σ) : (bpmWrite req off v mask s).Keeps σ := by simp [bpmWrite, hσ]
@[simp] theorem standing_bpmSoftReset (s) : (bpmSoftReset s).standing = s.standing := by rfl
@[simp] theorem standing_dynAlloc (cl req s) : (dynAlloc cl req s).2.standing = s.standing := by
  unfold dynAlloc
  split <;> simp
@[simp] theorem standing_dynFree (cl req s) : (dynFree cl req s).2.standing = s.standing := by simp [dynFree]
@[simp] theorem keeps_dynCmd (cl req v s) (hσ : s.standing = σ) : (dynCmd cl req v s).Keeps σ := by
  unfold dynCmd
  split <;> simp [hσ]
@[simp] theorem keeps_dynCfgWrite (cl v s) (hσ : s.standing = σ) : (dynCfgWrite cl v s).Keeps σ := by simp [dynCfgWrite, hσ]
@[simp] theorem standing_dynReturn (t s) : (dynReturn t s).standing = s.standing := by rfl
@[simp] theorem standing_dynRow (req page body s) (hbody : ∀ x y s, (body x y s).2.standing = s.standing) :
    (dynRow req page body s).standing = s.standing := by
  unfold dynRow
  split <;> simp [hbody]
@[simp] theorem keeps_execDynAlloc (req page s) : OutcomeKeeps s.standing (execDynAlloc req page s) := by simp [execDynAlloc]
@[simp] theorem keeps_execDynFree (req page s) : OutcomeKeeps s.standing (execDynFree req page s) := by simp [execDynFree]
@[simp] theorem keeps_execScratchpadScrub (page source addr ue s) :
    OutcomeKeeps s.standing (execScratchpadScrub page source addr ue s) := by
  unfold execScratchpadScrub
  split <;> simp
@[simp] theorem standing_startWipe (s) : (startWipe s).standing = s.standing := by simp [startWipe]
@[simp] theorem standing_zeroSecure (unit s) : (zeroSecure unit s).standing = s.standing := by simp [zeroSecure]

end Sys2Proof.Machine
end

section
/-! SUPPORT. The standing through the ports, rings, parser, classifier, flow cache and messages. -/
namespace Sys2Proof.Machine
open Sys2Proof

variable {σ : Standing}

/-! ### Machine/Ports -/

@[simp] theorem standing_stat (p off s) : (stat p off s).standing = s.standing := by simp [stat]
@[simp] theorem standing_updPort (p f s) : (updPort p f s).standing = s.standing := by rfl
@[simp] theorem standing_updFmx (l f s) : (updFmx l f s).standing = s.standing := by rfl
@[simp] theorem standing_addPkt (k s) : (addPkt k s).standing = s.standing := by rfl
@[simp] theorem standing_freePkt (lane p s) : (freePkt lane p s).standing = s.standing := by
  unfold freePkt
  (repeat' split) <;> simp
@[simp] theorem standing_leaveBank (p s) : (leaveBank p s).standing = s.standing := by
  unfold leaveBank
  split <;> simp
@[simp] theorem standing_dropPkt (lane p s) : (dropPkt lane p s).standing = s.standing := by simp [dropPkt]
@[simp] theorem standing_dropExpired (lane p s) : (dropExpired lane p s).standing = s.standing := by simp [dropExpired]
@[simp] theorem standing_tmOffer (c s) : (tmOffer c s).standing = s.standing := by rfl
theorem standing_of_addRefs {cells s u} (h : addRefs cells s = some u) : u.standing = s.standing := by
  unfold addRefs at h
  split at h
  · cases h
  · cases h; simp
@[simp] theorem standing_mirrorOne (p k s m) : (mirrorOne p k s m).standing = s.standing := by
  unfold mirrorOne
  simp only [standing_ite]
  split
  · rfl
  · split <;> rename_i h
    · simp [standing_of_addRefs h]
    · simp
@[simp] theorem standing_mirrorAll (p k mask s) : (mirrorAll p k mask s).standing = s.standing := by simp [mirrorAll]
@[simp] theorem standing_handOver (p c s) : (handOver p c s).standing = s.standing := by simp [handOver]
@[simp] theorem standing_rxGood (port len s) : (rxGood port len s).standing = s.standing := by simp [rxGood]
@[simp] theorem standing_rxOutcome (port data s) : (rxOutcome port data s).standing = s.standing := by simp [rxOutcome]
@[simp] theorem standing_notAdmitted (port data s) : (notAdmitted port data s).standing = s.standing := by simp [notAdmitted]
@[simp] theorem standing_arrive (port src data s) : (arrive port src data s).standing = s.standing := by
  unfold arrive
  simp only [standing_ite]
  split
  · simp
  · split <;> rename_i h <;> simp [standing_of_snd h]
@[simp] theorem keeps_execFrameArrival (port data s) :
    OutcomeKeeps s.standing (execFrameArrival port data s) := by simp [execFrameArrival]
@[simp] theorem standing_fcsCheck (pkt aborted s) : (fcsCheck pkt aborted s).standing = s.standing := by
  simp only [fcsCheck]
  (repeat' split) <;> simp
@[simp] theorem keeps_execFcsCheck (pkt aborted s) : OutcomeKeeps s.standing (execFcsCheck pkt aborted s) := by simp [execFcsCheck]

/-! ### Machine/Rings -/

@[simp] theorem standing_updInst (i f s) : (updInst i f s).standing = s.standing := by rfl
@[simp] theorem standing_updHost (f s) : (updHost f s).standing = s.standing := by rfl
@[simp] theorem standing_setHead (i ring v s) : (setHead i ring v s).standing = s.standing := by rfl
@[simp] theorem standing_setTail (i ring v s) : (setTail i ring v s).standing = s.standing := by rfl
@[simp] theorem standing_windowViolation (i s) : (windowViolation i s).standing = s.standing := by simp [windowViolation]
@[simp] theorem standing_dirtyPage (i s page) : (dirtyPage i s page).standing = s.standing := by simp [dirtyPage]
@[simp] theorem standing_dmaWrite (i a data s) : (dmaWrite i a data s).standing = s.standing := by simp [dmaWrite]
@[simp] theorem standing_dmaRead (a n s) : (dmaRead a n s).standing = s.standing := by rfl
@[simp] theorem standing_ringIrq (i ring s) : (ringIrq i ring s).standing = s.standing := by simp [ringIrq]
@[simp] theorem standing_advanceTx (i ring head s) : (advanceTx i ring head s).standing = s.standing := by simp [advanceTx]
@[simp] theorem standing_ringMessage (sender i r words s) :
    (ringMessage sender i r words s).2.standing = s.standing := by simp [ringMessage]
@[simp] theorem standing_leaveAdmit (p k s) : (leaveAdmit p k s).standing = s.standing := by simp [leaveAdmit]

/-! ### Machine/Parser -/

@[simp] theorem keeps_execParse (pkt s) : OutcomeKeeps s.standing (execParse pkt s) := by
  unfold execParse
  split <;> simp
@[simp] theorem keeps_execLiftAdmit (piste s) : OutcomeKeeps s.standing (execLiftAdmit piste s) := by
  simp only [execLiftAdmit]
  (repeat' split) <;> simp
@[simp] theorem keeps_parseWrite (req off v mask s) (hσ : s.standing = σ) :
    (parseWrite req off v mask s).Keeps σ := by simp [parseWrite, hσ]

/-! ### Machine/Classifier -/

@[simp] theorem standing_updCls (f s) : (updCls f s).standing = s.standing := by rfl
@[simp] theorem standing_setRule (i r s) : (setRule i r s).standing = s.standing := by rfl
@[simp] theorem standing_setEm (i e s) : (setEm i e s).standing = s.standing := by rfl
@[simp] theorem standing_emShift (l s) : (emShift l s).standing = s.standing := by
  induction l, s using emShift.induct with
  | case1 a b r s ih => simpa [emShift] using ih
  | case2 l s h => rw [emShift]; exact h
theorem standing_of_emPlace {key prof flow s u} (h : emPlace key prof flow s = some u) : u.standing = s.standing := by
  unfold emPlace at h
  (repeat' split at h) <;> simp_all
  all_goals simp [← h]
@[simp] theorem standing_emInsertKey (key prof flow s) : (emInsertKey key prof flow s).2.standing = s.standing := by
  unfold emInsertKey
  split
  · rfl
  split
  · rfl
  split <;> rename_i h
  · exact standing_of_emPlace h
  · simp
@[simp] theorem standing_emDeleteKey (key prof s) : (emDeleteKey key prof s).2.standing = s.standing := by
  unfold emDeleteKey
  split <;> simp
@[simp] theorem standing_emMark (i s) : (emMark i s).standing = s.standing := by rfl
@[simp] theorem standing_toProcessor (p k tgt queue exc s) :
    (toProcessor p k tgt queue exc s).standing = s.standing := by simp [toProcessor]
@[simp] theorem standing_excAction (p k lane n s) : (excAction p k lane n s).standing = s.standing := by simp [excAction]
@[simp] theorem standing_joinBank (p gen s) : (joinBank p gen s).standing = s.standing := by simp [joinBank]
@[simp] theorem standing_processPkt (p k lane first a hash s) :
    (processPkt p k lane first a hash s).standing = s.standing := by simp [processPkt]
@[simp] theorem standing_classifyPkt (p k s) : (classifyPkt p k s).standing = s.standing := by
  unfold classifyPkt
  extract_lets src lane first gen prof ws s'
  have hs' : s'.standing = s.standing := by simp [s']
  cases s'.lookupRule gen prof (BitVec.ofNat 640 (joinWords ws)) <;> simp [hs']
@[simp] theorem keeps_execClassify (pkt s) : OutcomeKeeps s.standing (execClassify pkt s) := by
  unfold execClassify
  split <;> simp
@[simp] theorem standing_ruleBody (req checks act s) (hact : ∀ s, (act s).standing = s.standing) :
    (ruleBody req checks act s).2.standing = s.standing := by
  unfold ruleBody
  (repeat' split) <;> simp [hact]
@[simp] theorem standing_ruleWriteBody (req s) : (ruleWriteBody req s).2.standing = s.standing := by simp [ruleWriteBody]
@[simp] theorem standing_ruleReadBody (req s) : (ruleReadBody req s).2.standing = s.standing := by simp [ruleReadBody]
@[simp] theorem standing_ruleInvalidateBody (req s) : (ruleInvalidateBody req s).2.standing = s.standing := by simp [ruleInvalidateBody]
@[simp] theorem standing_flipBanks (s) : (flipBanks s).standing = s.standing := by rfl
@[simp] theorem standing_flipBody (req s) : (flipBody req s).2.standing = s.standing := by simp [flipBody]
@[simp] theorem standing_clearHitsBody (req s) : (clearHitsBody req s).2.standing = s.standing := by simp [clearHitsBody]
@[simp] theorem keeps_ruleCmd (req v s) (hσ : s.standing = σ) : (ruleCmd req v s).Keeps σ := by
  unfold ruleCmd
  split <;> simp [hσ]
@[simp] theorem keeps_execRuleWrite (req s) : OutcomeKeeps s.standing (execRuleWrite req s) := by simp [execRuleWrite]
@[simp] theorem keeps_execRuleRead (req s) : OutcomeKeeps s.standing (execRuleRead req s) := by simp [execRuleRead]
@[simp] theorem keeps_execRuleInvalidate (req s) : OutcomeKeeps s.standing (execRuleInvalidate req s) := by simp [execRuleInvalidate]
@[simp] theorem keeps_execFlip (req s) : OutcomeKeeps s.standing (execFlip req s) := by simp [execFlip]
@[simp] theorem keeps_execClearHits (req s) : OutcomeKeeps s.standing (execClearHits req s) := by simp [execClearHits]
@[simp] theorem keeps_classCfgWrite (req v s) (hσ : s.standing = σ) : (classCfgWrite req v s).Keeps σ := by simp [classCfgWrite, hσ]
@[simp] theorem keeps_execClassCfgWrite (req value s) :
    OutcomeKeeps s.standing (execClassCfgWrite req value s) := by simp [execClassCfgWrite]
@[simp] theorem keeps_execRuleScrub (index ue s) : OutcomeKeeps s.standing (execRuleScrub index ue s) := by simp [execRuleScrub]
@[simp] theorem keeps_execGenDrainTimeout (bank s) : OutcomeKeeps s.standing (execGenDrainTimeout bank s) := by simp [execGenDrainTimeout]
@[simp] theorem standing_emFlowOut (hit s) : (emFlowOut hit s).standing = s.standing := by rfl
@[simp] theorem standing_emBody (req act s) (h : (act s).2.standing = s.standing) : (emBody req act s).2.standing = s.standing := by
  simp [emBody, h]
@[simp] theorem standing_emInsertBody (req s) : (emInsertBody req s).2.standing = s.standing := by simp [emInsertBody]
@[simp] theorem standing_emDeleteBody (req s) : (emDeleteBody req s).2.standing = s.standing := by simp [emDeleteBody]
@[simp] theorem standing_emFindBody (req s) : (emFindBody req s).2.standing = s.standing := by
  unfold emFindBody
  (repeat' split) <;> simp
@[simp] theorem standing_emQuarantineBody (req s) : (emQuarantineBody req s).2.standing = s.standing :=
  standing_emBody _ _ _ (by split <;> simp)
@[simp] theorem standing_emReleaseBody (req s) : (emReleaseBody req s).2.standing = s.standing :=
  standing_emBody _ _ _ (by split <;> simp)
@[simp] theorem keeps_emCmd (req v s) (hσ : s.standing = σ) : (emCmd req v s).Keeps σ := by
  unfold emCmd
  split <;> simp [hσ]
@[simp] theorem keeps_execEmInsert (req s) : OutcomeKeeps s.standing (execEmInsert req s) := by simp [execEmInsert]
@[simp] theorem keeps_execEmDelete (req s) : OutcomeKeeps s.standing (execEmDelete req s) := by simp [execEmDelete]
@[simp] theorem keeps_execEmFind (req s) : OutcomeKeeps s.standing (execEmFind req s) := by simp [execEmFind]
@[simp] theorem keeps_execEmQuarantine (req s) : OutcomeKeeps s.standing (execEmQuarantine req s) := by simp [execEmQuarantine]
@[simp] theorem keeps_execEmRelease (req s) : OutcomeKeeps s.standing (execEmRelease req s) := by simp [execEmRelease]
@[simp] theorem keeps_indWrite (req i v s) (hσ : s.standing = σ) : (indWrite req i v s).Keeps σ := by simp [indWrite, hσ]
@[simp] theorem keeps_execIndEntryWrite (req index value s) :
    OutcomeKeeps s.standing (execIndEntryWrite req index value s) := by simp [execIndEntryWrite]
@[simp] theorem keeps_execIndCheckPass (s) : OutcomeKeeps s.standing (execIndCheckPass s) := by simp [execIndCheckPass]
@[simp] theorem keeps_clsWrite (req off v mask s) (hσ : s.standing = σ) : (clsWrite req off v mask s).Keeps σ := by simp [clsWrite, hσ]
@[simp] theorem keeps_emWrite (req off v mask s) (hσ : s.standing = σ) : (emWrite req off v mask s).Keeps σ := by simp [emWrite, hσ]
@[simp] theorem keeps_hashWrite (req off v mask s) (hσ : s.standing = σ) : (hashWrite req off v mask s).Keeps σ := by simp [hashWrite, hσ]

/-! ### Machine/FlowCache -/

@[simp] theorem standing_updHbm (f s) : (updHbm f s).standing = s.standing := by rfl
@[simp] theorem standing_touchLine (l s) : (touchLine l s).standing = s.standing := by rfl
@[simp] theorem standing_writeBack (l s) : (writeBack l s).standing = s.standing := by simp [writeBack]
@[simp] theorem standing_snapPkt (b p s) : (snapPkt b p s).standing = s.standing := by simp [snapPkt]
@[simp] theorem standing_bindSnap (p s) : (bindSnap p s).standing = s.standing := by
  unfold bindSnap
  (repeat' split) <;> simp
@[simp] theorem standing_quarantineFlow (f source addr s) :
    (quarantineFlow f source addr s).standing = s.standing := by simp [quarantineFlow]
theorem standing_of_makeRoom {f s u} (h : makeRoom f s = some u) : u.standing = s.standing := by
  unfold makeRoom at h
  simp only [] at h
  split at h
  · cases h; rfl
  split at h
  · cases h; simp
  · cases h
@[simp] theorem keeps_execFlowFillComplete (flow ok s) : OutcomeKeeps s.standing (execFlowFillComplete flow ok s) := by
  unfold execFlowFillComplete
  simp only [outcomeKeeps_next, standing_ite]
  split
  · rfl
  split
  · simp
  split
  · simp
  split <;> rename_i h
  · simp [standing_of_makeRoom h]
  · simp
@[simp] theorem standing_putGranule (f g v s) : (putGranule f g v s).standing = s.standing := by
  simp only [putGranule]
  (repeat' split) <;> simp
@[simp] theorem standing_applyContext (k s) : (applyContext k s).standing = s.standing := by simp [applyContext]
@[simp] theorem keeps_execQuarantineScan (flow s) : OutcomeKeeps s.standing (execQuarantineScan flow s) := by simp [execQuarantineScan]
@[simp] theorem standing_flowBody (req act s) (hact : ∀ x s, (act x s).2.standing = s.standing) :
    (flowBody req act s).2.standing = s.standing := by simp [flowBody, hact]
@[simp] theorem standing_writeContextBody (req s) : (writeContextBody req s).2.standing = s.standing := by simp [writeContextBody]
@[simp] theorem standing_readContextBody (req s) : (readContextBody req s).2.standing = s.standing := by simp [readContextBody]
@[simp] theorem keeps_flowCmd (req v s) (hσ : s.standing = σ) : (flowCmd req v s).Keeps σ := by
  unfold flowCmd
  split <;> simp [hσ]
@[simp] theorem keeps_execWriteContext (req s) : OutcomeKeeps s.standing (execWriteContext req s) := by simp [execWriteContext]
@[simp] theorem keeps_execReadContext (req s) : OutcomeKeeps s.standing (execReadContext req s) := by simp [execReadContext]
@[simp] theorem keeps_quarPop (s) (hσ : s.standing = σ) : (quarPop s).Keeps σ := by simp [quarPop, hσ]
@[simp] theorem keeps_execHbmQuarPop (req s) : OutcomeKeeps s.standing (execHbmQuarPop req s) := by simp [execHbmQuarPop]
@[simp] theorem keeps_flowBaseWrite (req v s) (hσ : s.standing = σ) : (flowBaseWrite req v s).Keeps σ := by simp [flowBaseWrite, hσ]
@[simp] theorem keeps_execHbmFlowBaseWrite (req value s) :
    OutcomeKeeps s.standing (execHbmFlowBaseWrite req value s) := by simp [execHbmFlowBaseWrite]

/-! ### Machine/Send -/

@[simp] theorem standing_deliver (t d words s) : (deliver t d words s).standing = s.standing := by
  unfold deliver
  split <;> simp
@[simp] theorem standing_sendGo (t w s) : (sendGo t w s).standing = s.standing := by
  simp only [sendGo]
  (repeat' split) <;> simp
@[simp] theorem keeps_execSend (t rd rs rt s) : OutcomeKeeps s.standing (execSend t rd rs rt s) := by simp [execSend]
@[simp] theorem keeps_execMailboxDelivery (t s) : OutcomeKeeps s.standing (execMailboxDelivery t s) := by
  simp only [execMailboxDelivery]
  (repeat' split) <;> simp
@[simp] theorem keeps_execMailboxPop (t s) : OutcomeKeeps s.standing (execMailboxPop t s) := by
  refine standing_runAccess _ _ _ fun th u hu => ?_
  (repeat' split) <;> simp [hu]
@[simp] theorem standing_carrySend (p t s h) : (carrySend p t s h).standing = s.standing := by
  unfold carrySend
  split
  · split
    · simp only []
      split <;> rename_i h
      · simp [standing_of_addRefs h]
      · simp
    · rfl
  · simp
  · rfl

end Sys2Proof.Machine
end

section
/-! SUPPORT. The standing through the dispatcher and the Gate, the coprocessors and the recovery of threads. -/
namespace Sys2Proof.Machine
open Sys2Proof

variable {σ : Standing}

/-! ### Machine/Gate -/

@[simp] theorem standing_setList (p l is s) : (setList p l is s).standing = s.standing := by rfl
@[simp] theorem standing_firmWait (p k s) : (firmWait p k s).standing = s.standing := by simp [firmWait]
@[simp] theorem standing_freeTracker (p f s) : (freeTracker p f s).standing = s.standing := by simp [freeTracker]
@[simp] theorem standing_forget (k s) : (forget k s).standing = s.standing := by simp [forget]
@[simp] theorem standing_takeSeq (p s) : (takeSeq p s).standing = s.standing := by rfl
@[simp] theorem standing_enterStore (p l it s) : (enterStore p l it s).standing = s.standing := by
  unfold enterStore
  split <;> simp
@[simp] theorem standing_spillItem (p l cls it bytes s) : (spillItem p l cls it bytes s).standing = s.standing := by
  unfold spillItem
  split <;> simp
@[simp] theorem standing_acceptItem (p l cls it bytes drop s) (hdrop : ∀ s, (drop s).standing = s.standing) :
    (acceptItem p l cls it bytes drop s).standing = s.standing := by simp [acceptItem, hdrop]
@[simp] theorem standing_admitPkt (pkt k s) : (admitPkt pkt k s).standing = s.standing := by simp [admitPkt]
@[simp] theorem keeps_execAdmit (pkt s) : OutcomeKeeps s.standing (execAdmit pkt s) := by
  unfold execAdmit
  split <;> simp
@[simp] theorem standing_admitNode (p n s) : (admitNode p n s).standing = s.standing := by simp [admitNode]
@[simp] theorem keeps_execSpillReturn (piste list ecc s) : OutcomeKeeps s.standing (execSpillReturn piste list ecc s) := by
  simp only [execSpillReturn]
  (repeat' split) <;> simp
@[simp] theorem standing_countWait (p l admitted s) : (countWait p l admitted s).standing = s.standing := by rfl
@[simp] theorem standing_bindPkt (i k holder s) : (bindPkt i k holder s).standing = s.standing := by simp [bindPkt]
@[simp] theorem standing_takeItem (t it replay s) : (takeItem t it replay s).standing = s.standing := by simp [takeItem]
@[simp] theorem standing_gateRec (p r s) : (gateRec p r s).standing = s.standing := by simp [gateRec]
@[simp] theorem standing_badDesc (p i k s) : (badDesc p i k s).standing = s.standing := by simp [badDesc]
@[simp] theorem standing_bindOne (badNode p dcrcBad s) (hb : ∀ n u, (badNode n u).standing = u.standing) :
    (bindOne badNode p dcrcBad s).standing = s.standing := by
  unfold bindOne
  split
  · rfl
  · simp only []
    split
    · split
      · simp [hb]
      · split <;> simp
    · split
      · simp
      · simp only [standing_ite]
        split
        · simp
        · split
          · simp
          · split <;> simp
@[simp] theorem standing_gateCommit (i w s) : (gateCommit i w s).standing = s.standing := by simp [gateCommit]
@[simp] theorem standing_commitGo (t w st s) : (commitGo t w st s).standing = s.standing := by
  unfold commitGo
  (repeat' split) <;> simp
@[simp] theorem keeps_execCommit (t rd rs rt s) : OutcomeKeeps s.standing (execCommit t rd rs rt s) := by simp [execCommit]
@[simp] theorem standing_restartPkt (i k s) : (restartPkt i k s).standing = s.standing := by rfl
@[simp] theorem standing_countReplay (k s) : (countReplay k s).standing = s.standing := by rfl
@[simp] theorem standing_recallPacket (t i k s) : (recallPacket t i k s).standing = s.standing := by simp [recallPacket]
@[simp] theorem keeps_execPacketFirm (t s) : OutcomeKeeps s.standing (execPacketFirm t s) := by
  unfold execPacketFirm
  split <;> simp
@[simp] theorem standing_trackSquash (k s) : (trackSquash k s).standing = s.standing := by simp [trackSquash]
@[simp] theorem standing_squash (i k s) : (squash i k s).standing = s.standing := by simp [squash]
@[simp] theorem standing_toLift (i k ty s) : (toLift i k ty s).standing = s.standing := by simp [toLift]
@[simp] theorem standing_carryOut (i w s) : (carryOut i w s).standing = s.standing := by
  unfold carryOut
  (repeat' split) <;> simp
theorem standing_of_applyEdits {i k s u} (h : applyEdits i k s = some u) : u.standing = s.standing := by
  unfold applyEdits at h
  simp only [] at h
  split at h
  · cases h; rfl
  split at h
  · cases h
  split at h <;> rename_i hc
  · cases h
  · cases h; simp [standing_of_snd hc]
@[simp] theorem standing_release (i k s) : (release i k s).standing = s.standing := by
  unfold release
  simp only []
  split
  · simp
  · cases h : applyEdits i k (applyContext k s)
    · simp
    · simp [standing_of_applyEdits h]
@[simp] theorem keeps_execGateRelease (piste s) : OutcomeKeeps s.standing (execGateRelease piste s) := by
  simp only [execGateRelease]
  (repeat' split) <;> simp
@[simp] theorem standing_abandonItem (t s) : (abandonItem t s).standing = s.standing := by
  unfold abandonItem
  split <;> simp
@[simp] theorem keeps_execGateTimeout (pkt s) : OutcomeKeeps s.standing (execGateTimeout pkt s) := by
  unfold execGateTimeout
  split <;> simp
@[simp] theorem keeps_gateRecPop (p s) (hσ : s.standing = σ) : (gateRecPop p s).Keeps σ := by simp [gateRecPop, hσ]
@[simp] theorem keeps_execGateRecPop (req piste s) : OutcomeKeeps s.standing (execGateRecPop req piste s) := by simp [execGateRecPop]
@[simp] theorem keeps_execSnowploughExit (piste flow s) :
    OutcomeKeeps s.standing (execSnowploughExit piste flow s) := by simp [execSnowploughExit]
@[simp] theorem keeps_listCfgWrite (p l v mask s) (hσ : s.standing = σ) :
    (listCfgWrite p l v mask s).Keeps σ := by simp [listCfgWrite, hσ]
@[simp] theorem keeps_dispWrite (p req off v mask s) (hσ : s.standing = σ) :
    (dispWrite p req off v mask s).Keeps σ := by simp [dispWrite, hσ]
@[simp] theorem keeps_dispWrite64 (p req off v s) (hσ : s.standing = σ) : (dispWrite64 p req off v s).Keeps σ := by simp [dispWrite64, hσ]
@[simp] theorem keeps_gateWrite (p req off v mask s) (hσ : s.standing = σ) :
    (gateWrite p req off v mask s).Keeps σ := by simp [gateWrite, hσ]

/-! ### Machine/Coproc -/

@[simp] theorem keeps_cpInsn (unit func t rd rs rt opt legal body s) (hb : (body (s.thr t.toNat) s).Keeps s.standing) :
    OutcomeKeeps s.standing (cpInsn unit func t rd rs rt opt legal body s) := by
  rw [cpInsn, outcomeKeeps_next, standing_runInsn]
  simp [hb]
@[simp] theorem keeps_unitErr {σ : Standing} (unit code) : (unitErr unit code).Keeps σ := trivial
@[simp] theorem keeps_retireReg (t rd v s) (hσ : s.standing = σ) : (retireReg t rd v s).Keeps σ := by
  simp [retireReg, hσ]
@[simp] theorem keeps_retireSt (t rd st s) (hσ : s.standing = σ) : (retireSt t rd st s).Keeps σ := by simp [retireSt, hσ]
@[simp] theorem keeps_retireThr (t f s) (hσ : s.standing = σ) : (retireThr t f s).Keeps σ := by simp [retireThr, hσ]
@[simp] theorem keeps_editInsn (func t rd rs rt opt legal f s) : OutcomeKeeps s.standing (editInsn func t rd rs rt opt legal f s) := by
  refine keeps_cpInsn _ _ _ _ _ _ _ _ _ _ ?_
  (repeat' split) <;> simp
@[simp] theorem keeps_execPktBufw (t rd rs rt opt s) : OutcomeKeeps s.standing (execPktBufw t rd rs rt opt s) := by simp [execPktBufw]
@[simp] theorem keeps_execPktOvr (t rd rs rt opt s) : OutcomeKeeps s.standing (execPktOvr t rd rs rt opt s) := by simp [execPktOvr]
@[simp] theorem keeps_execPktIns (t rd rs rt opt s) : OutcomeKeeps s.standing (execPktIns t rd rs rt opt s) := by simp [execPktIns]
@[simp] theorem keeps_execPktDel (t rd rs rt opt s) : OutcomeKeeps s.standing (execPktDel t rd rs rt opt s) := by simp [execPktDel]
@[simp] theorem keeps_execPktPush (t rd rs rt opt s) : OutcomeKeeps s.standing (execPktPush t rd rs rt opt s) := by simp [execPktPush]
@[simp] theorem keeps_execPktPop (t rd rs rt opt s) : OutcomeKeeps s.standing (execPktPop t rd rs rt opt s) := by simp [execPktPop]
@[simp] theorem keeps_execPktRd (t rd rs rt opt s) : OutcomeKeeps s.standing (execPktRd t rd rs rt opt s) := by
  refine keeps_cpInsn _ _ _ _ _ _ _ _ _ _ ?_
  (repeat' split) <;> simp
@[simp] theorem keeps_execPktLen (t rd rs rt opt s) : OutcomeKeeps s.standing (execPktLen t rd rs rt opt s) := by
  refine keeps_cpInsn _ _ _ _ _ _ _ _ _ _ ?_
  (repeat' split) <;> simp
@[simp] theorem keeps_execPktUndo (t rd rs rt opt s) : OutcomeKeeps s.standing (execPktUndo t rd rs rt opt s) := by
  refine keeps_cpInsn _ _ _ _ _ _ _ _ _ _ ?_
  (repeat' split) <;> simp
@[simp] theorem keeps_execCrcInit (t rd rs rt opt s) : OutcomeKeeps s.standing (execCrcInit t rd rs rt opt s) := by
  refine keeps_cpInsn _ _ _ _ _ _ _ _ _ _ ?_
  (repeat' split) <;> simp
@[simp] theorem keeps_execCrcUpd (t rd rs rt opt s) : OutcomeKeeps s.standing (execCrcUpd t rd rs rt opt s) := by simp [execCrcUpd]
@[simp] theorem keeps_rangeInsn (func t rd rs rt opt legal op s) :
    OutcomeKeeps s.standing (rangeInsn func t rd rs rt opt legal op s) := by
  refine keeps_cpInsn _ _ _ _ _ _ _ _ _ _ ?_
  (repeat' split) <;> simp
@[simp] theorem keeps_execCrcPrange (t rd rs rt opt s) :
    OutcomeKeeps s.standing (execCrcPrange t rd rs rt opt s) := by simp [execCrcPrange]
@[simp] theorem keeps_execCrcFin (t rd rs rt opt s) : OutcomeKeeps s.standing (execCrcFin t rd rs rt opt s) := by simp [execCrcFin]
@[simp] theorem keeps_execCrcCset (t rd rs rt opt s) : OutcomeKeeps s.standing (execCrcCset t rd rs rt opt s) := by simp [execCrcCset]
@[simp] theorem keeps_execCrcCadd (t rd rs rt opt s) : OutcomeKeeps s.standing (execCrcCadd t rd rs rt opt s) := by simp [execCrcCadd]
@[simp] theorem keeps_execCrcCrange (t rd rs rt opt s) :
    OutcomeKeeps s.standing (execCrcCrange t rd rs rt opt s) := by simp [execCrcCrange]
@[simp] theorem keeps_execCrcCfin (t rd rs rt opt s) : OutcomeKeeps s.standing (execCrcCfin t rd rs rt opt s) := by simp [execCrcCfin]
@[simp] theorem keeps_execCrcCinc (t rd rs rt opt s) : OutcomeKeeps s.standing (execCrcCinc t rd rs rt opt s) := by simp [execCrcCinc]
@[simp] theorem keeps_lkpInsn (func t rd rs rt opt legal firms op s) :
    OutcomeKeeps s.standing (lkpInsn func t rd rs rt opt legal firms op s) := by simp [lkpInsn]
@[simp] theorem keeps_execLkpKeyw (t rd rs rt opt s) : OutcomeKeeps s.standing (execLkpKeyw t rd rs rt opt s) := by simp [execLkpKeyw]
@[simp] theorem keeps_execLkpFfind (t rd rs rt opt s) : OutcomeKeeps s.standing (execLkpFfind t rd rs rt opt s) := by simp [execLkpFfind]
@[simp] theorem keeps_execLkpFins (t rd rs rt opt s) : OutcomeKeeps s.standing (execLkpFins t rd rs rt opt s) := by simp [execLkpFins]
@[simp] theorem keeps_execLkpFdel (t rd rs rt opt s) : OutcomeKeeps s.standing (execLkpFdel t rd rs rt opt s) := by simp [execLkpFdel]
@[simp] theorem keeps_execLkpHfind (t rd rs rt opt s) : OutcomeKeeps s.standing (execLkpHfind t rd rs rt opt s) := by simp [execLkpHfind]
@[simp] theorem keeps_execLkpHins (t rd rs rt opt s) : OutcomeKeeps s.standing (execLkpHins t rd rs rt opt s) := by simp [execLkpHins]
@[simp] theorem keeps_execLkpHdel (t rd rs rt opt s) : OutcomeKeeps s.standing (execLkpHdel t rd rs rt opt s) := by simp [execLkpHdel]
@[simp] theorem keeps_execLkpRfind (t rd rs rt opt s) : OutcomeKeeps s.standing (execLkpRfind t rd rs rt opt s) := by simp [execLkpRfind]
@[simp] theorem standing_lkpBody (t n kind f s) (hf : ∀ x y s, (f x y s).2.standing = s.standing) :
    (lkpBody t n kind f s).2.standing = s.standing := by
  unfold lkpBody
  split <;> simp [hf]
@[simp] theorem standing_entryUe (t a s) : (entryUe t a s).2.standing = s.standing := by simp [entryUe]
@[simp] theorem standing_entryRead (t a s) : (entryRead t a s).standing = s.standing := by simp [entryRead]
@[simp] theorem standing_scanBucket (t b hit n i s) : (scanBucket t b hit n i s).2.standing = s.standing := by
  induction n generalizing i s with
  | zero => rfl
  | succ n ih => simp [scanBucket, ih]
@[simp] theorem standing_setRes2 (t i v s) : (setRes2 t i v s).standing = s.standing := by rfl
@[simp] theorem standing_hfindGo (t n s) : (hfindGo t n s).2.standing = s.standing := by
  refine standing_lkpBody _ _ _ _ _ fun a cfg s => ?_
  simp only []
  split <;> rename_i h <;> simp [standing_of_snd h]
@[simp] theorem standing_putEntry (e key data s) : (putEntry e key data s).standing = s.standing := by rfl
@[simp] theorem standing_hinsGo (t n data s) : (hinsGo t n data s).2.standing = s.standing := by
  refine standing_lkpBody _ _ _ _ _ fun a cfg s => ?_
  simp only []
  split <;> rename_i h
  · simp [standing_of_snd h]
  · simp [standing_of_snd h]
  · split <;> rename_i h' <;> simp [standing_of_snd h', standing_of_snd h]
@[simp] theorem standing_hdelGo (t n s) : (hdelGo t n s).2.standing = s.standing := by
  refine standing_lkpBody _ _ _ _ _ fun a cfg s => ?_
  simp only []
  split <;> rename_i h <;> simp [standing_of_snd h]
@[simp] theorem standing_rangeSearch (t a v n lo hi s) : (rangeSearch t a v n lo hi s).2.standing = s.standing := by
  induction n generalizing lo hi s with
  | zero => rfl
  | succ n ih => simp [rangeSearch, ih]
@[simp] theorem standing_rfindGo (t n v s) : (rfindGo t n v s).2.standing = s.standing := by
  refine standing_lkpBody _ _ _ _ _ fun a cfg s => ?_
  split <;> rename_i h <;> simp [standing_of_snd h]
@[simp] theorem standing_ffindGo (t s) : (ffindGo t s).2.standing = s.standing := by
  unfold ffindGo
  split <;> simp
@[simp] theorem standing_finsGo (t flow s) : (finsGo t flow s).2.standing = s.standing := by simp [finsGo]
@[simp] theorem standing_fdelGo (t s) : (fdelGo t s).2.standing = s.standing := by simp [fdelGo]
@[simp] theorem standing_setKey (u i k s) : (setKey u i k s).standing = s.standing := by rfl
@[simp] theorem standing_cryBump (t off s) : (cryBump t off s).standing = s.standing := by rfl
@[simp] theorem keeps_cryAccept (t rd st op s) (hσ : s.standing = σ) : (cryAccept t rd st op s).Keeps σ := by
  unfold cryAccept
  split <;> simp [hσ]
@[simp] theorem keeps_execCrySetp (t rd rs rt opt s) : OutcomeKeeps s.standing (execCrySetp t rd rs rt opt s) := by simp [execCrySetp]
@[simp] theorem keeps_execCryGcm (t rd rs rt opt s) : OutcomeKeeps s.standing (execCryGcm t rd rs rt opt s) := by simp [execCryGcm]
@[simp] theorem keeps_execCryCmac (t rd rs rt opt s) : OutcomeKeeps s.standing (execCryCmac t rd rs rt opt s) := by simp [execCryCmac]
@[simp] theorem keeps_execCrySha (t rd rs rt opt s) : OutcomeKeeps s.standing (execCrySha t rd rs rt opt s) := by simp [execCrySha]
@[simp] theorem keeps_execCryPoll (t rd rs rt opt s) : OutcomeKeeps s.standing (execCryPoll t rd rs rt opt s) := by simp [execCryPoll]
@[simp] theorem standing_kloadGo (t src slot s) : (kloadGo t src slot s).2.standing = s.standing := by
  unfold kloadGo
  (repeat' split) <;> simp
@[simp] theorem standing_kzeroGo (t slot s) : (kzeroGo t slot s).2.standing = s.standing := by simp [kzeroGo]
@[simp] theorem keeps_keyInsn (func t rd rs rt opt legal f s) (hf : ∀ x s, (f x s).2.standing = s.standing) :
    OutcomeKeeps s.standing (keyInsn func t rd rs rt opt legal f s) := by simp [keyInsn, hf]
@[simp] theorem keeps_execCryKload (t rd rs rt opt s) : OutcomeKeeps s.standing (execCryKload t rd rs rt opt s) := by simp [execCryKload]
@[simp] theorem keeps_execCryKzero (t rd rs rt opt s) : OutcomeKeeps s.standing (execCryKzero t rd rs rt opt s) := by simp [execCryKzero]
@[simp] theorem standing_cryEnd (t c st o s) : (cryEnd t c st o s).standing = s.standing := by
  unfold cryEnd
  (repeat' split) <;> simp
@[simp] theorem standing_pktUe (k s) : (pktUe k s).standing = s.standing := by simp [pktUe]
@[simp] theorem keeps_execAsyncCompletion (t err s) : OutcomeKeeps s.standing (execAsyncCompletion t err s) := by
  simp only [execAsyncCompletion]
  (repeat' split) <;> simp
@[simp] theorem keeps_execTimNow (t rd rs rt opt s) : OutcomeKeeps s.standing (execTimNow t rd rs rt opt s) := by simp [execTimNow]
@[simp] theorem keeps_execTimArr (t rd rs rt opt s) : OutcomeKeeps s.standing (execTimArr t rd rs rt opt s) := by
  refine keeps_cpInsn _ _ _ _ _ _ _ _ _ _ ?_
  (repeat' split) <;> simp
@[simp] theorem keeps_timInsn (func t rd rs rt opt firms f s) : OutcomeKeeps s.standing (timInsn func t rd rs rt opt firms f s) := by
  refine keeps_cpInsn _ _ _ _ _ _ _ _ _ _ ?_
  (repeat' split) <;> simp
@[simp] theorem keeps_execTimSched (t rd rs rt opt s) : OutcomeKeeps s.standing (execTimSched t rd rs rt opt s) := by simp [execTimSched]
@[simp] theorem keeps_execTimTxts (t rd rs rt opt s) : OutcomeKeeps s.standing (execTimTxts t rd rs rt opt s) := by simp [execTimTxts]
@[simp] theorem keeps_execTimCorr (t rd rs rt opt s) : OutcomeKeeps s.standing (execTimCorr t rd rs rt opt s) := by simp [execTimCorr]
@[simp] theorem keeps_execCoprocGet (t unit rd rs rt opt s) :
    OutcomeKeeps s.standing (execCoprocGet t unit rd rs rt opt s) := by simp [execCoprocGet]
@[simp] theorem keeps_saveInsn (fn t rd rs rt k f s) (hf : ∀ u m a th, (f u m a th s).Keeps s.standing) :
    OutcomeKeeps s.standing (saveInsn fn t rd rs rt k f s) := by
  rw [saveInsn, outcomeKeeps_next]
  refine standing_runInsn _ _ _ _ ?_
  simp only [Body.keeps_ite]
  (repeat' split) <;> simp [hf]
@[simp] theorem keeps_execCpsave (t rd rs rt s) : OutcomeKeeps s.standing (execCpsave t rd rs rt s) := by simp [execCpsave]
@[simp] theorem keeps_execCprestore (t rd rs rt s) : OutcomeKeeps s.standing (execCprestore t rd rs rt s) :=
  keeps_saveInsn _ _ _ _ _ _ _ _ fun u m a th => by simp

/-! ### Machine/Recover -/

@[simp] theorem standing_dropItem (t s) : (dropItem t s).standing = s.standing := by simp [dropItem]
@[simp] theorem standing_orphanThread (t s) : (orphanThread t s).standing = s.standing := by simp [orphanThread]
@[simp] theorem standing_restartThr (t s) : (restartThr t s).standing = s.standing := by simp [restartThr]
@[simp] theorem standing_discardPark (t s) : (discardPark t s).standing = s.standing := by
  unfold discardPark
  split <;> simp
@[simp] theorem standing_resetThr (t s) : (resetThr t s).standing = s.standing := by simp [resetThr]
@[simp] theorem standing_tcmdBody (p req judge act s) (hact : ∀ t u, (act t u).standing = u.standing) :
    (tcmdBody p req judge act s).2.standing = s.standing := by
  unfold tcmdBody
  extract_lets t th
  cases judge th <;> simp [hact]
@[simp] theorem standing_resumeBody (p req s) : (resumeBody p req s).2.standing = s.standing := by simp [resumeBody]
@[simp] theorem standing_restartBody (p req s) : (restartBody p req s).2.standing = s.standing := by simp [restartBody]
@[simp] theorem standing_resetBody (p req s) : (resetBody p req s).2.standing = s.standing := by simp [resetBody]
@[simp] theorem keeps_tcmd (p req v s) (hσ : s.standing = σ) : (tcmd p req v s).Keeps σ := by
  unfold tcmd
  split <;> simp [hσ]
@[simp] theorem keeps_execThreadResume (req piste s) :
    OutcomeKeeps s.standing (execThreadResume req piste s) := by simp [execThreadResume]
@[simp] theorem keeps_execThreadRestart (req piste s) :
    OutcomeKeeps s.standing (execThreadRestart req piste s) := by simp [execThreadRestart]
@[simp] theorem keeps_execThreadReset (req piste s) : OutcomeKeeps s.standing (execThreadReset req piste s) := by simp [execThreadReset]
@[simp] theorem keeps_pstFaultPop (p s) (hσ : s.standing = σ) : (pstFaultPop p s).Keeps σ := by simp [pstFaultPop, hσ]
@[simp] theorem keeps_telFaultPop (s) (hσ : s.standing = σ) : (telFaultPop s).Keeps σ := by simp [telFaultPop, hσ]
@[simp] theorem keeps_execPstFaultPop (req piste s) : OutcomeKeeps s.standing (execPstFaultPop req piste s) := by simp [execPstFaultPop]
@[simp] theorem keeps_execTelFaultPop (req s) : OutcomeKeeps s.standing (execTelFaultPop req s) := by simp [execTelFaultPop]
@[simp] theorem standing_timerExpire (t s) : (timerExpire t s).standing = s.standing := by simp [timerExpire]
@[simp] theorem keeps_execThreadTimerExpiry (t s) : OutcomeKeeps s.standing (execThreadTimerExpiry t s) := by simp [execThreadTimerExpiry]
@[simp] theorem keeps_ctxWrite (t off v s) (hσ : s.standing = σ) : (ctxWrite t off v s).Keeps σ := by simp [ctxWrite, hσ]
@[simp] theorem standing_clearBtb (cl s) : (clearBtb cl s).standing = s.standing := by rfl
@[simp] theorem keeps_icsWrite (page cl off v s) (hσ : s.standing = σ) : (icsWrite page cl off v s).Keeps σ := by simp [icsWrite, hσ]
@[simp] theorem keeps_execIcsWindowWrite (req page off value s) : OutcomeKeeps s.standing (execIcsWindowWrite req page off value s) := by
  unfold execIcsWindowWrite
  split <;> simp
@[simp] theorem keeps_execIcsCheckPass (page s) : OutcomeKeeps s.standing (execIcsCheckPass page s) := by
  unfold execIcsCheckPass
  split <;> simp
@[simp] theorem keeps_pstWrite (p req off v mask s) (hσ : s.standing = σ) :
    (pstWrite p req off v mask s).Keeps σ := by simp [pstWrite, hσ]
@[simp] theorem keeps_telWrite (req off v mask s) (hσ : s.standing = σ) : (telWrite req off v mask s).Keeps σ := by simp [telWrite, hσ]
@[simp] theorem keeps_coreCtrlWrite (page cl k off v mask s) (hσ : s.standing = σ) :
    (coreCtrlWrite page cl k off v mask s).Keeps σ := by simp [coreCtrlWrite, hσ]
@[simp] theorem keeps_sliceWrite (page cl off v mask s) (hσ : s.standing = σ) :
    (sliceWrite page cl off v mask s).Keeps σ := by simp [sliceWrite, hσ]
@[simp] theorem keeps_cluWrite (cl req off v mask s) (hσ : s.standing = σ) :
    (cluWrite cl req off v mask s).Keeps σ := by simp [cluWrite, hσ]
@[simp] theorem keeps_cluWrite64 (cl req off v s) (hσ : s.standing = σ) : (cluWrite64 cl req off v s).Keeps σ := by simp [cluWrite64, hσ]

end Sys2Proof.Machine
end

section
/-! SUPPORT. The standing through the signal engine and its graphs. -/
namespace Sys2Proof.Machine
open Sys2Proof

variable {σ : Standing}

/-! ### Machine/Signal -/

@[simp] theorem standing_sigCount (p i s) : (sigCount p i s).standing = s.standing := by simp [sigCount]
@[simp] theorem standing_readSig (p odd i s) : (readSig p odd i s).2.standing = s.standing := by simp [readSig]
@[simp] theorem standing_putSig (i w s) : (putSig i w s).standing = s.standing := by simp [putSig]
@[simp] theorem standing_setGraph (g x s) : (setGraph g x s).standing = s.standing := by rfl
@[simp] theorem standing_updGraph (g f s) : (updGraph g f s).standing = s.standing := by rfl
@[simp] theorem standing_setNodeSt (p n x s) : (setNodeSt p n x s).standing = s.standing := by rfl
@[simp] theorem standing_updXchk (k f s) : (updXchk k f s).standing = s.standing := by rfl
@[simp] theorem standing_postToken (g i cycle s) : (postToken g i cycle s).standing = s.standing := by rfl
@[simp] theorem standing_writeSig (g i cycle r s) : (writeSig g i cycle r s).2.standing = s.standing := by simp [writeSig]
@[simp] theorem standing_inputRec (g i s) : (inputRec g i s).2.standing = s.standing := by
  simp only [inputRec]
  (repeat' split) <;> simp
@[simp] theorem standing_inputRecs (g l s) : (inputRecs g l s).2.standing = s.standing := by
  induction l generalizing s with
  | nil => rfl
  | cons i l ih => simp [inputRecs, ih]

/-! ### Machine/Graphs -/

@[simp] theorem standing_sendToken (g n e w s) : (sendToken g n e w s).standing = s.standing := by simp [sendToken]
@[simp] theorem standing_writeOuts (g n late l s) : (writeOuts g n late l s).standing = s.standing := by
  induction l generalizing s with
  | nil => rfl
  | cons e l ih => simp [writeOuts, ih]
@[simp] theorem standing_markFired (g n s) : (markFired g n s).standing = s.standing := by rfl
@[simp] theorem standing_fireNative (g n late s) : (fireNative g n late s).standing = s.standing := by simp [fireNative]
@[simp] theorem standing_postStale (g n e late s) : (postStale g n e late s).standing = s.standing := by simp [postStale]
@[simp] theorem standing_abandonFiring (g n s) : (abandonFiring g n s).standing = s.standing := by simp [abandonFiring]
@[simp] theorem standing_dropNodeItem (g n s) : (dropNodeItem g n s).standing = s.standing := by rfl
@[simp] theorem standing_endBinding (g n s) : (endBinding g n s).standing = s.standing := by
  unfold endBinding
  split <;> simp
@[simp] theorem standing_postUnwritten (g n written late s) :
    (postUnwritten g n written late s).standing = s.standing := by simp [postUnwritten]
@[simp] theorem standing_codeDone (g n s) : (codeDone g n s).standing = s.standing := by rfl
@[simp] theorem standing_postCode (g n s) : (postCode g n s).standing = s.standing := by simp [postCode]
@[simp] theorem standing_badNode (it s) : (badNode it s).standing = s.standing := by simp [badNode]
@[simp] theorem standing_freeBuilt (p f s) : (freeBuilt p f s).standing = s.standing := by
  unfold freeBuilt
  split <;> simp
@[simp] theorem standing_sendBuilt (p f s) : (sendBuilt p f s).standing = s.standing := by simp [sendBuilt]
@[simp] theorem standing_stopGraph (g s) : (stopGraph g s).standing = s.standing := by simp [stopGraph]
@[simp] theorem standing_putBoth (g i r s) : (putBoth g i r s).standing = s.standing := by simp [putBoth]
@[simp] theorem standing_setGState (st g s) : (setGState st g s).standing = s.standing := by rfl
@[simp] theorem standing_enterSubst (g s) : (enterSubst g s).standing = s.standing := by simp [enterSubst]
@[simp] theorem standing_enterHold (g s) : (enterHold g s).standing = s.standing := by simp [enterHold]
@[simp] theorem standing_endHold (g s) : (endHold g s).standing = s.standing := by simp [endHold]
@[simp] theorem standing_deadlineNode (g late gone s n) : (deadlineNode g late gone s n).standing = s.standing := by
  simp only [deadlineNode]
  (repeat' split) <;> simp
@[simp] theorem standing_deadlineGo (g gone s) : (deadlineGo g gone s).standing = s.standing := by simp [deadlineGo]
@[simp] theorem keeps_execDeadline (piste graph s) : OutcomeKeeps s.standing (execDeadline piste graph s) := by simp [execDeadline]
@[simp] theorem keeps_execDeadlineMarker (piste graph s) :
    OutcomeKeeps s.standing (execDeadlineMarker piste graph s) := by simp [execDeadlineMarker]
@[simp] theorem keeps_execDeadlineMarkerTimeout (piste graph s) :
    OutcomeKeeps s.standing (execDeadlineMarkerTimeout piste graph s) := by simp [execDeadlineMarkerTimeout]
@[simp] theorem standing_sampleAll (g l s) : (sampleAll g l s).2.standing = s.standing := by
  induction l generalizing s with
  | nil => rfl
  | cons i l ih => simp [sampleAll, ih]
@[simp] theorem standing_closeCycle (g s) : (closeCycle g s).standing = s.standing := by simp [closeCycle]
@[simp] theorem standing_dropOldSeals (key cycle s) : (dropOldSeals key cycle s).standing = s.standing := by
  unfold dropOldSeals
  exact foldl_standing fun s x => by split <;> simp
@[simp] theorem standing_startNode (g s n) : (startNode g s n).standing = s.standing := by
  simp only [startNode]
  (repeat' split) <;> simp
@[simp] theorem standing_startCycle (g c s) : (startCycle g c s).standing = s.standing := by simp [startCycle]
@[simp] theorem standing_dropOwners (key s) : (dropOwners key s).standing = s.standing := by rfl
@[simp] theorem standing_takeOwners (g s) : (takeOwners g s).standing = s.standing := by simp [takeOwners]
@[simp] theorem standing_freeGraph (g s) : (freeGraph g s).standing = s.standing := by simp [freeGraph]
@[simp] theorem standing_swapIn (g old s) : (swapIn g old s).standing = s.standing := by simp [swapIn]
@[simp] theorem standing_boundary (n s g) : (boundary n s g).standing = s.standing := by
  unfold boundary
  split <;> simp
@[simp] theorem standing_slotStart (n s g) : (slotStart n s g).standing = s.standing := by simp [slotStart]
@[simp] theorem standing_histSnap (p n s) : (histSnap p n s).standing = s.standing := by simp [histSnap]
@[simp] theorem standing_cycleSkips (p n now s) : (cycleSkips p n now s).standing = s.standing := by
  unfold cycleSkips
  split <;> simp
@[simp] theorem standing_timerStepped (old new s p n) : (timerStepped old new s p n).standing = s.standing := by simp [timerStepped]
@[simp] theorem standing_timerStart (p n s) : (timerStart p n s).standing = s.standing := by simp [timerStart]
@[simp] theorem keeps_execCycleStart (piste timer s) : OutcomeKeeps s.standing (execCycleStart piste timer s) := by simp [execCycleStart]
@[simp] theorem keeps_execNodeFire (piste node s) : OutcomeKeeps s.standing (execNodeFire piste node s) := by
  simp only [execNodeFire]
  (repeat' split) <;> simp
@[simp] theorem standing_setItems (p l s) : (setItems p l s).standing = s.standing := by rfl
@[simp] theorem standing_engineItem (p pkt k s) : (engineItem p pkt k s).standing = s.standing := by simp [engineItem]
@[simp] theorem standing_bindGo (p dcrcBad s) : (bindGo p dcrcBad s).standing = s.standing := by
  simp only [bindGo]
  (repeat' split) <;> simp
@[simp] theorem keeps_execBind (piste dcrcBad s) : OutcomeKeeps s.standing (execBind piste dcrcBad s) := by simp [execBind]
@[simp] theorem standing_itemDone (it drop s) : (itemDone it drop s).standing = s.standing := by
  unfold itemDone
  (repeat' split) <;> simp
@[simp] theorem standing_checkSeal (p n data s) : (checkSeal p n data s).2.standing = s.standing := by simp [checkSeal]
@[simp] theorem standing_unpackMaps (g tag seq ts data l s) : (unpackMaps g tag seq ts data l s).standing = s.standing := by
  induction l generalizing s with
  | nil => rfl
  | cons e l ih => simp [unpackMaps, ih]
@[simp] theorem standing_takeFrame (p n g it k s) : (takeFrame p n g it k s).standing = s.standing := by
  unfold takeFrame
  simp only [standing_ite]
  split
  · simp
  · split <;> rename_i h <;> simp [standing_of_snd h]
@[simp] theorem standing_unpackGo (p it s) : (unpackGo p it s).standing = s.standing := by
  unfold unpackGo
  (repeat' split) <;> simp
@[simp] theorem keeps_execUnpack (piste s) : OutcomeKeeps s.standing (execUnpack piste s) := by
  simp only [execUnpack]
  (repeat' split) <;> simp
@[simp] theorem standing_packGo (g n s) : (packGo g n s).standing = s.standing := by
  unfold packGo
  simp only [standing_ite]
  split
  · simp
  · split <;> rename_i h <;> simp [standing_of_snd h]
@[simp] theorem keeps_execPack (piste node s) : OutcomeKeeps s.standing (execPack piste node s) := by
  simp only [execPack]
  (repeat' split) <;> simp
@[simp] theorem standing_sealGo (g n f s) : (sealGo g n f s).standing = s.standing := by simp [sealGo]
@[simp] theorem keeps_execSeal (piste node s) : OutcomeKeeps s.standing (execSeal piste node s) := by
  simp only [execSeal]
  (repeat' split) <;> simp
@[simp] theorem standing_faultPair (k kind g port index cycle forced s) :
    (faultPair k kind g port index cycle forced s).standing = s.standing := by
  simp only [faultPair]
  (repeat' split) <;> simp
@[simp] theorem standing_passOut (g index cycle w s) : (passOut g index cycle w s).standing = s.standing := by
  simp only [passOut]
  (repeat' split) <;> simp
@[simp] theorem keeps_execXchkCompare (pair graph port s) : OutcomeKeeps s.standing (execXchkCompare pair graph port s) := by
  simp only [execXchkCompare]
  (repeat' split) <;> simp
@[simp] theorem keeps_execXchkMissing (pair graph port s) : OutcomeKeeps s.standing (execXchkMissing pair graph port s) := by
  simp only [execXchkMissing]
  (repeat' split) <;> simp
@[simp] theorem keeps_execXchkSealCompare (pair graph s) : OutcomeKeeps s.standing (execXchkSealCompare pair graph s) := by
  simp only [execXchkSealCompare]
  (repeat' split) <;> simp
@[simp] theorem keeps_execHoldTimeout (piste graph s) :
    OutcomeKeeps s.standing (execHoldTimeout piste graph s) := by simp [execHoldTimeout]
@[simp] theorem standing_rdinGo (t rd w s) : (rdinGo t rd w s).standing = s.standing := by rfl
@[simp] theorem keeps_execSigRdin (t rd rs rt opt s) : OutcomeKeeps s.standing (execSigRdin t rd rs rt opt s) := by
  refine keeps_cpInsn _ _ _ _ _ _ _ _ _ _ ?_
  (repeat' split) <;> simp
@[simp] theorem keeps_execSigSetq (t rd rs rt opt s) : OutcomeKeeps s.standing (execSigSetq t rd rs rt opt s) := by simp [execSigSetq]
@[simp] theorem standing_wroutGo (t x port q v oq s) : (wroutGo t x port q v oq s).standing = s.standing := by simp [wroutGo]
@[simp] theorem keeps_execSigWrout (t rd rs rt opt s) : OutcomeKeeps s.standing (execSigWrout t rd rs rt opt s) := by
  refine keeps_cpInsn _ _ _ _ _ _ _ _ _ _ ?_
  split
  · simp
  · simp only []; split <;> simp
@[simp] theorem standing_sigDoneGo (t x s) : (sigDoneGo t x s).standing = s.standing := by simp [sigDoneGo]
@[simp] theorem keeps_execSigDone (t rd rs rt opt s) : OutcomeKeeps s.standing (execSigDone t rd rs rt opt s) := by
  refine keeps_cpInsn _ _ _ _ _ _ _ _ _ _ ?_
  (repeat' split) <;> simp
@[simp] theorem keeps_execSigInfo (t rd rs rt opt s) : OutcomeKeeps s.standing (execSigInfo t rd rs rt opt s) := by
  refine keeps_cpInsn _ _ _ _ _ _ _ _ _ _ ?_
  (repeat' split) <;> simp

/-! ### Machine/GraphCmd -/

@[simp] theorem standing_graphJudge (p req gs absent own s go) (hgo : ∀ s, (go s).standing = s.standing) :
    (graphJudge p req gs absent own s go).2.standing = s.standing := by
  unfold graphJudge
  (repeat' split) <;> simp [hgo]
@[simp] theorem standing_fillSlots (g st swap s) : (fillSlots g st swap s).standing = s.standing := by simp [fillSlots]
@[simp] theorem standing_loadGo (g s) : (loadGo g s).standing = s.standing := by simp [loadGo]
@[simp] theorem standing_graphLoad (p req s) : (graphLoad p req s).2.standing = s.standing := by simp [graphLoad]
@[simp] theorem standing_graphUnload (p req s) : (graphUnload p req s).2.standing = s.standing := by simp [graphUnload]
@[simp] theorem standing_graphSwap (p req s) : (graphSwap p req s).2.standing = s.standing := by simp [graphSwap]
@[simp] theorem standing_forceOne (i odd v p s) : (forceOne i odd v p s).standing = s.standing := by simp [forceOne]
@[simp] theorem standing_forceJudge (p req s go) (hgo : ∀ x s, (go x s).standing = s.standing) :
    (forceJudge p req s go).2.standing = s.standing := by simp [forceJudge, hgo]
@[simp] theorem standing_forceBody (p req s) : (forceBody p req s).2.standing = s.standing :=
  standing_forceJudge _ _ _ _ fun i s => by simp only []; split <;> simp
@[simp] theorem standing_unforceBody (p req s) : (unforceBody p req s).2.standing = s.standing := by simp [unforceBody]
@[simp] theorem standing_clearForces (s) : (clearForces s).standing = s.standing := by rfl
@[simp] theorem keeps_graphCmd (p req v s) (hσ : s.standing = σ) : (graphCmd p req v s).Keeps σ := by
  unfold graphCmd
  split <;> simp [hσ]
@[simp] theorem keeps_execLoad (req piste s) : OutcomeKeeps s.standing (execLoad req piste s) := by simp [execLoad]
@[simp] theorem keeps_execUnload (req piste s) : OutcomeKeeps s.standing (execUnload req piste s) := by simp [execUnload]
@[simp] theorem keeps_execSwap (req piste s) : OutcomeKeeps s.standing (execSwap req piste s) := by simp [execSwap]
@[simp] theorem keeps_execForce (req piste s) : OutcomeKeeps s.standing (execForce req piste s) := by simp [execForce]
@[simp] theorem keeps_execUnforce (req piste s) : OutcomeKeeps s.standing (execUnforce req piste s) := by simp [execUnforce]
@[simp] theorem keeps_execSigeTblPass (piste s) : OutcomeKeeps s.standing (execSigeTblPass piste s) := by simp [execSigeTblPass]
@[simp] theorem keeps_xchkClear (k req s) (hσ : s.standing = σ) : (xchkClear k req s).Keeps σ := by simp [xchkClear, hσ]
@[simp] theorem keeps_execXchkClear (req pair s) : OutcomeKeeps s.standing (execXchkClear req pair s) := by simp [execXchkClear]
@[simp] theorem standing_graphsToSubst (s) : (graphsToSubst s).standing = s.standing := by simp [graphsToSubst]
@[simp] theorem standing_graphsToPending (s) : (graphsToPending s).standing = s.standing := by simp [graphsToPending]
@[simp] theorem standing_losePisteGraphs (p s) : (losePisteGraphs p s).standing = s.standing := by
  simp [losePisteGraphs]
  exact fun _ => foldl_standing fun s x => by split <;> simp
@[simp] theorem keeps_execMigrationRewrite (pair s) :
    OutcomeKeeps s.standing (execMigrationRewrite pair s) := by simp [execMigrationRewrite]
@[simp] theorem standing_migrateOne (s m) : (migrateOne s m).standing = s.standing := by simp [migrateOne]
@[simp] theorem keeps_execMigrationActivate (pair s) :
    OutcomeKeeps s.standing (execMigrationActivate pair s) := by simp [execMigrationActivate]
@[simp] theorem keeps_storeWindow (p off v s) (hσ : s.standing = σ) : (storeWindow p off v s).Keeps σ := by simp [storeWindow, hσ]
@[simp] theorem keeps_slotWrite (p off v mask s) (hσ : s.standing = σ) : (slotWrite p off v mask s).Keeps σ := by simp [slotWrite, hσ]
@[simp] theorem keeps_sigeWrite (p req off v mask s) (hσ : s.standing = σ) :
    (sigeWrite p req off v mask s).Keeps σ := by simp [sigeWrite, hσ]
@[simp] theorem keeps_sigeWrite64 (p req off v s) (hσ : s.standing = σ) : (sigeWrite64 p req off v s).Keeps σ := by simp [sigeWrite64, hσ]
@[simp] theorem standing_sigeReadEffect (p off s) : (sigeReadEffect p off s).standing = s.standing := by simp [sigeReadEffect]
@[simp] theorem keeps_xchkWrite (k req off v mask s) (hσ : s.standing = σ) :
    (xchkWrite k req off v mask s).Keeps σ := by simp [xchkWrite, hσ]
@[simp] theorem standing_sigeSoftReset (p s) : (sigeSoftReset p s).standing = s.standing := by simp [sigeSoftReset]

end Sys2Proof.Machine
end

section
/-! SUPPORT. The standing through power and image helpers, the traffic manager, egress and links. -/
namespace Sys2Proof.Machine
open Sys2Proof

variable {σ : Standing}

/-! ### Machine/Reset -/

@[simp] theorem standing_drawFree (n s) : (drawFree n s).2.standing = s.standing := by rfl
@[simp] theorem standing_cutFuses (s) : (cutFuses s).standing = s.standing := by
  unfold cutFuses
  split <;> simp
@[simp] theorem standing_scrambleFlash (a n s) : (scrambleFlash a n s).standing = s.standing := by rfl
@[simp] theorem standing_cutFlash (s) : (cutFlash s).standing = s.standing := by
  unfold cutFlash
  (repeat' split) <;> simp
@[simp] theorem standing_logPower (s) : (logPower s).standing = s.standing := by simp [logPower]
@[simp] theorem standing_logEvent (kind page d0 d1 d2 s) : (logEvent kind page d0 d1 d2 s).standing = s.standing := by simp [logEvent]
@[simp] theorem keeps_execPorstNRelease (s) : OutcomeKeeps s.standing (execPorstNRelease s) := by simp [execPorstNRelease]
@[simp] theorem keeps_execSysrstNRelease (s) : OutcomeKeeps s.standing (execSysrstNRelease s) := by rfl
@[simp] theorem keeps_execPowerOnDetectorRelease (det s) :
    OutcomeKeeps s.standing (execPowerOnDetectorRelease det s) := by simp [execPowerOnDetectorRelease]
@[simp] theorem keeps_execPllLockLoss (s) : OutcomeKeeps s.standing (execPllLockLoss s) := by simp [execPllLockLoss]

/-! ### Machine/Tm -/

@[simp] theorem standing_bumpWin (port off s) : (bumpWin port off s).standing = s.standing := by rfl
@[simp] theorem standing_freeCopy (c s) : (freeCopy c s).standing = s.standing := by
  unfold freeCopy
  (repeat' split) <;> simp
@[simp] theorem standing_buntLost (seq s) : (buntLost seq s).standing = s.standing := by simp [buntLost]
@[simp] theorem standing_dropCopy (port off c s) : (dropCopy port off c s).standing = s.standing := by
  unfold dropCopy
  (repeat' split) <;> simp
@[simp] theorem standing_updStream (h f s) : (updStream h f s).standing = s.standing := by rfl
@[simp] theorem standing_streamCount (h off n s) : (streamCount h off n s).standing = s.standing := by rfl
@[simp] theorem standing_streamFilter (h len s) : (streamFilter h len s).2.standing = s.standing := by simp [streamFilter]
@[simp] theorem standing_streamMeter (h len s) : (streamMeter h len s).2.standing = s.standing := by
  unfold streamMeter
  split
  · rfl
  · rcases meter (s.tsnEntry 2 h) s.time.ticks len (s.stream h) with ⟨col, x⟩
    cases col <;> simp
@[simp] theorem standing_streamRecover (h len bytes s) : (streamRecover h len bytes s).2.standing = s.standing := by simp [streamRecover]
@[simp] theorem standing_setQueue (p q l s) : (setQueue p q l s).standing = s.standing := by rfl
@[simp] theorem standing_settleCredits (p s) : (settleCredits p s).standing = s.standing := by simp [settleCredits]
@[simp] theorem standing_enqueue (c s) : (enqueue c s).standing = s.standing := by simp [enqueue]
@[simp] theorem standing_replicate (e c s) : (replicate e c s).standing = s.standing := by
  unfold replicate
  simp only []
  split
  · simp
  · refine (foldl_standing fun s c => by simp).trans (foldl_snd_standing fun a t => ?_)
    split <;> rename_i h
    · exact standing_of_addRefs h
    · simp
@[simp] theorem standing_streamAdmit (h c s) : (streamAdmit h c s).standing = s.standing := by
  unfold streamAdmit
  simp only []
  split <;> rename_i h1
  · simp [standing_of_snd h1]
  · split <;> rename_i h2
    · simp [standing_of_snd h1, standing_of_snd h2]
    · simp only [standing_ite]
      split
      · simp [standing_of_snd h1, standing_of_snd h2]
      · split <;> rename_i h3 <;> simp [standing_of_snd h1, standing_of_snd h2, standing_of_snd h3]
@[simp] theorem keeps_execTmAdmit (s) : OutcomeKeeps s.standing (execTmAdmit s) := by
  unfold execTmAdmit
  (repeat' split) <;> simp
@[simp] theorem keeps_execRecoveryReset (index s) : OutcomeKeeps s.standing (execRecoveryReset index s) := by simp [execRecoveryReset]

/-! ### Machine/Egress -/

@[simp] theorem standing_updGcl (p f s) : (updGcl p f s).standing = s.standing := by rfl
@[simp] theorem standing_gclEnter (p i at_ s) : (gclEnter p i at_ s).standing = s.standing := by simp [gclEnter]
@[simp] theorem standing_gclCycle (p at_ s) : (gclCycle p at_ s).standing = s.standing := by simp [gclCycle]
@[simp] theorem standing_gclStepped (old new s p) : (gclStepped old new s p).standing = s.standing := by simp [gclStepped]
@[simp] theorem standing_entryEnd (p s) : (entryEnd p s).standing = s.standing := by simp [entryEnd]
@[simp] theorem keeps_execGclEntryEnd (port s) : OutcomeKeeps s.standing (execGclEntryEnd port s) := by simp [execGclEntryEnd]
@[simp] theorem keeps_execGclChangeTime (port s) : OutcomeKeeps s.standing (execGclChangeTime port s) := by simp [execGclChangeTime]
@[simp] theorem standing_configChange (p s) : (configChange p s).2.standing = s.standing := by simp [configChange]
@[simp] theorem standing_dropHeads (p q n s) : (dropHeads p q n s).standing = s.standing := by
  induction n generalizing s with
  | zero => rfl
  | succ n ih => unfold dropHeads; split <;> simp [ih]
@[simp] theorem standing_bump64AtWin (p off s) : (execTxStart.bump64AtWin p off s).standing = s.standing := by rfl
@[simp] theorem keeps_execTxStart (port s) : OutcomeKeeps s.standing (execTxStart port s) := by
  unfold execTxStart
  simp only [outcomeKeeps_next, standing_ite]
  split
  · rfl
  split
  · simp
  · simp only [standing_updPort, standing_ite, standing_bumpWin, ite_self, standing_setQueue, standing_bump64AtWin]
    split <;> simp
@[simp] theorem standing_txCount (p n s) : (txCount p n s).standing = s.standing := by rfl
@[simp] theorem standing_txRecord (p tag sec ns piste s) : (txRecord p tag sec ns piste s).standing = s.standing := by simp [txRecord]
@[simp] theorem keeps_execTxComplete (port s) : OutcomeKeeps s.standing (execTxComplete port s) := by
  simp only [execTxComplete]
  (repeat' split) <;> simp
@[simp] theorem keeps_execTelDelivery (queue s) : OutcomeKeeps s.standing (execTelDelivery queue s) := by
  simp only [execTelDelivery]
  (repeat' split) <;> simp
@[simp] theorem keeps_execVerifyResult (port ok s) : OutcomeKeeps s.standing (execVerifyResult port ok s) := by simp [execVerifyResult]
@[simp] theorem keeps_winCommand (p body s) (hb : (body s).2.standing = σ) : (winCommand p body s).Keeps σ := by
  simp [winCommand, hb]
@[simp] theorem keeps_gclCmd (p code s) (hσ : s.standing = σ) : (gclCmd p code s).Keeps σ := by simp [gclCmd, hσ]
@[simp] theorem keeps_windowWrite (off v mask s) (hσ : s.standing = σ) : (windowWrite off v mask s).Keeps σ := by
  unfold windowWrite
  (repeat' split) <;> simp [hσ]
@[simp] theorem keeps_tmWrite (req off v mask s) (hσ : s.standing = σ) : (tmWrite req off v mask s).Keeps σ := by simp [tmWrite, hσ]
@[simp] theorem keeps_tmWrite64 (req off v s) (hσ : s.standing = σ) : (tmWrite64 req off v s).Keeps σ := by simp [tmWrite64, hσ]
@[simp] theorem keeps_execConfigChange (req s) : OutcomeKeeps s.standing (execConfigChange req s) := by simp [execConfigChange]
@[simp] theorem keeps_execTmTblPass (s) : OutcomeKeeps s.standing (execTmTblPass s) := by simp [execTmTblPass]
@[simp] theorem keeps_tsnStoreWrite (u off v s) (hσ : s.standing = σ) : (tsnStoreWrite u off v s).Keeps σ := by
  unfold tsnStoreWrite
  (repeat' split) <;> simp [hσ]
@[simp] theorem keeps_mirWrite (off v mask s) (hσ : s.standing = σ) : (mirWrite off v mask s).Keeps σ := by simp [mirWrite, hσ]
@[simp] theorem keeps_tsPopGo (piste s) (hσ : s.standing = σ) : (tsPopGo piste s).Keeps σ := by simp [tsPopGo, hσ]
@[simp] theorem keeps_tsnWrite (u req off v mask s) (hσ : s.standing = σ) :
    (tsnWrite u req off v mask s).Keeps σ := by simp [tsnWrite, hσ]
@[simp] theorem keeps_execStreamEntryWrite (req page off value s) :
    OutcomeKeeps s.standing (execStreamEntryWrite req page off value s) := by simp [execStreamEntryWrite]
@[simp] theorem keeps_execTsPop (req piste s) : OutcomeKeeps s.standing (execTsPop req piste s) := by simp [execTsPop]
@[simp] theorem standing_tsnSoftReset (u s) : (tsnSoftReset u s).standing = s.standing := by
  unfold tsnSoftReset
  (repeat' split) <;> simp

/-! ### Machine/Links -/

@[simp] theorem standing_abortRx (p s) : (abortRx p s).standing = s.standing := by simp [abortRx]
@[simp] theorem standing_abortTx (p s) : (abortTx p s).standing = s.standing := by
  unfold abortTx
  exact (foldl_standing fun s x => by simp).trans (by simp)
@[simp] theorem standing_drainQueues (p s) : (drainQueues p s).standing = s.standing := by simp [drainQueues]
@[simp] theorem standing_linkFell (p s) : (linkFell p s).standing = s.standing := by simp [linkFell]
@[simp] theorem standing_unlockIdle (s) : (unlockIdle s).standing = s.standing := by rfl
@[simp] theorem standing_withLinks (f s) : (withLinks f s).standing = (f s).standing := by simp [withLinks]
@[simp] theorem standing_loseLock (lane s) : (loseLock lane s).standing = s.standing := by simp [loseLock]
@[simp] theorem keeps_execLinkUp (port s) : OutcomeKeeps s.standing (execLinkUp port s) := by simp [execLinkUp]
@[simp] theorem keeps_execLinkDown (port state s) : OutcomeKeeps s.standing (execLinkDown port state s) := by simp [execLinkDown]
@[simp] theorem keeps_execAnFail (lane s) : OutcomeKeeps s.standing (execAnFail lane s) := by
  simp only [execAnFail]
  (repeat' split) <;> simp
@[simp] theorem standing_restartField (lane s) : (restartField lane s).standing = s.standing := by simp [restartField]
@[simp] theorem standing_restartLinks (ports write start s) (hwrite : ∀ s, (write s).standing = s.standing)
    (hstart : ∀ s, (start s).standing = s.standing) :
    (restartLinks ports write start s).standing = s.standing := by simp [restartLinks, hwrite, hstart]
@[simp] theorem keeps_flLaneWrite (lane off v mask s) (hσ : s.standing = σ) :
    (flLaneWrite lane off v mask s).Keeps σ := by simp [flLaneWrite, hσ]
@[simp] theorem keeps_flFmxWrite (lane off v mask s) (hσ : s.standing = σ) :
    (flFmxWrite lane off v mask s).Keeps σ := by simp [flFmxWrite, hσ]
@[simp] theorem keeps_maxFrameWrite (page off limit v mask s) (hσ : s.standing = σ) :
    (maxFrameWrite page off limit v mask s).Keeps σ := by simp [maxFrameWrite, hσ]
@[simp] theorem keeps_txEqWrite (page off v mask s) (hσ : s.standing = σ) :
    (txEqWrite page off v mask s).Keeps σ := by simp [txEqWrite, hσ]
@[simp] theorem keeps_flgWrite (g req off v mask s) (hσ : s.standing = σ) : (flgWrite g req off v mask s).Keeps σ := by
  unfold flgWrite
  (repeat' split) <;> simp [hσ]
@[simp] theorem standing_restartTrunk (g lanes s) : (restartTrunk g lanes s).standing = s.standing := by simp [restartTrunk]
@[simp] theorem keeps_trLaneWrite (g n v mask s) (hσ : s.standing = σ) : (trLaneWrite g n v mask s).Keeps σ := by simp [trLaneWrite, hσ]
@[simp] theorem keeps_trGroupWrite (g v mask s) (hσ : s.standing = σ) : (trGroupWrite g v mask s).Keeps σ := by
  have hw (s : State) : ((trunkPorts (v &&& mask)).foldl (fun s e =>
        (rangeFrom e.1 e.2).foldl (fun s l => setReg (pTRG g) (0x100 + l * 0x40) (s.reg (pTRG g) (0x100 + e.1 * 0x40)) s) s) s).standing = s.standing :=
    foldl_standing fun s e => foldl_standing fun s l => by simp
  simp [trGroupWrite, hσ, hw]
@[simp] theorem keeps_trgWrite (g req off v mask s) (hσ : s.standing = σ) :
    (trgWrite g req off v mask s).Keeps σ := by simp [trgWrite, hσ]
@[simp] theorem keeps_mgpCfgWrite (v mask s) (hσ : s.standing = σ) : (mgpCfgWrite v mask s).Keeps σ := by simp [mgpCfgWrite, hσ]
@[simp] theorem keeps_mgpWrite (req off v mask s) (hσ : s.standing = σ) : (mgpWrite req off v mask s).Keeps σ := by simp [mgpWrite, hσ]
@[simp] theorem keeps_execFlLaneCfgWrite (req lane value s) :
    OutcomeKeeps s.standing (execFlLaneCfgWrite req lane value s) := by simp [execFlLaneCfgWrite]
@[simp] theorem keeps_execFlFmxCfgWrite (req lane value s) :
    OutcomeKeeps s.standing (execFlFmxCfgWrite req lane value s) := by simp [execFlFmxCfgWrite]
@[simp] theorem keeps_execTrLaneCfgWrite (req lane value s) :
    OutcomeKeeps s.standing (execTrLaneCfgWrite req lane value s) := by simp [execTrLaneCfgWrite]
@[simp] theorem keeps_execTrGroupCfgWrite (req group value s) :
    OutcomeKeeps s.standing (execTrGroupCfgWrite req group value s) := by simp [execTrGroupCfgWrite]
@[simp] theorem keeps_execMgpCfgWrite (req value s) : OutcomeKeeps s.standing (execMgpCfgWrite req value s) := by simp [execMgpCfgWrite]
@[simp] theorem standing_fmxSlot (lane s i) : (fmxSlot lane s i).standing = s.standing := by
  simp only [fmxSlot]
  (repeat' split) <;> simp
@[simp] theorem keeps_execFmxRoundTx (lane s) : OutcomeKeeps s.standing (execFmxRoundTx lane s) := by simp [execFmxRoundTx]
@[simp] theorem standing_markerGood (l b s) : (markerGood l b s).standing = s.standing := by simp [markerGood]
@[simp] theorem standing_markerBad (l s) : (markerBad l s).standing = s.standing := by simp [markerBad]
@[simp] theorem keeps_execFmxMarkerRx (lane block s) : OutcomeKeeps s.standing (execFmxMarkerRx lane block s) := by simp [execFmxMarkerRx]
@[simp] theorem standing_fmxAbort (p s) : (fmxAbort p s).standing = s.standing := by simp [fmxAbort]
@[simp] theorem standing_fmxFrame (p b s) : (fmxFrame p b s).standing = s.standing := by simp [fmxFrame]
@[simp] theorem standing_fmxRx (p sync b s) : (fmxRx p sync b s).standing = s.standing := by
  unfold fmxRx
  split <;> simp
@[simp] theorem keeps_execFmxSlotBlockRx (lane sub sync block s) :
    OutcomeKeeps s.standing (execFmxSlotBlockRx lane sub sync block s) := by simp [execFmxSlotBlockRx]
@[simp] theorem standing_portSoftReset (k s) : (portSoftReset k s).standing = s.standing := by
  unfold portSoftReset
  split <;> simp

end Sys2Proof.Machine
end

section
/-! SUPPORT. The standing through the causes of mode transitions, which begin one and leave it to its instant, and through flash, HBM, time and host. -/
namespace Sys2Proof.Machine
open Sys2Proof

variable {σ : Standing}

/-! ### Machine/Mode -/

@[simp] theorem standing_updSafety (f s) : (updSafety f s).standing = s.standing := by rfl
@[simp] theorem standing_setWd (n w s) : (setWd n w s).standing = s.standing := by rfl
@[simp] theorem standing_armWd (n s) : (armWd n s).standing = s.standing := by simp [armWd]
@[simp] theorem standing_watchdogsAt (m s) : (watchdogsAt m s).standing = s.standing := by
  unfold watchdogsAt
  exact foldl_standing fun s x => by split <;> simp
@[simp] theorem standing_updMode (f s) (hp : (f s.mode).powered = s.mode.powered) (hr : (f s.mode).inReset = s.mode.inReset)
    (hm : (f s.mode).mode = s.mode.mode) (hl : (f s.mode).ssLatch = s.mode.ssLatch) :
    (updMode f s).standing = s.standing := by
  simp [updMode, hp, hr, hm, hl]
@[simp] theorem standing_endRequest (s) : (endRequest s).standing = s.standing := by
  unfold endRequest
  split <;> simp
@[simp] theorem standing_beginTrans (target cause req s) : (beginTrans target cause req s).standing = s.standing := by simp [beginTrans]
@[simp] theorem standing_safeCause (cause s) : (safeCause cause s).standing = s.standing := by simp [safeCause]
@[simp] theorem standing_zeroCause (cause s) : (zeroCause cause s).standing = s.standing := by
  unfold zeroCause
  split <;> simp
@[simp] theorem standing_lossCause (s) : (lossCause s).standing = s.standing := by
  unfold lossCause
  split <;> simp
@[simp] theorem standing_discardPackets (p s) : (discardPackets p s).standing = s.standing := by simp [discardPackets]
@[simp] theorem standing_orphanPiste (p s) : (orphanPiste p s).standing = s.standing := by simp [orphanPiste]
@[simp] theorem standing_dropPiste (p s) : (dropPiste p s).standing = s.standing := by simp [dropPiste]
@[simp] theorem standing_losePiste (p s) : (losePiste p s).standing = s.standing := by simp [losePiste]
@[simp] theorem standing_requestMode (req target s) : (requestMode req target s).2.standing = s.standing := by simp [requestMode]
@[simp] theorem standing_noteSafeRequest (req page off v s r) : (noteSafeRequest req page off v s r).1.standing = r.1.standing := by
  unfold noteSafeRequest
  split
  · split <;> simp
  · rfl

/-! ### Machine/Flash -/

@[simp] theorem standing_flashBody (code slot req s) : (flashBody code slot req s).2.standing = s.standing := by simp [flashBody]
@[simp] theorem keeps_flashCmd (req v s) (hσ : s.standing = σ) : (flashCmd req v s).Keeps σ := by simp [flashCmd, hσ]
@[simp] theorem standing_flashRow (code slot req s) : (flashRow code slot req s).standing = s.standing := by simp [flashRow]
@[simp] theorem standing_putBuf (base page b s) : (putBuf base page b s).standing = s.standing := by simp [putBuf]
@[simp] theorem standing_flashPut (a b s) : (flashPut a b s).standing = s.standing := by rfl
@[simp] theorem standing_flashDone (f s) : (flashDone f s).2.standing = s.standing := by
  unfold flashDone
  (repeat' split) <;> simp
@[simp] theorem standing_flashFailed (f s) : (flashFailed f s).2.standing = s.standing := by
  unfold flashFailed
  (repeat' split) <;> simp
@[simp] theorem keeps_execFlashComplete (ok s) : OutcomeKeeps s.standing (execFlashComplete ok s) := by
  simp only [execFlashComplete]
  (repeat' split) <;> simp

/-! ### Machine/Hbm -/

@[simp] theorem standing_setPortQ (port q s) : (setPortQ port q s).standing = s.standing := by rfl
@[simp] theorem keeps_execHbmRequest (port addr write data s) : OutcomeKeeps s.standing (execHbmRequest port addr write data s) := by
  unfold execHbmRequest
  split <;> simp
@[simp] theorem standing_hbmErr (port a n err s) : (hbmErr port a n err s).standing = s.standing := by
  unfold hbmErr
  split <;> simp
@[simp] theorem standing_hbmGo (port r err s) : (hbmGo port r err s).standing = s.standing := by
  simp only [hbmGo]
  (repeat' split) <;> simp
@[simp] theorem standing_fenceStep (port s) : (fenceStep port s).standing = s.standing := by simp [fenceStep]
@[simp] theorem keeps_execHbmRequestComplete (port err s) : OutcomeKeeps s.standing (execHbmRequestComplete port err s) := by
  simp only [execHbmRequestComplete]
  (repeat' split) <;> simp
@[simp] theorem keeps_execRequestLate (port s) : OutcomeKeeps s.standing (execRequestLate port s) := by
  simp only [execRequestLate]
  (repeat' split) <;> simp
@[simp] theorem standing_fenceBody (s) : (fenceBody s).2.standing = s.standing := by simp [fenceBody]
@[simp] theorem keeps_fenceCmd (v s) (hσ : s.standing = σ) : (fenceCmd v s).Keeps σ := by simp [fenceCmd, hσ]
@[simp] theorem keeps_execHbmFence (req s) : OutcomeKeeps s.standing (execHbmFence req s) := by simp [execHbmFence]
@[simp] theorem standing_setRefOwed (pc n s) : (setRefOwed pc n s).standing = s.standing := by rfl
@[simp] theorem keeps_execRefreshDue (pc s) : OutcomeKeeps s.standing (execRefreshDue pc s) := by simp [execRefreshDue]
@[simp] theorem keeps_execRefreshViolation (pc s) : OutcomeKeeps s.standing (execRefreshViolation pc s) := by simp [execRefreshViolation]
@[simp] theorem standing_catchUp (st s) : (catchUp st s).standing = s.standing := by simp [catchUp]
@[simp] theorem keeps_execHbmTempRead (stack temp s) : OutcomeKeeps s.standing (execHbmTempRead stack temp s) := by simp [execHbmTempRead]
@[simp] theorem keeps_execHbmTempFault (stack s) : OutcomeKeeps s.standing (execHbmTempFault stack s) := by simp [execHbmTempFault]
@[simp] theorem standing_scrubSpan (from_ upto s) : (scrubSpan from_ upto s).standing = s.standing := by simp [scrubSpan]
@[simp] theorem keeps_execHbmScrubPass (addr err s) : OutcomeKeeps s.standing (execHbmScrubPass addr err s) := by
  unfold execHbmScrubPass
  (repeat' split) <;> simp
@[simp] theorem keeps_hbmCfgWrite (v mask s) (hσ : s.standing = σ) : (hbmCfgWrite v mask s).Keeps σ := by simp [hbmCfgWrite, hσ]
@[simp] theorem keeps_fcCtrlWrite (req v mask s) (hσ : s.standing = σ) : (fcCtrlWrite req v mask s).Keeps σ := by
  unfold fcCtrlWrite
  split <;> simp [hσ]
@[simp] theorem keeps_hbmWrite (req off v mask s) (hσ : s.standing = σ) : (hbmWrite req off v mask s).Keeps σ := by simp [hbmWrite, hσ]
@[simp] theorem keeps_hbmWrite64 (req off v s) (hσ : s.standing = σ) : (hbmWrite64 req off v s).Keeps σ := by simp [hbmWrite64, hσ]

/-! ### Machine/Time -/

@[simp] theorem standing_updTime (f s) : (updTime f s).standing = s.standing := by rfl
@[simp] theorem standing_setFrac (v s) : (setFrac v s).standing = s.standing := by rfl
@[simp] theorem standing_stepTo (old new s) : (stepTo old new s).standing = s.standing := by simp [stepTo]
@[simp] theorem standing_applyJump (j s) : (applyJump j s).standing = s.standing := by simp [applyJump]
@[simp] theorem standing_timeBody (code req s) : (timeBody code req s).2.standing = s.standing := by
  unfold timeBody
  (repeat' split) <;> simp
@[simp] theorem keeps_timeCmd (req v s) (hσ : s.standing = σ) : (timeCmd req v s).Keeps σ := by simp [timeCmd, hσ]
@[simp] theorem standing_timeRow (code req s) : (timeRow code req s).standing = s.standing := by simp [timeRow]
@[simp] theorem keeps_adjWrite (v s) (hσ : s.standing = σ) : (adjWrite v s).Keeps σ := by simp [adjWrite, hσ]
@[simp] theorem keeps_execTimeAdjWrite (req value s) :
    OutcomeKeeps s.standing (execTimeAdjWrite req value s) := by simp [execTimeAdjWrite]
@[simp] theorem keeps_execPpsInEdge (s) : OutcomeKeeps s.standing (execPpsInEdge s) := by
  simp only [execPpsInEdge]
  (repeat' split) <;> simp
@[simp] theorem keeps_execPpsOutRise (s) : OutcomeKeeps s.standing (execPpsOutRise s) := by simp [execPpsOutRise]
@[simp] theorem keeps_execPpsOutFall (s) : OutcomeKeeps s.standing (execPpsOutFall s) := by simp [execPpsOutFall]
@[simp] theorem keeps_ppsCtrlWrite (v mask s) (hσ : s.standing = σ) : (ppsCtrlWrite v mask s).Keeps σ := by simp [ppsCtrlWrite, hσ]
@[simp] theorem keeps_timeWrite (req off v mask s) (hσ : s.standing = σ) : (timeWrite req off v mask s).Keeps σ := by simp [timeWrite, hσ]

/-! ### Machine/Host -/

@[simp] theorem standing_freeHost (cells owner s) : (freeHost cells owner s).standing = s.standing := by
  unfold freeHost
  split <;> simp
@[simp] theorem standing_squashXfers (i s) : (squashXfers i s).standing = s.standing := by simp [squashXfers]
@[simp] theorem standing_dmaError (i s) : (dmaError i s).standing = s.standing := by simp [dmaError]
@[simp] theorem standing_doorbell (i ring tail s) : (doorbell i ring tail s).standing = s.standing := by simp [doorbell]
@[simp] theorem keeps_execEvtDb (inst s) : OutcomeKeeps s.standing (execEvtDb inst s) := by simp [execEvtDb]
@[simp] theorem standing_addXfer (i x s) : (addXfer i x s).standing = s.standing := by rfl
@[simp] theorem standing_startTx (i x s) : (startTx i x s).standing = s.standing := by
  unfold startTx
  simp only []
  split <;> rename_i h <;> simp [standing_of_snd h]
@[simp] theorem standing_shareSpills (i ring s) : (shareSpills i ring s).standing = s.standing := by simp [shareSpills]
@[simp] theorem standing_fetchGo (i ring ds s) : (fetchGo i ring ds s).standing = s.standing := by
  unfold fetchGo
  split <;> simp
@[simp] theorem keeps_execDescriptorFetch (inst ring descs s) :
    OutcomeKeeps s.standing (execDescriptorFetch inst ring descs s) := by simp [execDescriptorFetch]
@[simp] theorem keeps_execTxRetry (inst ring s) : OutcomeKeeps s.standing (execTxRetry inst ring s) := by
  simp only [execTxRetry]
  (repeat' split) <;> simp
@[simp] theorem standing_finishTx (i x s) : (finishTx i x s).standing = s.standing := by simp [finishTx]
@[simp] theorem keeps_execHostReadCompletion (inst ring data err s) :
    OutcomeKeeps s.standing (execHostReadCompletion inst ring data err s) := by
  simp only [execHostReadCompletion]
  (repeat' split) <;> simp
@[simp] theorem keeps_execCompletionTimeout (inst s) :
    OutcomeKeeps s.standing (execCompletionTimeout inst s) := by simp [execCompletionTimeout]
@[simp] theorem standing_rxEntryGo (i ring c b bad d s e) : (rxEntryGo i ring c b bad d s e).standing = s.standing := by simp [rxEntryGo]
@[simp] theorem standing_rxGo (i q c rest entries s) : (rxGo i q c rest entries s).standing = s.standing := by
  simp only [rxGo]
  (repeat' split) <;> simp
@[simp] theorem keeps_execRxDelivery (inst queue entries s) : OutcomeKeeps s.standing (execRxDelivery inst queue entries s) := by
  simp only [execRxDelivery]
  (repeat' split) <;> simp
@[simp] theorem keeps_execMsixMessage (inst ring s) : OutcomeKeeps s.standing (execMsixMessage inst ring s) := by simp [execMsixMessage]
@[simp] theorem standing_medFilter (keep s) : (medFilter keep s).standing = s.standing := by simp [medFilter]
@[simp] theorem standing_resetBegin (i s) : (resetBegin i s).standing = s.standing := by simp [resetBegin]
@[simp] theorem standing_resetFinish (i st s) : (resetFinish i st s).standing = s.standing := by rfl
@[simp] theorem standing_resetNow (st code i s) : (resetNow st code i s).standing = s.standing := by simp [resetNow]
@[simp] theorem standing_startReset (i byCmd s) : (startReset i byCmd s).standing = s.standing := by simp [startReset]
@[simp] theorem standing_instCmdBody (i req s) : (instCmdBody i req s).2.standing = s.standing := by simp [instCmdBody]
@[simp] theorem keeps_instCmd (i req v s) (hσ : s.standing = σ) : (instCmd i req v s).Keeps σ := by simp [instCmd, hσ]
@[simp] theorem keeps_execInstDrainTimeout (inst s) :
    OutcomeKeeps s.standing (execInstDrainTimeout inst s) := by simp [execInstDrainTimeout]
@[simp] theorem keeps_execInstResetComplete (inst s) :
    OutcomeKeeps s.standing (execInstResetComplete inst s) := by simp [execInstResetComplete]
@[simp] theorem keeps_judged (l s) (hσ : s.standing = σ) : (judged l s).Keeps σ := by
  unfold judged
  split <;> simp [hσ]
@[simp] theorem keeps_instEn (i req en s) (hσ : s.standing = σ) : (instEn i req en s).Keeps σ := by simp [instEn, hσ]
@[simp] theorem keeps_execInstEnable (req inst en s) : OutcomeKeeps s.standing (execInstEnable req inst en s) := by simp [execInstEnable]
@[simp] theorem keeps_shareWrite (i v s) (hσ : s.standing = σ) : (shareWrite i v s).Keeps σ := by simp [shareWrite, hσ]
@[simp] theorem keeps_execInstShareWrite (req inst value s) :
    OutcomeKeeps s.standing (execInstShareWrite req inst value s) := by simp [execInstShareWrite]
@[simp] theorem keeps_ringCfgWrite (i ring v mask s) (hσ : s.standing = σ) :
    (ringCfgWrite i ring v mask s).Keeps σ := by simp [ringCfgWrite, hσ]
@[simp] theorem keeps_instGo (i req off v mask s) (hσ : s.standing = σ) : (instGo i req off v mask s).Keeps σ := by simp [instGo, hσ]
@[simp] theorem keeps_instGo64 (i off v s) (hσ : s.standing = σ) : (instGo64 i off v s).Keeps σ := by simp [instGo64, hσ]
@[simp] theorem keeps_mediate (i req off wide v h s) (hh : (h s).Keeps σ) (hσ : s.standing = σ) :
    (mediate i req off wide v h s).Keeps σ := by
  unfold mediate
  split <;> simp [hh, hσ]
@[simp] theorem keeps_instWrite (i req off v mask s) (hσ : s.standing = σ) :
    (instWrite i req off v mask s).Keeps σ := by simp [instWrite, hσ]
@[simp] theorem keeps_instWrite64 (i req off v s) (hσ : s.standing = σ) : (instWrite64 i req off v s).Keeps σ := by simp [instWrite64, hσ]
@[simp] theorem keeps_execInstReset (req inst s) : OutcomeKeeps s.standing (execInstReset req inst s) := by simp [execInstReset]
@[simp] theorem standing_medPop (r s) : (medPop r s).standing = s.standing := by simp [medPop]
@[simp] theorem standing_medLast (r st s) : (medLast r st s).standing = s.standing := by rfl
@[simp] theorem standing_applyBody (s) : (applyBody s).2.standing = s.standing := by
  unfold applyBody
  (repeat' split) <;> simp
@[simp] theorem standing_rejectBody (s) : (rejectBody s).2.standing = s.standing := by
  unfold rejectBody
  split <;> simp
@[simp] theorem keeps_medCmd (v s) (hσ : s.standing = σ) : (medCmd v s).Keeps σ := by
  unfold medCmd
  split <;> simp [hσ]
@[simp] theorem keeps_execApply (req s) : OutcomeKeeps s.standing (execApply req s) := by simp [execApply]
@[simp] theorem keeps_execReject (req s) : OutcomeKeeps s.standing (execReject req s) := by simp [execReject]
@[simp] theorem standing_syncBody (s) : (syncBody s).2.standing = s.standing := by rfl
@[simp] theorem standing_dirtyRestartBody (s) : (dirtyRestartBody s).2.standing = s.standing := by rfl
@[simp] theorem keeps_dirtyCmd (v s) (hσ : s.standing = σ) : (dirtyCmd v s).Keeps σ := by
  unfold dirtyCmd
  split <;> simp [hσ]
@[simp] theorem keeps_execSync (req s) : OutcomeKeeps s.standing (execSync req s) := by simp [execSync]
@[simp] theorem keeps_execDirtyRestart (req s) : OutcomeKeeps s.standing (execDirtyRestart req s) := by simp [execDirtyRestart]
@[simp] theorem keeps_iovWrite (req off v mask s) (hσ : s.standing = σ) : (iovWrite req off v mask s).Keeps σ := by simp [iovWrite, hσ]
@[simp] theorem standing_xferBody (act s) (hact : ∀ a u, (act a u).2.standing = u.standing) :
    (xferBody act s).2.standing = s.standing := by
  unfold xferBody
  simp only [standing_snd_ite]
  split
  · simp
  · split <;> simp [hact]
@[simp] theorem standing_toHbmBody (data s) : (toHbmBody data s).2.standing = s.standing := by simp [toHbmBody]
@[simp] theorem standing_fromHbmBody (s) : (fromHbmBody s).2.standing = s.standing := by simp [fromHbmBody]
@[simp] theorem keeps_xferWrite (req body s) (hbody : ∀ s, (body s).2.standing = s.standing) (hσ : s.standing = σ) :
    (xferWrite req body s).Keeps σ := by simp [xferWrite, hbody, hσ]
@[simp] theorem keeps_execToHbm (req data s) : OutcomeKeeps s.standing (execToHbm req data s) := by simp [execToHbm]
@[simp] theorem keeps_execFromHbm (req s) : OutcomeKeeps s.standing (execFromHbm req s) := by simp [execFromHbm]
@[simp] theorem standing_freeBytes (n s) : (freeBytes n s).2.standing = s.standing := by rfl
@[simp] theorem keeps_xferCmd (req v s) (hσ : s.standing = σ) : (xferCmd req v s).Keeps σ := by
  unfold xferCmd
  split <;> simp [hσ]
@[simp] theorem keeps_hostPageWrite (req off v mask s) (hσ : s.standing = σ) :
    (hostPageWrite req off v mask s).Keeps σ := by simp [hostPageWrite, hσ]
@[simp] theorem standing_freezeInst (s i) : (freezeInst s i).standing = s.standing := by
  unfold freezeInst
  split <;> simp
@[simp] theorem standing_linkDown (s) : (linkDown s).standing = s.standing := by simp [linkDown]
@[simp] theorem standing_hostReset (s) : (hostReset s).standing = s.standing := by simp [hostReset]
@[simp] theorem keeps_execPcieLinkDown (s) : OutcomeKeeps s.standing (execPcieLinkDown s) := by simp [execPcieLinkDown]
@[simp] theorem keeps_execPcieLinkUp (s) : OutcomeKeeps s.standing (execPcieLinkUp s) := by simp [execPcieLinkUp]
@[simp] theorem keeps_execFunctionLevelReset (s) : OutcomeKeeps s.standing (execFunctionLevelReset s) := by simp [execFunctionLevelReset]

end Sys2Proof.Machine
end

section
/-! SUPPORT. The standing through the safety controller, the life cycle, pins, parked instructions, the debugger and the log. -/
namespace Sys2Proof.Machine
open Sys2Proof

variable {σ : Standing}

/-! ### Machine/SafetyCtl -/

@[simp] theorem standing_overrun (g cycle s) : (overrun g cycle s).standing = s.standing := by simp [overrun]
@[simp] theorem standing_deviceReaction (kind s) : (deviceReaction kind s).standing = s.standing := by
  unfold deviceReaction
  (repeat' split) <;> simp
@[simp] theorem standing_react (r cls s) : (react r cls s).standing = s.standing := by
  simp only [react]
  (repeat' split) <;> simp
@[simp] theorem standing_injDone (r s) : (injDone r s).standing = s.standing := by
  unfold injDone
  split <;> simp
@[simp] theorem standing_queueRec (r cls s) : (queueRec r cls s).standing = s.standing := by simp [queueRec]
@[simp] theorem standing_notifyPiste (r cls s) : (notifyPiste r cls s).standing = s.standing := by simp [notifyPiste]
@[simp] theorem keeps_execSafetyRecord (s) : OutcomeKeeps s.standing (execSafetyRecord s) := by
  unfold execSafetyRecord
  split <;> simp
@[simp] theorem keeps_safePop (s) (hσ : s.standing = σ) : (safePop s).Keeps σ := by simp [safePop, hσ]
@[simp] theorem keeps_execSafeRecPop (req s) : OutcomeKeeps s.standing (execSafeRecPop req s) := by simp [execSafeRecPop]
@[simp] theorem keeps_execScCompare (differ s) : OutcomeKeeps s.standing (execScCompare differ s) := by simp [execScCompare]
@[simp] theorem keeps_execClockWindow (clk count s) : OutcomeKeeps s.standing (execClockWindow clk count s) := by simp [execClockWindow]
@[simp] theorem keeps_execVoltageDeparture (rail high s) :
    OutcomeKeeps s.standing (execVoltageDeparture rail high s) := by simp [execVoltageDeparture]
@[simp] theorem keeps_execDieTempRead (sensor temp s) :
    OutcomeKeeps s.standing (execDieTempRead sensor temp s) := by simp [execDieTempRead]
@[simp] theorem keeps_execThermtrip (s) : OutcomeKeeps s.standing (execThermtrip s) := by simp [execThermtrip]
@[simp] theorem keeps_execXchkSelfcheck (pair outcome s) :
    OutcomeKeeps s.standing (execXchkSelfcheck pair outcome s) := by simp [execXchkSelfcheck]
@[simp] theorem standing_wdExpire (forced n reason s) : (wdExpire forced n reason s).standing = s.standing := by rfl
@[simp] theorem standing_wdKick (n v s) : (wdKick n v s).standing = s.standing := by simp [wdKick]
@[simp] theorem keeps_pstKick (p req v s) (hσ : s.standing = σ) : (pstKick p req v s).Keeps σ := by
  unfold pstKick
  split <;> simp [hσ]
@[simp] theorem keeps_execPstWdKick (req piste value s) :
    OutcomeKeeps s.standing (execPstWdKick req piste value s) := by simp [execPstWdKick]
@[simp] theorem keeps_telKick (n req v s) (hσ : s.standing = σ) : (telKick n req v s).Keeps σ := by
  unfold telKick
  split <;> simp [hσ]
@[simp] theorem keeps_execSafeWdKickTel (req n value s) :
    OutcomeKeeps s.standing (execSafeWdKickTel req n value s) := by simp [execSafeWdKickTel]
@[simp] theorem keeps_execWatchdogExpiry (wd s) : OutcomeKeeps s.standing (execWatchdogExpiry wd s) := by simp [execWatchdogExpiry]
@[simp] theorem keeps_execSafeInSample (a b s) : OutcomeKeeps s.standing (execSafeInSample a b s) := by simp [execSafeInSample]
@[simp] theorem keeps_execSafeInDisc (s) : OutcomeKeeps s.standing (execSafeInDisc s) := by simp [execSafeInDisc]
@[simp] theorem keeps_execPennantEdge (s) : OutcomeKeeps s.standing (execPennantEdge s) := by simp [execPennantEdge]
@[simp] theorem standing_setTest (p x s) : (setTest p x s).standing = s.standing := by rfl
@[simp] theorem standing_onlineThr (s t) : (onlineThr s t).standing = s.standing := by simp [onlineThr]
@[simp] theorem standing_nextCore (p skips s) : (nextCore p skips s).standing = s.standing := by simp [nextCore]
@[simp] theorem keeps_execStSlotStart (piste s) : OutcomeKeeps s.standing (execStSlotStart piste s) := by simp [execStSlotStart]
@[simp] theorem keeps_execStCoreOffline (piste s) : OutcomeKeeps s.standing (execStCoreOffline piste s) := by simp [execStCoreOffline]
@[simp] theorem keeps_execStTestDone (piste ok signature s) :
    OutcomeKeeps s.standing (execStTestDone piste ok signature s) := by simp [execStTestDone]
@[simp] theorem keeps_execStIdleTimeout (piste s) : OutcomeKeeps s.standing (execStIdleTimeout piste s) := by simp [execStIdleTimeout]
@[simp] theorem standing_stopTests (s) : (stopTests s).standing = s.standing := by simp [stopTests]
@[simp] theorem standing_injWait (code s) : (injWait code s).2.standing = s.standing := by rfl
@[simp] theorem standing_injBody (code req s) : (injBody code req s).2.standing = s.standing := by
  unfold injBody
  (repeat' split) <;> simp
@[simp] theorem keeps_injCmd (req v s) (hσ : s.standing = σ) : (injCmd req v s).Keeps σ := by simp [injCmd, hσ]
@[simp] theorem standing_injRow (code req s) : (injRow code req s).standing = s.standing := by simp [injRow]
@[simp] theorem standing_injTimeout (s) : (injTimeout s).standing = s.standing := by simp [injTimeout]
@[simp] theorem keeps_safeWrite (req off v mask s) (hσ : s.standing = σ) : (safeWrite req off v mask s).Keeps σ := by simp [safeWrite, hσ]

/-! ### Machine/Life -/

@[simp] theorem standing_updLife (f s) : (updLife f s).standing = s.standing := by rfl
@[simp] theorem standing_tamper (i s) : (tamper i s).standing = s.standing := by simp [tamper]
@[simp] theorem keeps_execTamperEvent (cause s) : OutcomeKeeps s.standing (execTamperEvent cause s) := by
  unfold execTamperEvent
  (repeat' split) <;> simp
@[simp] theorem keeps_execWipeDone (unit ok s) : OutcomeKeeps s.standing (execWipeDone unit ok s) := by simp [execWipeDone]
@[simp] theorem standing_eraseAll (s) : (eraseAll s).standing = s.standing := by rfl
@[simp] theorem keeps_execZeroizeDone (ok s) : OutcomeKeeps s.standing (execZeroizeDone ok s) := by simp [execZeroizeDone]
@[simp] theorem standing_authorised (tag go s) (hgo : ∀ s, (go s).2.standing = s.standing) :
    (authorised tag go s).2.standing = s.standing := by simp [authorised, hgo]
@[simp] theorem standing_fuse (code slot s) : (fuse code slot s).2.standing = s.standing := by rfl
@[simp] theorem standing_toState (code s) : (toState code s).2.standing = s.standing := by rfl
@[simp] theorem standing_lifeDo (code s) : (lifeDo code s).2.standing = s.standing := by
  unfold lifeDo
  split <;> simp
@[simp] theorem standing_lifeBody (code req s) : (lifeBody code req s).2.standing = s.standing := by simp [lifeBody]
@[simp] theorem standing_lifeRow (code req s) : (lifeRow code req s).standing = s.standing := by simp [lifeRow]
@[simp] theorem standing_reachState (code s) : (reachState code s).standing = s.standing := by simp [reachState]
@[simp] theorem keeps_execFuseProgrammingDone (s) : OutcomeKeeps s.standing (execFuseProgrammingDone s) := by
  unfold execFuseProgrammingDone
  (repeat' split) <;> simp
@[simp] theorem keeps_lifeWrite (req off v mask s) (hσ : s.standing = σ) : (lifeWrite req off v mask s).Keeps σ := by simp [lifeWrite, hσ]

/-! ### Machine/Pins -/

@[simp] theorem standing_refDown (i write s) (hwrite : ∀ s, (write s).standing = s.standing) :
    (refDown i write s).standing = s.standing := by simp [refDown, hwrite]
@[simp] theorem keeps_execRefClockLoss (input s) : OutcomeKeeps s.standing (execRefClockLoss input s) := by simp [execRefClockLoss]
@[simp] theorem keeps_execRefClockReturn (input s) : OutcomeKeeps s.standing (execRefClockReturn input s) := by simp [execRefClockReturn]
@[simp] theorem standing_tap (m s) : (tap m s).standing = s.standing := by simp [tap]
@[simp] theorem standing_pinTap (m s) : (pinTap m s).standing = s.standing := by simp [pinTap]
@[simp] theorem keeps_execIdcode (s) : OutcomeKeeps s.standing (execIdcode s) := by simp [execIdcode]
@[simp] theorem keeps_execSamplePreload (cells s) : OutcomeKeeps s.standing (execSamplePreload cells s) := by simp [execSamplePreload]
@[simp] theorem keeps_clkWrite (req off v mask s) (hσ : s.standing = σ) : (clkWrite req off v mask s).Keeps σ := by simp [clkWrite, hσ]
@[simp] theorem keeps_rstWrite (req off v mask s) (hσ : s.standing = σ) : (rstWrite req off v mask s).Keeps σ := by simp [rstWrite, hσ]

/-! ### Machine/Park -/

@[simp] theorem keeps_parkStatus (t rd err go s) (hgo : (go s).2.standing = σ) (hσ : s.standing = σ) :
    (parkStatus t rd err go s).Keeps σ := by
  simp [parkStatus, hσ, hgo]
@[simp] theorem keeps_parkPacket (t unit err go s) (hgo : ∀ k u, u.standing = σ → (go k u).Keeps σ) (hσ : s.standing = σ) :
    (parkPacket t unit err go s).Keeps σ := by
  unfold parkPacket
  split <;> simp [hσ, hgo]
@[simp] theorem keeps_parkCtx (t err gone go s) (hgone : ∀ u, u.standing = σ → (gone u).Keeps σ)
    (hgo : ∀ p k u, u.standing = σ → (go p k u).Keeps σ) (hσ : s.standing = σ) : (parkCtx t err gone go s).Keeps σ := by
  unfold parkCtx
  split <;> simp [hσ, hgone, hgo]
@[simp] theorem keeps_parkBody (t err op s) (hσ : s.standing = σ) : (parkBody t err op s).Keeps σ := by
  unfold parkBody
  split <;> simp [hσ]
@[simp] theorem standing_parkLate (t w rd acc ea n g s) : (parkLate t w rd acc ea n g s).standing = s.standing := by rfl
@[simp] theorem standing_parkRun (t w s) : (parkRun t w s).standing = s.standing := by simp [parkRun]
@[simp] theorem standing_parkEnd (t w rd b s) (hb : b.Keeps s.standing) : (parkEnd t w rd b s).standing = s.standing := by
  unfold parkEnd
  cases b <;> simp_all
@[simp] theorem standing_resumeThr (t s) : (resumeThr t s).standing = s.standing := by
  simp only [resumeThr]
  (repeat' split) <;> simp

/-! ### Machine/Debug -/

@[simp] theorem standing_dbgJudge (code mode req go s) (hgo : ∀ s, (go s).2.standing = s.standing) :
    (dbgJudge code mode req go s).2.standing = s.standing := by simp [dbgJudge, hgo]
@[simp] theorem standing_dbgOn (valid other act s) (hact : ∀ x s, (act x s).standing = s.standing) :
    (dbgOn valid other act s).2.standing = s.standing := by simp [dbgOn, hact]
@[simp] theorem standing_haltBody (s) : (haltBody s).2.standing = s.standing := by simp [haltBody]
@[simp] theorem standing_dbgResumeBody (s) : (dbgResumeBody s).2.standing = s.standing := by simp [dbgResumeBody]
@[simp] theorem standing_stepThr (t s) : (stepThr t s).standing = s.standing := by simp [stepThr]
@[simp] theorem standing_stepBody (s) : (stepBody s).2.standing = s.standing := by simp [stepBody]
@[simp] theorem standing_abandonBody (s) : (abandonBody s).2.standing = s.standing := by simp [abandonBody]
@[simp] theorem standing_traceSet (run s) : (traceSet run s).2.standing = s.standing := by rfl
@[simp] theorem standing_dbgBody (code req s) : (dbgBody code req s).2.standing = s.standing := by
  unfold dbgBody
  split <;> simp
@[simp] theorem standing_dbgRow (code req s) : (dbgRow code req s).standing = s.standing := by simp [dbgRow]
@[simp] theorem keeps_execStepTimeout (t s) : OutcomeKeeps s.standing (execStepTimeout t s) := by simp [execStepTimeout]
@[simp] theorem standing_endSteps (s) : (endSteps s).standing = s.standing := by simp [endSteps]
@[simp] theorem standing_forcedResume (s) : (forcedResume s).standing = s.standing := by simp [forcedResume]
@[simp] theorem standing_stopTraces (s) : (stopTraces s).standing = s.standing := by simp [stopTraces]
@[simp] theorem keeps_dbgOpenWrite (go s) (hgo : (go s).Keeps σ) : (dbgOpenWrite go s).Keeps σ := by
  simp [dbgOpenWrite, hgo]
@[simp] theorem keeps_dbgCtxWrite (off v s) (hσ : s.standing = σ) : (dbgCtxWrite off v s).Keeps σ := by simp [dbgCtxWrite, hσ]
@[simp] theorem keeps_dbgWrite (req off v mask s) (hσ : s.standing = σ) : (dbgWrite req off v mask s).Keeps σ := by simp [dbgWrite, hσ]
@[simp] theorem keeps_dbgWrite64 (req off v s) (hσ : s.standing = σ) : (dbgWrite64 req off v s).Keeps σ := by simp [dbgWrite64, hσ]

/-! ### Machine/Log -/

@[simp] theorem keeps_logRdWrite (v s) (hσ : s.standing = σ) : (logRdWrite v s).Keeps σ := by simp [logRdWrite, hσ]
@[simp] theorem keeps_execLogRdWrite (req value s) : OutcomeKeeps s.standing (execLogRdWrite req value s) := by simp [execLogRdWrite]
@[simp] theorem standing_appendBody (req s) : (appendBody req s).2.standing = s.standing := by simp [appendBody]
@[simp] theorem keeps_execAppend (req s) : OutcomeKeeps s.standing (execAppend req s) := by simp [execAppend]
@[simp] theorem standing_putWords (page off b s) : (putWords page off b s).standing = s.standing := by simp [putWords]
@[simp] theorem standing_histReadBody (s) : (histReadBody s).2.standing = s.standing := by
  unfold histReadBody
  extract_lets
  split
  · simp
  · split <;> simp
@[simp] theorem keeps_execHistRead (req s) : OutcomeKeeps s.standing (execHistRead req s) := by simp [execHistRead]
@[simp] theorem keeps_buntCfgWrite (v mask s) (hσ : s.standing = σ) : (buntCfgWrite v mask s).Keeps σ := by simp [buntCfgWrite, hσ]
@[simp] theorem keeps_histCfgWrite (v mask s) (hσ : s.standing = σ) : (histCfgWrite v mask s).Keeps σ := by simp [histCfgWrite, hσ]
@[simp] theorem keeps_unlessOn (cfg ok off v mask s) (hσ : s.standing = σ) :
    (unlessOn cfg ok off v mask s).Keeps σ := by simp [unlessOn, hσ]
@[simp] theorem keeps_logWrite (req off v mask s) (hσ : s.standing = σ) : (logWrite req off v mask s).Keeps σ := by
  simp [logWrite, hσ, apply_ite (fun f : State → Option Status × State => (f s).2.standing)]
@[simp] theorem keeps_logWrite64 (req off v s) (hσ : s.standing = σ) : (logWrite64 req off v s).Keeps σ := by simp [logWrite64, hσ]

end Sys2Proof.Machine
end

section
/-! SUPPORT. The standing through the register fabric, the parts of a transition and of a start that do not touch it, and a tick. -/
namespace Sys2Proof.Machine
open Sys2Proof

variable {σ : Standing}

/-! ### Machine/Fabric -/

@[simp] theorem keeps_kindWrite64 (k req page off v s) (hσ : s.standing = σ) : (kindWrite64 k req page off v s).Keeps σ := by
  unfold kindWrite64
  (repeat' split) <;> simp [hσ]
@[simp] theorem standing_readEffect (page off s) : (readEffect page off s).standing = s.standing := by
  unfold readEffect
  (repeat' split) <;> simp
@[simp] theorem standing_updFabric (f s) : (updFabric f s).standing = s.standing := by rfl
@[simp] theorem standing_latchHigh (n tag v s) : (latchHigh n tag v s).standing = s.standing := by rfl
@[simp] theorem standing_latchTime (n pps s) : (latchTime n pps s).standing = s.standing := by rfl
@[simp] theorem standing_latchedRead (n page off s) : (latchedRead n page off s).2.standing = s.standing := by
  unfold latchedRead
  (repeat' split) <;> simp
@[simp] theorem standing_busRead (req page off s) : (busRead req page off s).2.standing = s.standing := by simp [busRead]
@[simp] theorem standing_readRow (req page off ok s) : (readRow req page off ok s).standing = s.standing := by
  unfold readRow
  (repeat' split) <;> simp
@[simp] theorem standing_blockReset (k s) : (blockReset k s).standing = s.standing := by
  unfold blockReset
  split <;> simp
@[simp] theorem standing_clearCounters (k page s) : (clearCounters k page s).standing = s.standing := by
  unfold clearCounters
  split <;> simp
@[simp] theorem standing_pageReset (k page s) : (pageReset k page s).standing = s.standing := by simp [pageReset]
@[simp] theorem keeps_softResetGo (k req page s) (hσ : s.standing = σ) : (softResetGo k req page s).Keeps σ := by
  unfold softResetGo
  (repeat' split) <;> simp [hσ]
@[simp] theorem keeps_ctrlBits (k req page v s) (hσ : s.standing = σ) : (ctrlBits k req page v s).Keeps σ := by
  unfold ctrlBits
  split
  · next i => have h := keeps_instEn i req (bit v 0) s hσ; split <;> simp_all
  · simp [hσ]
@[simp] theorem keeps_pageCtrlWrite (k req page v s) (hσ : s.standing = σ) :
    (pageCtrlWrite k req page v s).Keeps σ := by simp [pageCtrlWrite, hσ]
@[simp] theorem standing_intEnableWrite (page v s) : (intEnableWrite page v s).standing = s.standing := by simp [intEnableWrite]
@[simp] theorem standing_intStatusWrite (k page v s) : (intStatusWrite k page v s).standing = s.standing := by simp [intStatusWrite]
@[simp] theorem keeps_headerWrite (k req page off v s) (hσ : s.standing = σ) : (headerWrite k req page off v s).Keeps σ := by
  unfold headerWrite
  (repeat' split) <;> simp [hσ]
@[simp] theorem standing_unstage (n s) : (unstage n s).standing = s.standing := by rfl
@[simp] theorem standing_stageLow (req page lo v s) : (stageLow req page lo v s).standing = s.standing := by rfl
@[simp] theorem standing_commit64 (k req d page lo v s) : (commit64 k req d page lo v s).1.standing = s.standing := by simp [commit64]
@[simp] theorem keeps_execSoftResetDone (page s) : OutcomeKeeps s.standing (execSoftResetDone page s) := by simp [execSoftResetDone]
@[simp] theorem standing_keyUe (unit slot page s) : (keyUe unit slot page s).standing = s.standing := by simp [keyUe]
@[simp] theorem standing_leaveError (page source addr ue s) : (leaveError page source addr ue s).standing = s.standing := by
  unfold leaveError
  split <;> simp
@[simp] theorem keeps_execMemoryError (page source addr syndrome ue s) :
    OutcomeKeeps s.standing (execMemoryError page source addr syndrome ue s) := by simp [execMemoryError]
@[simp] theorem standing_checkPass (page s) : (checkPass page s).standing = s.standing := by rfl
@[simp] theorem keeps_execCfgCheckPass (page s) : OutcomeKeeps s.standing (execCfgCheckPass page s) := by simp [execCfgCheckPass]
@[simp] theorem standing_cfgDiffers (page s) : (cfgDiffers page s).standing = s.standing := by simp [cfgDiffers]
@[simp] theorem standing_comparePage (page s) : (comparePage page s).standing = s.standing := by simp [comparePage]
@[simp] theorem keeps_execCfgCompare (s) : OutcomeKeeps s.standing (execCfgCompare s) := by simp [execCfgCompare]
@[simp] theorem keeps_execGoldenGraceExpiry (page s) :
    OutcomeKeeps s.standing (execGoldenGraceExpiry page s) := by simp [execGoldenGraceExpiry]
@[simp] theorem keeps_execSmbusBlockWrite (b0 b1 b2 s) :
    OutcomeKeeps s.standing (execSmbusBlockWrite b0 b1 b2 s) := by simp [execSmbusBlockWrite]
@[simp] theorem keeps_execSmbusBlockRead (s) : OutcomeKeeps s.standing (execSmbusBlockRead s) := by simp [execSmbusBlockRead]
@[simp] theorem standing_readDwords (page off n s) : (readDwords page off n s).2.standing = s.standing := by
  induction n generalizing off s with
  | zero => rfl
  | succ n ih => simp [readDwords, ih]
@[simp] theorem standing_buntEntries (l s) : (buntEntries l s).2.standing = s.standing := by
  induction l generalizing s with
  | nil => rfl
  | cons j l ih => simp [buntEntries, ih]
@[simp] theorem standing_buntSend (cfg seq b s) : (buntSend cfg seq b s).standing = s.standing := by
  unfold buntSend
  split <;> rename_i h <;> simp [standing_of_snd h]
@[simp] theorem keeps_execBuntingSample (s) : OutcomeKeeps s.standing (execBuntingSample s) := by simp [execBuntingSample]
@[simp] theorem keeps_execDeadlockDeclaration (piste s) :
    OutcomeKeeps s.standing (execDeadlockDeclaration piste s) := by simp [execDeadlockDeclaration]
@[simp] theorem keeps_execHangDeclaration (piste s) :
    OutcomeKeeps s.standing (execHangDeclaration piste s) := by simp [execHangDeclaration]

/-! ### Machine/Transition -/

@[simp] theorem standing_graphsAt (old target s) : (graphsAt old target s).standing = s.standing := by
  unfold graphsAt
  split <;> simp
@[simp] theorem standing_stopThreads (s) : (stopThreads s).standing = s.standing := by rfl
@[simp] theorem standing_zeroizeAt (cause s) : (zeroizeAt cause s).standing = s.standing := by simp [zeroizeAt]
@[simp] theorem standing_takeLosses (s) : (takeLosses s).standing = s.standing := by simp [takeLosses]

/-! ### Machine/Boot -/

@[simp] theorem standing_updBoot (f s) : (updBoot f s).standing = s.standing := by rfl
@[simp] theorem standing_defaultCells (s r) : (defaultCells s r).standing = s.standing := by rfl
@[simp] theorem standing_factoryDefaults (s) : (factoryDefaults s).standing = s.standing := by simp [factoryDefaults]
@[simp] theorem standing_slotResult (slot code s) : (slotResult slot code s).standing = s.standing := by simp [slotResult]
@[simp] theorem standing_resetTouched (s) : (resetTouched s).standing = s.standing := by
  unfold resetTouched
  exact foldl_standing fun s x => by split <;> simp
@[simp] theorem standing_completeFuses (s) : (completeFuses s).standing = s.standing := by simp [completeFuses]
@[simp] theorem standing_readState (s) : (readState s).standing = s.standing := by rfl
@[simp] theorem standing_lockPll (s) : (lockPll s).standing = s.standing := by simp [lockPll]
@[simp] theorem standing_startTel (s) : (startTel s).standing = s.standing := by simp [startTel]
@[simp] theorem standing_keptFails (s) : (keptFails s).standing = s.standing := by simp [keptFails]
@[simp] theorem standing_firstStage (s) : (firstStage s).standing = s.standing := by rfl
@[simp] theorem standing_releasePins (s) : (releasePins s).standing = s.standing := by
  unfold releasePins
  split <;> simp
@[simp] theorem standing_zeroMemories (s) : (zeroMemories s).standing = s.standing := by rfl
@[simp] theorem standing_recordDone (i s) : (recordDone i s).standing = s.standing := by rfl
@[simp] theorem standing_touch (page s) : (touch page s).standing = s.standing := by rfl
@[simp] theorem standing_lifeReferences (s) : (lifeReferences s).standing = s.standing := by simp [lifeReferences]
@[simp] theorem standing_clearHbm (addr n s) : (clearHbm addr n s).standing = s.standing := by
  unfold clearHbm
  split <;> simp
@[simp] theorem standing_clearAreas (s) : (clearAreas s).standing = s.standing := by simp [clearAreas]
@[simp] theorem standing_bootMigrates (s) : (bootMigrates s).standing = s.standing := by simp [bootMigrates]
@[simp] theorem standing_startSupervisors (s) : (startSupervisors s).standing = s.standing := by simp [startSupervisors]
@[simp] theorem standing_imageLoaded (s) : (imageLoaded s).standing = s.standing := by simp [imageLoaded]

/-! ### Machine/Tick -/

@[simp] theorem standing_tickTimers (s) : (tickTimers s).standing = s.standing := by simp [tickTimers]
@[simp] theorem standing_tickBase (s) : (tickBase s).standing = s.standing := by
  simp only [tickBase]
  (repeat' split) <;> simp
@[simp] theorem standing_tickTemp (s) : (tickTemp s).standing = s.standing := by
  unfold tickTemp
  (repeat' split) <;> simp
@[simp] theorem standing_tickDeadlock (s) : (tickDeadlock s).standing = s.standing := by simp [tickDeadlock]
@[simp] theorem standing_tickReset (s) : (tickReset s).standing = s.standing := by simp [tickReset]
@[simp] theorem standing_tickLive (s) : (tickLive s).standing = s.standing := by simp [tickLive]
@[simp] theorem standing_tick (s) : (tick s).standing = s.standing := by simp [tick]

end Sys2Proof.Machine
end
section
/-! SUPPORT. The operations that move the standing: the resets, the transition instant, the start of the device, and the writes and records
that reach them. A standing leads to another where the device stays down once it is down, and where, as long as it is up, an entry to
SAFE-STATE sets the latch and nothing clears it: a preorder, so that it passes through whatever an operation is made of. -/
namespace Sys2Proof.Machine
open Sys2Proof

/-- The device is without power or in RESET. -/
def Standing.Down (σ : Standing) : Prop := σ.powered = false ∨ σ.inReset = true

/-- The device is up, in SAFE-STATE. -/
def Standing.InSafe (σ : Standing) : Prop := ¬ σ.Down ∧ σ.mode = .safeState

/-- SS_LATCH through a piece of a step (R69): an entry to SAFE-STATE leaves it set, and it stays set. -/
def Standing.Latches (σ τ : Standing) : Prop :=
  (τ.InSafe → σ.InSafe ∨ τ.latch = true) ∧ (σ.latch = true → τ.latch = true)

/-- What a step does to the standing: the device stays what it is, and the latch is kept, unless the device ends down. -/
structure Standing.StepsTo (σ τ : Standing) : Prop where
  part : τ.part = σ.part
  stepping : τ.stepping = σ.stepping
  latches : τ.Down ∨ σ.Latches τ

/-- What every piece of a step does to the standing, but power-up and the entry to BOOT: a device that is down stays so. -/
structure Standing.LeadsTo (σ τ : Standing) : Prop extends σ.StepsTo τ where
  down : σ.Down → τ.Down

/-- The standing at an entry to RESET. -/
def Standing.reset (σ : Standing) : Standing :=
  { σ with powered := true, inReset := true, mode := .boot, latch := false }
/-- The standing at an entry to a mode. -/
def Standing.enter (target : Mode) (σ : Standing) : Standing :=
  { σ with mode := target, latch := σ.latch || target == .safeState }

theorem Standing.Latches.trans {σ τ υ : Standing} (h : σ.Latches τ) (k : τ.Latches υ) : σ.Latches υ := by
  obtain ⟨hin, hkeep⟩ := h
  obtain ⟨kin, kkeep⟩ := k
  refine ⟨fun hu => ?_, fun hl => kkeep (hkeep hl)⟩
  rcases kin hu with ht | hl
  · exact (hin ht).imp_right kkeep
  · exact .inr hl

theorem Standing.latches_enter (target : Mode) (σ : Standing) : σ.Latches (σ.enter target) := by
  refine ⟨fun hin => .inr ?_, fun hl => ?_⟩
  · have ht : target = .safeState := hin.2
    simp [Standing.enter, ht]
  · simp [Standing.enter, hl]

namespace Standing.LeadsTo
variable {σ τ υ : Standing}

@[simp] theorem refl (σ : Standing) : σ.LeadsTo σ := ⟨⟨rfl, rfl, .inr ⟨.inl, id⟩⟩, id⟩

theorem of_eq (h : τ = σ) : σ.LeadsTo τ := h ▸ refl σ

theorem trans (h : σ.LeadsTo τ) (k : τ.LeadsTo υ) : σ.LeadsTo υ where
  part := k.part.trans h.part
  stepping := k.stepping.trans h.stepping
  down hd := k.down (h.down hd)
  latches := by
    rcases k.latches with hu | hk
    · exact .inl hu
    rcases h.latches with ht | hh
    · exact .inl (k.down ht)
    · exact .inr (hh.trans hk)

theorem reset (h : σ.LeadsTo τ) : σ.LeadsTo τ.reset :=
  h.trans ⟨⟨rfl, rfl, .inl (.inr rfl)⟩, fun _ => .inr rfl⟩

theorem enter (h : σ.LeadsTo τ) (target : Mode) : σ.LeadsTo (τ.enter target) :=
  h.trans ⟨⟨rfl, rfl, .inr (latches_enter target τ)⟩, id⟩

end Standing.LeadsTo

/-! ### Resets (R519-R521) -/

@[simp] theorem standing_enterReset (warm cause s) : (enterReset warm cause s).standing = s.standing.reset := by
  simp only [enterReset, standing_startWipe]
  have h : (cutFlash (cutFuses s)).standing = s.standing := by simp
  rw [← h]
  rfl

theorem leads_enterReset {σ : Standing} {s : State} (warm cause) (h : σ.LeadsTo s.standing) :
    σ.LeadsTo (enterReset warm cause s).standing := by
  simpa using h.reset

theorem leads_powerOff (s : State) : s.standing.LeadsTo (powerOff s).standing :=
  (leads_enterReset false 0 (.refl _)).trans ⟨⟨rfl, rfl, .inl (.inl rfl)⟩, fun _ => .inl rfl⟩

/-! ### The transition instant (R63-R70) -/

@[simp] theorem standing_statusAt (target cause fromSafe s) :
    (statusAt target cause fromSafe s).standing = s.standing.enter target := by rfl

@[simp] theorem standing_enterMode (target cause fromSafe s) :
    (enterMode target cause fromSafe s).standing = s.standing.enter target := by
  simp [enterMode]

section
variable {σ : Standing} {s : State}

theorem leads_enterMode (target cause fromSafe) (h : σ.LeadsTo s.standing) :
    σ.LeadsTo (enterMode target cause fromSafe s).standing := by
  simpa using h.enter target

/-! ### The start (R75-R79) -/

theorem leads_bootEnd (target cause fromSafe) (h : σ.LeadsTo s.standing) : σ.LeadsTo (bootEnd target cause fromSafe s).standing := by
  unfold bootEnd
  extract_lets ready timed
  have ht : σ.LeadsTo timed.standing := by simpa [timed, ready] using h
  split <;> exact leads_enterMode _ _ _ ht

theorem leads_toFallback (cause) (h : σ.LeadsTo s.standing) : σ.LeadsTo (toFallback cause s).standing :=
  leads_bootEnd _ _ _ (by simpa using h)

theorem leads_bootSettle (h : σ.LeadsTo s.standing) : σ.LeadsTo (bootSettle s).standing := by
  unfold bootSettle
  split
  · exact h
  split
  · exact leads_bootEnd _ _ _ h
  split
  · exact leads_toFallback _ (by simpa using h)
  split
  · exact leads_toFallback _ h
  · exact h

theorem leads_nextSlot (h : σ.LeadsTo s.standing) : σ.LeadsTo (nextSlot s).standing :=
  leads_bootSettle (by simpa using h)

theorem leads_slotFail (slot code) (h : σ.LeadsTo s.standing) : σ.LeadsTo (slotFail slot code s).standing :=
  leads_nextSlot (by simpa using h)

theorem leads_recordFail (code) (h : σ.LeadsTo s.standing) : σ.LeadsTo (recordFail code s).standing :=
  leads_slotFail _ _ (by simpa using h)

/-! ### Register writes: MODE_REQ alone may restart the device (R71) -/

/-- A write that is accepted leads on. -/
def WRes.Leads (σ : Standing) (r : WRes) : Prop := ∀ u, r = .ok u → σ.LeadsTo u.standing

theorem WRes.Keeps.leads {r : WRes} (h : r.Keeps σ) : r.Leads σ := by
  rintro u rfl
  exact .of_eq h

theorem leads_restartGo (warm) (s : State) : (restartGo warm s).Leads s.standing := by
  unfold restartGo
  extract_lets slot
  split
  · exact WRes.Keeps.leads (by simp)
  · rintro u ⟨⟩
    exact (leads_enterReset _ _ (.refl s.standing)).trans (.of_eq rfl)

theorem leads_modeReqWrite (req v) (s : State) : (modeReqWrite req v s).Leads s.standing := by
  unfold modeReqWrite
  extract_lets code
  split
  · exact WRes.Keeps.leads (by simp)
  split
  · exact WRes.Keeps.leads (by simp)
  split
  · exact leads_restartGo _ _
  split
  · exact leads_restartGo _ _
  split <;> exact WRes.Keeps.leads (by simp)

theorem leads_modeWrite (req off v mask) (s : State) : (modeWrite req off v mask s).Leads s.standing := by
  unfold modeWrite
  split
  · exact leads_modeReqWrite _ _ _
  split <;> exact WRes.Keeps.leads (by simp)

theorem leads_kindWrite (k req page off v mask) (s : State) : (kindWrite k req page off v mask s).Leads s.standing := by
  cases k with
  | mode => exact leads_modeWrite _ _ _ _ _
  | _ => exact WRes.Keeps.leads (by simp [kindWrite])

theorem leads_writeReg (req page off) {h} (hh : (h s).Leads s.standing) : s.standing.LeadsTo (writeReg req page off h s).1.standing := by
  rcases standing_writeReg_or req page off h s with e | ⟨u, hu, e⟩
  · exact .of_eq e
  · rw [e]; exact hh u hu

theorem leads_dwordWrite (k req page off v) (s : State) : s.standing.LeadsTo (dwordWrite k req page off v s).1.standing := by
  unfold dwordWrite
  split
  · exact .of_eq (by simp)
  split
  · exact .of_eq (by simp)
  split
  · exact .of_eq (by simp)
  split
  · exact .of_eq (by simp)
  split
  · exact .of_eq (by simp)
  · rw [standing_noteSafeRequest]
    exact leads_writeReg _ _ _ (leads_kindWrite _ _ _ _ _ _ _)

theorem leads_busWrite (req page off v) (s : State) : s.standing.LeadsTo (busWrite req page off v s).1.standing := by
  unfold busWrite
  split
  · exact .refl _
  split
  · exact .refl _
  split
  · exact .of_eq (by simp)
  · exact leads_dwordWrite ..

theorem leads_writeRow (req page off ok v) (s : State) : s.standing.LeadsTo (writeRow req page off ok v s).standing := by
  unfold writeRow
  split
  · exact .refl _
  split
  · exact .refl _
  split
  · exact leads_busWrite ..
  · exact .refl _

theorem leads_modeRow (code req key) (s : State) : s.standing.LeadsTo (modeRow code req key s).standing := by
  unfold modeRow
  extract_lets v
  split
  · rw [standing_noteSafeRequest]
    exact leads_writeReg _ _ _ (leads_modeReqWrite _ _ _)
  · exact .refl _

theorem leads_parkPage (t w err op) (s : State) : s.standing.LeadsTo (parkPage t w err op s).standing := by
  cases op with
  | pageStore ea page off v =>
    refine (leads_busWrite (reqOfThread t) page off v s).trans (.of_eq ?_)
    simp [parkPage]
  | _ => exact .of_eq (by simp [parkPage])

/-! ### Records of the image (R83) -/

theorem leads_loaderWrites (page off vs) (s : State) : s.standing.LeadsTo (loaderWrites page off vs s).1.standing := by
  induction vs generalizing off s with
  | nil => exact .refl _
  | cons v vs ih =>
    have hw := leads_busWrite .loader page off v s
    unfold loaderWrites
    split <;> rename_i hv <;> rw [hv] at hw
    · exact hw.trans (ih ..)
    · exact hw

theorem leads_recordWrites (i page off vs) (h : σ.LeadsTo s.standing) : σ.LeadsTo (recordWrites i page off vs s).standing := by
  have hw := (h.trans (.of_eq (standing_touch page s))).trans (leads_loaderWrites page off vs (touch page s))
  unfold recordWrites
  split <;> rename_i hv <;> rw [hv] at hw
  · simpa using hw
  · exact leads_recordFail _ hw

theorem leads_recordRow (mine) {go} (hgo : ∀ i r, s.standing.LeadsTo (go i r s).standing) : s.standing.LeadsTo (recordRow mine go s).standing := by
  unfold recordRow
  split
  · split
    · split
      · exact leads_recordFail _ (.refl _)
      · exact hgo _ _
    · exact .refl _
  · exact .refl _
end

/-! ### The commands that move the standing -/

/-- The state that a command leaves has a standing that `σ` leads to. -/
def OutcomeLeads (σ : Standing) : Outcome → Prop
  | .next u => σ.LeadsTo u.standing
  | .fault _ | .refused _ => True

theorem OutcomeKeeps.leads {σ : Standing} {o : Outcome} (h : OutcomeKeeps σ o) : OutcomeLeads σ o := by
  cases o with
  | next u => exact .of_eq h
  | _ => trivial

theorem leads_execPowerRemoved (s) : OutcomeLeads s.standing (execPowerRemoved s) := by
  show s.standing.LeadsTo (ite _ _ _ : State).standing
  split
  · exact leads_powerOff s
  · exact .refl _

theorem leads_execPorstNAssert (s) : OutcomeLeads s.standing (execPorstNAssert s) := by
  show s.standing.LeadsTo (ite _ _ _ : State).standing
  split
  · exact leads_enterReset _ _ (.refl _)
  · exact .of_eq rfl

theorem leads_execSysrstNAssert (s) : OutcomeLeads s.standing (execSysrstNAssert s) := by
  show s.standing.LeadsTo (ite _ _ _ : State).standing
  split
  · exact leads_enterReset _ _ (.of_eq rfl)
  · exact .of_eq rfl

theorem leads_execPowerOnDetectorTrip (det s) : OutcomeLeads s.standing (execPowerOnDetectorTrip det s) := by
  show s.standing.LeadsTo (ite _ _ _ : State).standing
  split
  · exact leads_enterReset _ _ (.of_eq rfl)
  · exact .refl _

theorem leads_execModeTransition (s) : OutcomeLeads s.standing (execModeTransition s) := by
  show s.standing.LeadsTo (State.standing _)
  split
  · next t _ _ =>
    have h := leads_enterMode t.target t.cause.toNat (s.modeNow == .safeOperate) (.refl s.standing)
    simpa using h
  · exact .refl _

theorem leads_execHbmTrainingDone (stack ok repairs failCode s) :
    OutcomeLeads s.standing (execHbmTrainingDone stack ok repairs failCode s) := by
  show s.standing.LeadsTo (ite _ _ _ : State).standing
  split
  · exact leads_bootSettle (.of_eq (by simp))
  · exact .refl _

theorem leads_execBootSelftestDone (fail s) : OutcomeLeads s.standing (execBootSelftestDone fail s) := by
  show s.standing.LeadsTo (ite _ _ _ : State).standing
  split
  · exact leads_bootSettle (.of_eq (by simp))
  · exact .refl _

theorem leads_execStagingRecheck (s) : OutcomeLeads s.standing (execStagingRecheck s) := by
  show s.standing.LeadsTo (State.standing _)
  split
  · split
    · exact .of_eq (by simp)
    · exact leads_nextSlot (.of_eq (by simp))
  · exact .refl _

theorem leads_execSlotHeaderRead (s) : OutcomeLeads s.standing (execSlotHeaderRead s) := by
  show s.standing.LeadsTo (State.standing _)
  split
  · split
    · exact leads_slotFail _ _ (.refl _)
    · exact .of_eq (by simp)
  · exact .refl _

theorem leads_execImageStreamEnd (flashError s) : OutcomeLeads s.standing (execImageStreamEnd flashError s) := by
  show s.standing.LeadsTo (State.standing _)
  split
  · split
    · exact leads_slotFail _ _ (.refl _)
    · simp only []
      split
      · exact leads_slotFail _ _ (.refl _)
      · exact .of_eq (by simp)
  · exact .refl _

theorem leads_execRecordWrite (s) : OutcomeLeads s.standing (execRecordWrite s) := by
  refine leads_recordRow _ fun i r => ?_
  split
  · exact leads_recordFail _ (.refl _)
  split
  · exact leads_recordWrites _ _ _ _ (.refl _)
  · exact leads_recordWrites _ _ _ _ (.of_eq (standing_busRead .loader r.page r.off s))

theorem leads_execRecordPayload (s) : OutcomeLeads s.standing (execRecordPayload s) := by
  refine leads_recordRow _ fun i r => ?_
  simp only []
  split
  · exact leads_recordFail _ (.refl _)
  · exact leads_recordWrites _ _ _ _ (.refl _)

theorem leads_execRecordGolden (s) : OutcomeLeads s.standing (execRecordGolden s) := by
  refine leads_recordRow _ fun i r => ?_
  split
  · exact leads_recordFail _ (.refl _)
  · exact leads_recordWrites _ _ _ _ (.of_eq (by simp))

theorem leads_execRecordPoll (s) : OutcomeLeads s.standing (execRecordPoll s) := by
  refine leads_recordRow _ fun i r => ?_
  split
  · exact leads_recordFail _ (.refl _)
  · exact .of_eq (by simp)

theorem leads_execPollTimeout (s) : OutcomeLeads s.standing (execPollTimeout s) := by
  show s.standing.LeadsTo (State.standing _)
  split
  · split
    · exact leads_recordFail _ (.refl _)
    · exact .refl _
  · exact .refl _

theorem leads_execRecordEnd (s) : OutcomeLeads s.standing (execRecordEnd s) := by
  show s.standing.LeadsTo (State.standing _)
  split
  · split
    · exact .refl _
    split
    · exact leads_recordFail _ (.refl _)
    · exact .of_eq (by simp)
  · exact .refl _

theorem leads_execBootReady (s) : OutcomeLeads s.standing (execBootReady s) := by
  show s.standing.LeadsTo (State.standing _)
  split
  · simp only []
    split
    · exact leads_recordFail _ (.of_eq (by simp))
    · simp only [standing_startSupervisors, standing_bootMigrates]
      exact leads_bootEnd _ _ _ (.of_eq (by simp))
  · exact .refl _

theorem leads_execParkCompletion (t err s) : OutcomeLeads s.standing (execParkCompletion t err s) := by
  show s.standing.LeadsTo (ite _ _ _ : State).standing
  split
  · split
    · exact leads_parkPage ..
    · exact .refl _
  · exact .refl _

/-- The device stays what it is, and ends in RESET. -/
theorem steps_execPowerApplied {s u : State} (h : execPowerApplied s = .next u) : s.standing.StepsTo u.standing := by
  cases h
  split
  · have hr (v : State) : (enterReset false 0 v).mode.inReset = true := congrArg Standing.inReset (standing_enterReset false 0 v)
    have hk (v : State) := leads_enterReset false 0 (.refl v.standing)
    exact ⟨(hk _).part, (hk _).stepping, .inl (.inr (hr _))⟩
  · exact (Standing.LeadsTo.refl _).toStepsTo

/-- The standing at the entry to BOOT. -/
def Standing.boot (σ : Standing) : Standing := { σ with inReset := false, mode := .boot }

theorem Standing.latches_boot (σ : Standing) : σ.Latches σ.boot :=
  ⟨fun h => Mode.noConfusion (show Mode.boot = .safeState from h.2), id⟩

theorem Standing.stepsTo_boot (σ : Standing) : σ.StepsTo σ.boot := ⟨rfl, rfl, .inr σ.latches_boot⟩

theorem Standing.stepsTo_boot_enter (σ : Standing) (target : Mode) : σ.StepsTo (σ.boot.enter target) :=
  ⟨rfl, rfl, .inr (σ.latches_boot.trans (latches_enter target σ.boot))⟩

@[simp] theorem standing_bootStatus (s) : (bootStatus s).standing = s.standing.boot := by rfl

/-- The start enters BOOT, or ZEROIZE where its cause is held (R522). -/
theorem steps_execBootEntry {s u : State} (h : execBootEntry s = .next u) : s.standing.StepsTo u.standing := by
  cases h
  split
  · extract_lets booted logged started
    have hs : started.standing = s.standing.boot := by simp [started, logged, booted]
    split
    · simpa [hs] using s.standing.stepsTo_boot_enter .zeroize
    split
    · simpa [hs] using s.standing.stepsTo_boot_enter .zeroize
    · simpa [hs] using s.standing.stepsTo_boot
  · exact (Standing.LeadsTo.refl _).toStepsTo

end Sys2Proof.Machine
end

section
/-! Every step (R69): each command and a tick, and what follows for SS_LATCH. -/
namespace Sys2Proof.Machine
open Sys2Proof

/-- Every command but power-up and the entry to BOOT: those that restart the device, end BOOT, write a register or take a transition to its
instant by their own lemmas, the rest because they keep the standing. -/
theorem exec_leads (c : Instr) (s : State) (hp : c ≠ .powerApplied) (hb : c ≠ .bootEntry) : OutcomeLeads s.standing (exec c s) := by
  cases c with
  | powerApplied => exact absurd rfl hp
  | bootEntry => exact absurd rfl hb
  | powerRemoved => exact leads_execPowerRemoved ..
  | porstNAssert => exact leads_execPorstNAssert ..
  | sysrstNAssert => exact leads_execSysrstNAssert ..
  | powerOnDetectorTrip => exact leads_execPowerOnDetectorTrip ..
  | hbmTrainingDone => exact leads_execHbmTrainingDone ..
  | bootSelftestDone => exact leads_execBootSelftestDone ..
  | stagingRecheck => exact leads_execStagingRecheck ..
  | slotHeaderRead => exact leads_execSlotHeaderRead ..
  | imageStreamEnd => exact leads_execImageStreamEnd ..
  | recordWrite => exact leads_execRecordWrite ..
  | recordPayload => exact leads_execRecordPayload ..
  | recordGolden => exact leads_execRecordGolden ..
  | recordPoll => exact leads_execRecordPoll ..
  | pollTimeout => exact leads_execPollTimeout ..
  | recordEnd => exact leads_execRecordEnd ..
  | bootReady => exact leads_execBootReady ..
  | reqConfigure | reqCommission | reqOperate | reqSafeOperate | reqDegraded | reqSafeState | reqMaintenance | reqZeroize
    | warmRestart | coldRestart => exact leads_modeRow ..
  | modeTransition => exact leads_execModeTransition ..
  | registerWrite | reg64LowWrite | reg64HighWrite | softReset | errClr | intStatusClear | intForce | cfgGoldenWrite
    | contextWindowWrite => exact leads_writeRow ..
  | reg64LowRead | readClear | timeNsRead => exact .of_eq (standing_readRow ..)
  | flashRead | flashProgram | flashErase | validate | invalidate => exact .of_eq (standing_flashRow ..)
  | parkCompletion => exact leads_execParkCompletion ..
  | add | sub | and | or | xor | andn | sll | srl | sra | rotr | slt | sltu | min | max | minu | maxu | mul | mulh | mulhu | clz
    | ctz | popc | bswap2 | bswap4 | bswap8 | addw | subw | addi | andi | ori | xori | slti | sltiu | lui | slli | srli | srai
    | orih | bfxu | bfxs | bfi | bfc | bfd => exact .of_eq (standing_regInsn ..)
  | lb | lbu | lh | lhu | lw | lwu | ld | lhs | lws | lds =>
    exact .of_eq (standing_runInsn _ _ _ _ (keeps_loadBody _ _ _ _ _ _ _ _ _ rfl))
  | sb | sh | sw | sd | shs | sws | sds => exact .of_eq (standing_runInsn _ _ _ _ (keeps_storeBody _ _ _ _ _ _ _ _ rfl))
  | aaddW | aaddD | aswpW | aswpD | acasW | acasD => exact .of_eq (standing_runInsn _ _ _ _ (keeps_amoBody _ _ _ _ _ _ _ _ rfl))
  | set | timeStep | setAtPps => exact .of_eq (standing_timeRow ..)
  | txDb | rxDb => exact .of_eq (standing_doorbell ..)
  | injTokenFlip | injTokenWithhold | injLockstep | injClock | injRail | injWatchdog | injScState | injXchkSelf =>
    exact .of_eq (standing_injRow ..)
  | keyProg | keyRevoke | provision | toField | nonce | toReturn | scrap | debugUnlock => exact .of_eq (standing_lifeRow ..)
  | halt | dbgResume | step | abandon | traceStart | traceStop => exact .of_eq (standing_dbgRow ..)
  | tapReset | bypass => exact .of_eq (standing_tap ..)
  | extest | clamp | highz => exact .of_eq (standing_pinTap ..)
  | porstNRelease => exact (keeps_execPorstNRelease ..).leads
  | sysrstNRelease => exact (keeps_execSysrstNRelease ..).leads
  | pllLockLoss => exact (keeps_execPllLockLoss ..).leads
  | refClockLoss => exact (keeps_execRefClockLoss ..).leads
  | refClockReturn => exact (keeps_execRefClockReturn ..).leads
  | tamperEvent => exact (keeps_execTamperEvent ..).leads
  | wipeDone => exact (keeps_execWipeDone ..).leads
  | zeroizeDone => exact (keeps_execZeroizeDone ..).leads
  | softResetDone => exact (keeps_execSoftResetDone ..).leads
  | memoryError => exact (keeps_execMemoryError ..).leads
  | cfgCheckPass => exact (keeps_execCfgCheckPass ..).leads
  | cfgCompare => exact (keeps_execCfgCompare ..).leads
  | goldenGraceExpiry => exact (keeps_execGoldenGraceExpiry ..).leads
  | flashComplete => exact (keeps_execFlashComplete ..).leads
  | linkUp => exact (keeps_execLinkUp ..).leads
  | linkDown => exact (keeps_execLinkDown ..).leads
  | anFail => exact (keeps_execAnFail ..).leads
  | flLaneCfgWrite => exact (keeps_execFlLaneCfgWrite ..).leads
  | flFmxCfgWrite => exact (keeps_execFlFmxCfgWrite ..).leads
  | trLaneCfgWrite => exact (keeps_execTrLaneCfgWrite ..).leads
  | trGroupCfgWrite => exact (keeps_execTrGroupCfgWrite ..).leads
  | mgpCfgWrite => exact (keeps_execMgpCfgWrite ..).leads
  | fmxRoundTx => exact (keeps_execFmxRoundTx ..).leads
  | fmxMarkerRx => exact (keeps_execFmxMarkerRx ..).leads
  | fmxSlotBlockRx => exact (keeps_execFmxSlotBlockRx ..).leads
  | frameArrival => exact (keeps_execFrameArrival ..).leads
  | fcsCheck => exact (keeps_execFcsCheck ..).leads
  | parse => exact (keeps_execParse ..).leads
  | classify => exact (keeps_execClassify ..).leads
  | liftAdmit => exact (keeps_execLiftAdmit ..).leads
  | ruleWrite => exact (keeps_execRuleWrite ..).leads
  | ruleRead => exact (keeps_execRuleRead ..).leads
  | ruleInvalidate => exact (keeps_execRuleInvalidate ..).leads
  | flip => exact (keeps_execFlip ..).leads
  | clearHits => exact (keeps_execClearHits ..).leads
  | classCfgWrite => exact (keeps_execClassCfgWrite ..).leads
  | ruleScrub => exact (keeps_execRuleScrub ..).leads
  | genDrainTimeout => exact (keeps_execGenDrainTimeout ..).leads
  | emInsert => exact (keeps_execEmInsert ..).leads
  | emDelete => exact (keeps_execEmDelete ..).leads
  | emFind => exact (keeps_execEmFind ..).leads
  | emQuarantine => exact (keeps_execEmQuarantine ..).leads
  | emRelease => exact (keeps_execEmRelease ..).leads
  | indEntryWrite => exact (keeps_execIndEntryWrite ..).leads
  | indCheckPass => exact (keeps_execIndCheckPass ..).leads
  | admitPkt => exact (keeps_execAdmit ..).leads
  | spillReturn => exact (keeps_execSpillReturn ..).leads
  | bind => exact (keeps_execBind ..).leads
  | packetFirm => exact (keeps_execPacketFirm ..).leads
  | gateRelease => exact (keeps_execGateRelease ..).leads
  | gateTimeout => exact (keeps_execGateTimeout ..).leads
  | snowploughExit => exact (keeps_execSnowploughExit ..).leads
  | deadlockDeclaration => exact (keeps_execDeadlockDeclaration ..).leads
  | hangDeclaration => exact (keeps_execHangDeclaration ..).leads
  | migrationRewrite => exact (keeps_execMigrationRewrite ..).leads
  | migrationActivate => exact (keeps_execMigrationActivate ..).leads
  | threadTimerExpiry => exact (keeps_execThreadTimerExpiry ..).leads
  | asyncCompletion => exact (keeps_execAsyncCompletion ..).leads
  | mailboxDelivery => exact (keeps_execMailboxDelivery ..).leads
  | mailboxPop => exact (keeps_execMailboxPop ..).leads
  | icsWindowWrite => exact (keeps_execIcsWindowWrite ..).leads
  | icsCheckPass => exact (keeps_execIcsCheckPass ..).leads
  | threadResume => exact (keeps_execThreadResume ..).leads
  | threadRestart => exact (keeps_execThreadRestart ..).leads
  | threadReset => exact (keeps_execThreadReset ..).leads
  | pstFaultPop => exact (keeps_execPstFaultPop ..).leads
  | telFaultPop => exact (keeps_execTelFaultPop ..).leads
  | gateRecPop => exact (keeps_execGateRecPop ..).leads
  | beq => exact (keeps_execBeq ..).leads
  | bne => exact (keeps_execBne ..).leads
  | blt => exact (keeps_execBlt ..).leads
  | bge => exact (keeps_execBge ..).leads
  | bltu => exact (keeps_execBltu ..).leads
  | bgeu => exact (keeps_execBgeu ..).leads
  | j => exact (keeps_execJ ..).leads
  | jal => exact (keeps_execJal ..).leads
  | jalr => exact (keeps_execJalr ..).leads
  | csrrd => exact (keeps_execCsrrd ..).leads
  | csrwr => exact (keeps_execCsrwr ..).leads
  | wait => exact (keeps_execWait ..).leads
  | yield => exact (keeps_execYield ..).leads
  | fence => exact (keeps_execFence ..).leads
  | tstart => exact (keeps_execTstart ..).leads
  | tstop => exact (keeps_execTstop ..).leads
  | commit => exact (keeps_execCommit ..).leads
  | send => exact (keeps_execSend ..).leads
  | cpsave => exact (keeps_execCpsave ..).leads
  | cprestore => exact (keeps_execCprestore ..).leads
  | stage => exact (keeps_execStage ..).leads
  | trap => exact (keeps_execTrap ..).leads
  | coprocGet => exact (keeps_execCoprocGet ..).leads
  | pktBufw => exact (keeps_execPktBufw ..).leads
  | pktOvr => exact (keeps_execPktOvr ..).leads
  | pktIns => exact (keeps_execPktIns ..).leads
  | pktDel => exact (keeps_execPktDel ..).leads
  | pktPush => exact (keeps_execPktPush ..).leads
  | pktPop => exact (keeps_execPktPop ..).leads
  | pktRd => exact (keeps_execPktRd ..).leads
  | pktLen => exact (keeps_execPktLen ..).leads
  | pktUndo => exact (keeps_execPktUndo ..).leads
  | crcInit => exact (keeps_execCrcInit ..).leads
  | crcUpd => exact (keeps_execCrcUpd ..).leads
  | crcPrange => exact (keeps_execCrcPrange ..).leads
  | crcFin => exact (keeps_execCrcFin ..).leads
  | crcCset => exact (keeps_execCrcCset ..).leads
  | crcCadd => exact (keeps_execCrcCadd ..).leads
  | crcCrange => exact (keeps_execCrcCrange ..).leads
  | crcCfin => exact (keeps_execCrcCfin ..).leads
  | crcCinc => exact (keeps_execCrcCinc ..).leads
  | lkpKeyw => exact (keeps_execLkpKeyw ..).leads
  | lkpFfind => exact (keeps_execLkpFfind ..).leads
  | lkpFins => exact (keeps_execLkpFins ..).leads
  | lkpFdel => exact (keeps_execLkpFdel ..).leads
  | lkpHfind => exact (keeps_execLkpHfind ..).leads
  | lkpHins => exact (keeps_execLkpHins ..).leads
  | lkpHdel => exact (keeps_execLkpHdel ..).leads
  | lkpRfind => exact (keeps_execLkpRfind ..).leads
  | crySetp => exact (keeps_execCrySetp ..).leads
  | cryGcm => exact (keeps_execCryGcm ..).leads
  | cryCmac => exact (keeps_execCryCmac ..).leads
  | crySha => exact (keeps_execCrySha ..).leads
  | cryPoll => exact (keeps_execCryPoll ..).leads
  | cryKload => exact (keeps_execCryKload ..).leads
  | cryKzero => exact (keeps_execCryKzero ..).leads
  | sigRdin => exact (keeps_execSigRdin ..).leads
  | sigSetq => exact (keeps_execSigSetq ..).leads
  | sigWrout => exact (keeps_execSigWrout ..).leads
  | sigDone => exact (keeps_execSigDone ..).leads
  | sigInfo => exact (keeps_execSigInfo ..).leads
  | timNow => exact (keeps_execTimNow ..).leads
  | timArr => exact (keeps_execTimArr ..).leads
  | timSched => exact (keeps_execTimSched ..).leads
  | timTxts => exact (keeps_execTimTxts ..).leads
  | timCorr => exact (keeps_execTimCorr ..).leads
  | cycleStart => exact (keeps_execCycleStart ..).leads
  | deadline => exact (keeps_execDeadline ..).leads
  | deadlineMarker => exact (keeps_execDeadlineMarker ..).leads
  | nodeFire => exact (keeps_execNodeFire ..).leads
  | unpack => exact (keeps_execUnpack ..).leads
  | pack => exact (keeps_execPack ..).leads
  | xchkCompare => exact (keeps_execXchkCompare ..).leads
  | xchkMissing => exact (keeps_execXchkMissing ..).leads
  | xchkSealCompare => exact (keeps_execXchkSealCompare ..).leads
  | holdTimeout => exact (keeps_execHoldTimeout ..).leads
  | load => exact (keeps_execLoad ..).leads
  | unload => exact (keeps_execUnload ..).leads
  | swap => exact (keeps_execSwap ..).leads
  | force => exact (keeps_execForce ..).leads
  | unforce => exact (keeps_execUnforce ..).leads
  | sigeTblPass => exact (keeps_execSigeTblPass ..).leads
  | xchkClear => exact (keeps_execXchkClear ..).leads
  | cellRequest => exact (keeps_execCellRequest ..).leads
  | chainFree => exact (keeps_execChainFree ..).leads
  | bpmAlloc => exact (keeps_execBpmAlloc ..).leads
  | bpmFree => exact (keeps_execBpmFree ..).leads
  | bpmReclaim => exact (keeps_execBpmReclaim ..).leads
  | dynAlloc => exact (keeps_execDynAlloc ..).leads
  | dynFree => exact (keeps_execDynFree ..).leads
  | scratchpadScrub => exact (keeps_execScratchpadScrub ..).leads
  | acquire => exact (keeps_execAcquire ..).leads
  | acquireArm => exact (keeps_execAcquireArm ..).leads
  | semaRelease => exact (keeps_execSemaRelease ..).leads
  | semaState => exact (keeps_execSemaState ..).leads
  | semaCmdAcquire => exact (keeps_execSemaCmdAcquire ..).leads
  | semaCmdRelease => exact (keeps_execSemaCmdRelease ..).leads
  | semaReclaim => exact (keeps_execSemaReclaim ..).leads
  | retire => exact (keeps_execRetire ..).leads
  | semaCmdState => exact (keeps_execSemaCmdState ..).leads
  | semaCapWrite => exact (keeps_execSemaCapWrite ..).leads
  | semaOrphPop => exact (keeps_execSemaOrphPop ..).leads
  | hbmRequest => exact (keeps_execHbmRequest ..).leads
  | hbmRequestComplete => exact (keeps_execHbmRequestComplete ..).leads
  | requestLate => exact (keeps_execRequestLate ..).leads
  | refreshDue => exact (keeps_execRefreshDue ..).leads
  | refreshViolation => exact (keeps_execRefreshViolation ..).leads
  | hbmTempRead => exact (keeps_execHbmTempRead ..).leads
  | hbmTempFault => exact (keeps_execHbmTempFault ..).leads
  | hbmScrubPass => exact (keeps_execHbmScrubPass ..).leads
  | flowFillComplete => exact (keeps_execFlowFillComplete ..).leads
  | quarantineScan => exact (keeps_execQuarantineScan ..).leads
  | hbmFence => exact (keeps_execHbmFence ..).leads
  | writeContext => exact (keeps_execWriteContext ..).leads
  | readContext => exact (keeps_execReadContext ..).leads
  | hbmQuarPop => exact (keeps_execHbmQuarPop ..).leads
  | hbmFlowBaseWrite => exact (keeps_execHbmFlowBaseWrite ..).leads
  | tmAdmit => exact (keeps_execTmAdmit ..).leads
  | txStart port => exact (keeps_execTxStart port s).leads
  | txComplete => exact (keeps_execTxComplete ..).leads
  | telDelivery => exact (keeps_execTelDelivery ..).leads
  | gclEntryEnd => exact (keeps_execGclEntryEnd ..).leads
  | configChange => exact (keeps_execConfigChange ..).leads
  | gclChangeTime => exact (keeps_execGclChangeTime ..).leads
  | verifyResult => exact (keeps_execVerifyResult ..).leads
  | recoveryReset => exact (keeps_execRecoveryReset ..).leads
  | streamEntryWrite => exact (keeps_execStreamEntryWrite ..).leads
  | tmTblPass => exact (keeps_execTmTblPass ..).leads
  | tsPop => exact (keeps_execTsPop ..).leads
  | timeAdjWrite => exact (keeps_execTimeAdjWrite ..).leads
  | ppsInEdge => exact (keeps_execPpsInEdge ..).leads
  | ppsOutRise => exact (keeps_execPpsOutRise ..).leads
  | ppsOutFall => exact (keeps_execPpsOutFall ..).leads
  | evtDb => exact (keeps_execEvtDb ..).leads
  | descriptorFetch => exact (keeps_execDescriptorFetch ..).leads
  | txRetry => exact (keeps_execTxRetry ..).leads
  | hostReadCompletion => exact (keeps_execHostReadCompletion ..).leads
  | rxDelivery => exact (keeps_execRxDelivery ..).leads
  | msixMessage => exact (keeps_execMsixMessage ..).leads
  | instEnable => exact (keeps_execInstEnable ..).leads
  | instShareWrite => exact (keeps_execInstShareWrite ..).leads
  | instReset => exact (keeps_execInstReset ..).leads
  | instDrainTimeout => exact (keeps_execInstDrainTimeout ..).leads
  | instResetComplete => exact (keeps_execInstResetComplete ..).leads
  | apply => exact (keeps_execApply ..).leads
  | reject => exact (keeps_execReject ..).leads
  | sync => exact (keeps_execSync ..).leads
  | dirtyRestart => exact (keeps_execDirtyRestart ..).leads
  | toHbm => exact (keeps_execToHbm ..).leads
  | fromHbm => exact (keeps_execFromHbm ..).leads
  | pcieLinkDown => exact (keeps_execPcieLinkDown ..).leads
  | pcieLinkUp => exact (keeps_execPcieLinkUp ..).leads
  | functionLevelReset => exact (keeps_execFunctionLevelReset ..).leads
  | safetyRecord => exact (keeps_execSafetyRecord ..).leads
  | scCompare => exact (keeps_execScCompare ..).leads
  | clockWindow => exact (keeps_execClockWindow ..).leads
  | voltageDeparture => exact (keeps_execVoltageDeparture ..).leads
  | dieTempRead => exact (keeps_execDieTempRead ..).leads
  | xchkSelfcheck => exact (keeps_execXchkSelfcheck ..).leads
  | pstWdKick => exact (keeps_execPstWdKick ..).leads
  | safeWdKickTel => exact (keeps_execSafeWdKickTel ..).leads
  | watchdogExpiry => exact (keeps_execWatchdogExpiry ..).leads
  | safeInSample => exact (keeps_execSafeInSample ..).leads
  | safeInDisc => exact (keeps_execSafeInDisc ..).leads
  | thermtrip => exact (keeps_execThermtrip ..).leads
  | pennantEdge => exact (keeps_execPennantEdge ..).leads
  | stSlotStart => exact (keeps_execStSlotStart ..).leads
  | stCoreOffline => exact (keeps_execStCoreOffline ..).leads
  | stTestDone => exact (keeps_execStTestDone ..).leads
  | stIdleTimeout => exact (keeps_execStIdleTimeout ..).leads
  | safeRecPop => exact (keeps_execSafeRecPop ..).leads
  | logRdWrite => exact (keeps_execLogRdWrite ..).leads
  | append => exact (keeps_execAppend ..).leads
  | buntingSample => exact (keeps_execBuntingSample ..).leads
  | histRead => exact (keeps_execHistRead ..).leads
  | smbusBlockWrite => exact (keeps_execSmbusBlockWrite ..).leads
  | smbusBlockRead => exact (keeps_execSmbusBlockRead ..).leads
  | stepTimeout => exact (keeps_execStepTimeout ..).leads
  | idcode => exact (keeps_execIdcode ..).leads
  | samplePreload => exact (keeps_execSamplePreload ..).leads
  | powerOnDetectorRelease => exact (keeps_execPowerOnDetectorRelease ..).leads
  | completionTimeout => exact (keeps_execCompletionTimeout ..).leads
  | fuseProgrammingDone => exact (keeps_execFuseProgrammingDone ..).leads
  | bitmapRebuild => exact (keeps_execBitmapRebuild ..).leads
  | deadlineMarkerTimeout => exact (keeps_execDeadlineMarkerTimeout ..).leads
  -- `Instr.seal`, whose name is also a command's keyword and cannot head an alternative
  | _ => exact (keeps_execSeal ..).leads

theorem exec_stepsTo {c : Instr} {s u : State} (h : exec c s = .next u) : s.standing.StepsTo u.standing := by
  by_cases hp : c = .powerApplied
  · subst hp; exact steps_execPowerApplied h
  by_cases hb : c = .bootEntry
  · subst hb; exact steps_execBootEntry h
  have hl := exec_leads c s hp hb
  rw [h] at hl
  exact hl.toStepsTo

/-- What a step does to the standing: nothing clears the latch of a device that is up, and no entry to SAFE-STATE leaves it clear. -/
theorem step_stepsTo {s u : State} (h : step s = .next u) : s.standing.StepsTo u.standing := by
  unfold step at h
  split at h
  · cases h
    exact (Standing.LeadsTo.of_eq (standing_tick s)).toStepsTo
  · have hs := exec_stepsTo h
    exact hs

/-- A device that is down is in RESET or in OFF (R64). -/
theorem modeNow_of_down {s : State} (h : s.standing.Down) : s.modeNow = .reset ∨ s.modeNow = .off := by
  unfold State.modeNow
  by_cases hp : s.mode.powered = false
  · exact .inr (if_pos hp)
  · have hr : s.mode.inReset = true := h.resolve_left hp
    exact .inl (by rw [if_neg hp, if_pos hr])

/-- A device that is up is in its mode. -/
theorem modeNow_of_up {s : State} (h : ¬ s.standing.Down) : s.modeNow = s.mode.mode := by
  have hp : ¬ s.mode.powered = false := fun hp => h (.inl hp)
  have hr : ¬ s.mode.inReset = true := fun hr => h (.inr hr)
  rw [State.modeNow, if_neg hp, if_neg hr]

theorem modeNow_eq_safeState_iff {s : State} : s.modeNow = .safeState ↔ s.standing.InSafe := by
  by_cases hd : s.standing.Down
  · rcases modeNow_of_down hd with hm | hm <;> simp [hm, Standing.InSafe, hd]
  · rw [modeNow_of_up hd]
    exact (and_iff_right hd).symm

theorem Mode.code_lt (m : Mode) : m.code < 16 := by
  cases m <;> decide

/-- MODE_STATUS.SS_LATCH is bit 18 (R70): the fields below it fill 18 bits, and those above it start at bit 19. -/
theorem bit_modeStatus_ssLatch (s : State) : bit s.modeStatus 18 = s.mode.ssLatch := by
  have hcause := s.mode.cause.isLt
  have hprev := s.mode.prev.code_lt
  have hmode := s.mode.mode.code_lt
  have hready : b2n s.mode.ready < 2 := by cases s.mode.ready <;> decide
  have hdefaults : b2n s.mode.cfgDefaults < 2 := by cases s.mode.cfgDefaults <;> decide
  have htrue : b2n true = 1 := rfl
  have hfalse : b2n false = 0 := rfl
  simp only [State.modeStatus, bit, w32, BitVec.getLsbD_ofNat, Nat.testBit_eq_decide_div_mod_eq]
  cases s.mode.ssLatch <;> simp only [htrue, hfalse] <;> simp <;> omega

/-- Settles O58: a step keeps the latch of a device that is up and sets it at an entry to SAFE-STATE, as every piece of it does; one that
leaves the device down leaves it in RESET or in OFF. -/
theorem safeStateIsLatched : Obligations.SafeStateIsLatched := by
  refine ⟨fun s u h => ?_, bit_modeStatus_ssLatch⟩
  simp only [ne_eq, modeNow_eq_safeState_iff]
  obtain ⟨-, -, hdown | ⟨hin, hkeep⟩⟩ := step_stepsTo h
  · exact ⟨fun hsafe => absurd hdown hsafe.1, fun _ => .inr (modeNow_of_down hdown)⟩
  · exact ⟨fun hsafe hs => (hin hsafe).resolve_left hs, fun hl => .inl (hkeep hl)⟩

end Sys2Proof.Machine
end

section
/-! SUPPORT. What a refused register write leaves alone (R44, R48): the fault of the thread that made it, with all that the fault sets off,
moves no watchdog and keeps every page's STATUS, where the refusal has put its code. -/
namespace Sys2Proof.Machine
open Sys2Proof

/-- The watchdogs, and the STATUS register of every page. -/
structure RefusalView where
  wds : SMap Watchdog
  status : Nat → Word

def State.refusalView (s : State) : RefusalView where
  wds := s.safety.wds
  status page := s.reg page 0x14

/-! ### The state's operations -/

@[simp] theorem refusalView_withFree (s : State) (n : Nat) : { s with free := n }.refusalView = s.refusalView := rfl
@[simp] theorem refusalView_withTelFaults (s : State) (q : RecQueue FaultRec) :
    { s with telFaults := q }.refusalView = s.refusalView := rfl
@[simp] theorem refusalView_emit (x : Out) (s : State) : (emit x s).refusalView = s.refusalView := rfl
@[simp] theorem refusalView_setThr (t : Nat) (th : Thread) (s : State) : (setThr t th s).refusalView = s.refusalView := rfl
@[simp] theorem refusalView_updThr (t : Nat) (f : Thread → Thread) (s : State) : (updThr t f s).refusalView = s.refusalView := rfl
@[simp] theorem refusalView_updPiste (p : Nat) (f : Piste → Piste) (s : State) : (updPiste p f s).refusalView = s.refusalView := rfl
@[simp] theorem refusalView_putBytes (a : Nat) (b : Bytes) (s : State) : (putBytes a b s).refusalView = s.refusalView := rfl
@[simp] theorem refusalView_post (kind page d0 d1 : Nat) (s : State) : (post kind page d0 d1 s).refusalView = s.refusalView := rfl

/-- Keys of the window differ where the offsets differ within a page. -/
theorem regKey_ne_status {page off : Nat} (q : Nat) (h : off % 65536 ≠ 0x14) : regKey q 0x14 ≠ regKey page off := by
  unfold regKey
  omega

@[simp] theorem refusalView_setReg {page off : Nat} (v : Word) (s : State) (h : off % 65536 ≠ 0x14) :
    (setReg page off v s).refusalView = s.refusalView := by
  simp [State.refusalView, reg_setReg_ne s v (regKey_ne_status _ h)]
@[simp] theorem refusalView_bump {page off : Nat} (s : State) (h : off % 65536 ≠ 0x14) :
    (bump page off s).refusalView = s.refusalView := refusalView_setReg _ _ h
@[simp] theorem refusalView_bumpWrap {page off : Nat} (s : State) (h : off % 65536 ≠ 0x14) :
    (bumpWrap page off s).refusalView = s.refusalView := refusalView_setReg _ _ h
@[simp] theorem refusalView_hbmCount_trace (s : State) : (hbmCount 15 s).refusalView = s.refusalView := by
  simp [hbmCount, bump64, bump64By, setReg64]
@[simp] theorem refusalView_putHbm (addr : Nat) (b : Bytes) (s : State) : (putHbm addr b s).refusalView = s.refusalView := by
  unfold putHbm
  split <;> simp
@[simp] theorem refusalView_raise (page : Nat) (causes : Word) (s : State) : (raise page causes s).refusalView = s.refusalView := by
  simp [State.refusalView, reg_raise, regKey_ne_status]
@[simp] theorem refusalView_raiseBit (page i : Nat) (s : State) : (raiseBit page i s).refusalView = s.refusalView :=
  refusalView_raise ..

/-! ### The fault of a thread -/

theorem tPiste_lt_four {t : Nat} (h : isTel t = false) : tPiste t < 4 := by
  simp only [isTel, decide_eq_false_iff_not] at h
  unfold tPiste
  omega

@[simp] theorem refusalView_traceEv (t kind : Nat) (d0 d1 : W64) (s : State) : (traceEv t kind d0 d1 s).refusalView = s.refusalView := by
  unfold traceEv
  extract_lets p c r n s'
  split
  · rfl
  · rename_i hruns
    have hpiste : p < 4 := tPiste_lt_four (by simp_all)
    have hcount : s'.refusalView = s.refusalView := refusalView_bumpWrap s (by omega)
    split <;> simp [hcount]

@[simp] theorem refusalView_endDeadlock (t : Nat) (s : State) : (endDeadlock t s).refusalView = s.refusalView := by
  unfold endDeadlock
  split <;> simp

@[simp] theorem refusalView_haltThr (t cause : Nat) (s : State) : (haltThr t cause s).refusalView = s.refusalView := by
  unfold haltThr
  simp only [refusalView_traceEv, refusalView_setThr]
  split <;> simp

@[simp] theorem refusalView_stepEnds (s : State) : (stepEnds s).refusalView = s.refusalView := by
  unfold stepEnds
  extract_lets a
  split <;> simp

@[simp] theorem refusalView_retired (t : Nat) (word pc : W64) (s : State) : (retired t word pc s).refusalView = s.refusalView := by
  unfold retired
  extract_lets s' th
  split <;> simp [lastHit, s']

@[simp] theorem refusalView_wake (t : Nat) (s : State) : (wake t s).refusalView = s.refusalView := by
  unfold wake
  extract_lets th ev
  split
  · split <;> simp
  · rfl

@[simp] theorem refusalView_deliverFault (t : Nat) (r : FaultRec) (s : State) : (deliverFault t r s).refusalView = s.refusalView := by
  unfold deliverFault
  split
  · simp
  split
  · split; split <;> simp
  · extract_lets p
    split; split <;> simp

@[simp] theorem refusalView_faultThr (t cause : Nat) (insn : Word) (addr : Nat) (s : State) :
    (faultThr t cause insn addr s).refusalView = s.refusalView := by
  unfold faultThr
  extract_lets th gate r th' s'
  have hlost : s'.refusalView = s.refusalView := by
    unfold s'
    split <;> simp
  simp [hlost]

@[simp] theorem refusalView_refuseThread (req : Requester) (page off : Nat) (s : State) :
    (refuseThread req page off s).refusalView = s.refusalView := by
  unfold refuseThread
  split
  · extract_lets th w
    split <;> simp
  · rfl

/-! ### The refusal -/

/-- A refusal for want of a right leaves the watchdogs, and in the page's STATUS the code. -/
theorem refusalView_refuse_notOwner (req : Requester) (page off : Nat) (touches : Bool) (s : State) :
    ∃ before : State, before.refusalView = s.refusalView ∧
      (refuse req page off .notOwner touches s).refusalView = (setRfld page 0x14 15 12 Status.notOwner.code before).refusalView := by
  refine ⟨setReg page 0x54 (w32 (reqForm req + off)) (bump page 0x50 s), by simp, ?_⟩
  simp [refuse]

theorem wds_refuse_notOwner (req : Requester) (page off : Nat) (touches : Bool) (s : State) :
    (refuse req page off .notOwner touches s).safety.wds = s.safety.wds := by
  obtain ⟨before, hbefore, hview⟩ := refusalView_refuse_notOwner req page off touches s
  calc (refuse req page off .notOwner touches s).safety.wds
      = (setRfld page 0x14 15 12 Status.notOwner.code before).safety.wds := congrArg RefusalView.wds hview
    _ = before.safety.wds := rfl
    _ = s.safety.wds := congrArg RefusalView.wds hbefore

/-- The field of the last refusal's code reads back what was written. -/
theorem fld_setFld_lastCode (w : Word) {v : Nat} (hv : v < 16) : fld (setFld w 15 12 v) 15 12 = v := by
  have hw := w.isLt
  simp [fld, setFld]
  omega

theorem lastCode_refuse_notOwner (req : Requester) (page off : Nat) (touches : Bool) (s : State) :
    fld ((refuse req page off .notOwner touches s).reg page 0x14) 15 12 = Status.notOwner.code := by
  obtain ⟨before, -, hview⟩ := refusalView_refuse_notOwner req page off touches s
  have hstatus : (refuse req page off .notOwner touches s).reg page 0x14 =
      setFld (before.reg page 0x14) 15 12 Status.notOwner.code := by
    simpa [State.refusalView, setRfld] using congrArg (·.status page) hview
  rw [hstatus, fld_setFld_lastCode _ (by decide)]

end Sys2Proof.Machine
end

section
/-! Watchdog kicks (R467): the two kick registers, and a write that no right allows. -/
namespace Sys2Proof.Machine
open Sys2Proof

/-- Outside BOOT no mode forbids a write that is neither of a configuration set nor of INT_FORCE (R45, R60, R73). -/
theorem modeForbids_eq_false {s : State} (k : PageKind) (req : Requester) {off : Nat} (hboot : s.modeNow ≠ .boot)
    (hcfg : isCfg off = false) (hforce : off ≠ 0x28) : modeForbids s k req off = false := by
  unfold modeForbids
  split
  · rfl
  · split
    · exact absurd ‹_› hboot
    all_goals simp [hcfg, hforce]

/-- There only NOT_OWNER can be found against the write, so a register's own NOT_OWNER is the code reported (R62). -/
theorem firstStatus_judge_notOwner {s : State} (k : PageKind) (req : Requester) (page : Nat) {off : Nat} (hboot : s.modeNow ≠ .boot)
    (hcfg : isCfg off = false) (hforce : off ≠ 0x28) : firstStatus (judge s req k page off ++ [.notOwner]) = some .notOwner := by
  simp only [judge, modeForbids_eq_false k req hboot hcfg hforce, hcfg]
  by_cases hright : hasRight s k req || instRight k req off <;> simp [hright, firstStatus]

/-- A row that its register refuses with NOT_OWNER is refused with it, whoever writes. -/
theorem regRow_notOwner {s : State} {req : Requester} {page off : Nat} {h : State → WRes} (hpage : (pageKind s.part page).isSome = true)
    (hlive : s.live = true) (hboot : s.modeNow ≠ .boot) (hreq : reqOk s.part req = true) (hcfg : isCfg off = false)
    (hforce : off ≠ 0x28) (hs : h s = .refuse .notOwner) :
    ∃ touches, regRow req page off h s = refuse req page off .notOwner touches s := by
  obtain ⟨k, hk⟩ := Option.isSome_iff_exists.mp hpage
  refine ⟨touchesSafety k off, ?_⟩
  simp [regRow, hreq, writeReg, hlive, hk, hs, firstStatus_judge_notOwner k req page hboot hcfg hforce]

theorem exec_pstWdKick (req : Requester) (p : BitVec 2) (v : Word) (s : State) :
    exec (.pstWdKick req p v) s = .next (regRow req (pPST p.toNat) 0x8200 (pstKick p.toNat req v) s) := rfl
theorem exec_safeWdKickTel (req : Requester) (m : BitVec 1) (v : Word) (s : State) :
    exec (.safeWdKickTel req m v) s = .next (regRow req pSAFE (0x8040 + 4 * m.toNat) (telKick m.toNat req v) s) := rfl

/-- PST_WD_KICK takes the write of a thread of the piste's supervisor core. -/
theorem pstKick_supervisor {p : Nat} {t : BitVec 11} (v : Word) (s : State) (hsup : isSup t.toNat = true) (hpiste : tPiste t.toNat = p) :
    pstKick p (.core t) v s = .ok (wdKick p v s) := by
  simp [pstKick, hsup, hpiste]

/-- PST_WD_KICK refuses every other thread. -/
theorem pstKick_other {p : Nat} {req : Requester} (v : Word) (s : State)
    (hother : (∃ t, req = .core t ∧ (isSup t.toNat = false ∨ tPiste t.toNat ≠ p)) ∨ ∃ t, req = .tel t) :
    pstKick p req v s = .refuse .notOwner := by
  rcases hother with ⟨t, rfl, hsup | hpiste⟩ | ⟨t, rfl⟩
  · simp [pstKick, hsup]
  · simp [pstKick, hpiste]
  · rfl

/-- SAFE_WD_KICK_TEL takes the write of a thread of its pair. -/
theorem telKick_own {n : Nat} {t : BitVec 3} (v : Word) (s : State) (hpair : t.toNat / 4 = n) :
    telKick n (.tel t) v s = .ok (wdKick (4 + n) v s) := by
  simp [telKick, hpair]

theorem isCfg_safeWdKickTel (m : BitVec 1) : isCfg (0x8040 + 4 * m.toNat) = false := by
  revert m
  decide

/-- Settles O59: the kick registers judge the writer themselves, and a refusal leaves the watchdogs alone, though it faults the thread. -/
theorem watchdogKicks : Obligations.WatchdogKicks := by
  intro s v
  refine ⟨fun t p hsup hpiste hp => ?_, fun req p hpage hlive hboot hreq hother => ?_, fun t m hpair hp => ?_⟩
  · rw [exec_pstWdKick, regRow_ok hp (by decide) (pstKick_supervisor v s hsup hpiste)]
  · obtain ⟨touches, hrow⟩ :=
      regRow_notOwner hpage hlive hboot hreq (off := 0x8200) (by decide) (by decide) (pstKick_other v s hother)
    refine ⟨refuse req (pPST p.toNat) 0x8200 .notOwner touches s, ?_, ?_, ?_⟩
    · rw [exec_pstWdKick, hrow]
    · exact lastCode_refuse_notOwner ..
    · exact wds_refuse_notOwner ..
  · rw [exec_safeWdKickTel, regRow_ok hp (isCfg_safeWdKickTel m) (telKick_own v s hpair)]

end Sys2Proof.Machine
end
